-- ==== Sys2Proof/Word.lean ====
section
/-! DEFINITION. The words of the part and the names its manual uses: bytes, platform time, and the
enumerations and small records that commands carry and State holds. -/

namespace Sys2Proof

/-- A byte of the host link or of the pack link. -/
abbrev Byte := BitVec 8

/-- Platform time: a 32-bit count of milliseconds that wraps (00, Platform time). -/
abbrev Time := BitVec 32

/-- The milliseconds from `since` to `now`, allowing for the wrap. -/
abbrev Time.age (now since : Time) : Nat := (now - since).toNat

/-- The two channels of the host link (00, Channels). -/
inductive Channel where
  | S
  | P
  deriving DecidableEq, Repr

/-- The channel and the tag a request carries (12 section 12.6). -/
structure ReqHead where
  chan : Channel
  tag  : Byte
  deriving DecidableEq, Repr

/-- Pack A or pack B. -/
inductive PackId where
  | A
  | B
  deriving DecidableEq, Repr

/-- The three sources of the path (01 section 1.1). -/
inductive Source where
  | adapter
  | packA
  | packB
  deriving DecidableEq, Repr

/-- The source a pack is. -/
abbrev PackId.source : PackId → Source
  | .A => .packA
  | .B => .packB

/-- The five jobs (10 section 10.1). -/
inductive Job where
  | power
  | link
  | hinge
  | keys
  | thermal
  deriving DecidableEq, Repr

/-- The statuses of a reply (00, Requests, replies and statuses). -/
inductive Status where
  | ok
  | accepted
  | unknownKind
  | badValue
  | busy
  | notNow
  | retry
  | empty
  | qfull
  | notOpen
  | noDevice
  | exclusive
  | denied
  | faultActive
  deriving DecidableEq, Repr

/-- The 29 event sources (11 section 11.1), in the order of their numbers. -/
inductive EvSource where
  | buttonPressPending
  | lidOpened
  | lidClosed
  | postureChanged
  | keysAvailable
  | keyOverflow
  | platformKey
  | adapterAttached
  | adapterRemoved
  | packInserted
  | packRemoved
  | packIdentified
  | sourceChanged
  | ejectReady
  | chargePhase
  | chargeDone
  | batteryLow
  | batteryCritical
  | budgetExceeded
  | linkDone
  | captureWaiting
  | captureLost
  | hingeError
  | fanHoldLost
  | thermalWarn
  | faultActive
  | jobState
  | storeDone
  | woke
  deriving DecidableEq, Repr

/-- The 13 fault codes, in order of precedence (10 section 10.2). -/
inductive FaultCode where
  | pathSwitchFail
  | adapterOvervolt
  | chargerSilent
  | chargeTimeout
  | prechargeTimeout
  | packSilent
  | railFail
  | thermalTrip
  | fanStall
  | sensorSilent
  | linkStuck
  | hingeSensor
  | matrixShort
  deriving DecidableEq, Repr

/-- The six monitor sources of the hinge sensor (05 section 5.5). -/
inductive HingeSource where
  | vectorLow
  | clip
  | spin
  | calInvalid
  | gainLimit
  | offsetLimit
  deriving DecidableEq, Repr

/-- The two hinge switch lines (06 section 6.1). -/
inductive HingeSwitch where
  | lid
  | tablet
  deriving DecidableEq, Repr

/-- The four temperature inputs (08 section 8.1). -/
inductive ThermalInput where
  | ts0
  | ts1
  | die
  | hostrep
  deriving DecidableEq, Repr

/-- The two temperature sensors on the pack link (04 section 4.6). -/
inductive Sensor where
  | ts0
  | ts1
  deriving DecidableEq, Repr

/-- The input a sensor fills. -/
abbrev Sensor.input : Sensor → ThermalInput
  | .ts0 => .ts0
  | .ts1 => .ts1

/-- Fan 0 or fan 1 (08 section 8.1). -/
inductive Fan where
  | fan0
  | fan1
  deriving DecidableEq, Repr

/-- A key of the matrix, column × 8 + row (07 section 7.1). -/
abbrev Key := Fin 144

/-- One byte as HL_RXD receives it: its data and whether its stop bit was high (R189). -/
structure RxByte where
  data : Byte
  stop : Bool
  deriving DecidableEq, Repr

/-- What the pack link shows at the end of a transaction: whether every byte sent was acknowledged,
the data and the check byte read, and the levels of the two lines afterwards (R70, R71). -/
structure BusEnd where
  ack     : Bool
  data    : List Byte
  check   : Byte
  sclHigh : Bool
  sdaHigh : Bool
  deriving DecidableEq, Repr

/-- The levels of the input lines at power-on (R196 step 6, R105, R117, R168). -/
structure Lines where
  senseMv   : BitVec 16
  idMv      : BitVec 16
  packADet  : Bool
  packBDet  : Bool
  lid       : Bool
  tablet    : Bool
  button    : Bool
  mainPg    : Bool
  sclHigh   : Bool
  sdaHigh   : Bool
  deriving DecidableEq, Repr

/-- The fields of a profile entry as STAGE PROFILE ENTRY carries them (02 section 2.12, 12 section
12.6): enumerated fields as their number, the rest as words. -/
structure RawEntry where
  valid        : Byte
  chemistry    : Byte
  bandLow      : BitVec 16
  bandHigh     : BitVec 16
  cellMv       : BitVec 16
  maxMa        : BitVec 16
  useRequest   : Byte
  preCellMv    : BitVec 16
  preMa        : BitVec 16
  taperMa      : BitVec 16
  preMin       : Byte
  fastMin      : BitVec 16
  deriving DecidableEq, Repr

/-- What SET FAN CURVE POINT carries: a point, or the two limits (R151). -/
inductive RawCurve where
  | point (fan set point : Byte) (temp : BitVec 16) (duty : Byte)
  | limits (floor trip : BitVec 16)
  deriving DecidableEq, Repr

/-- The three fields SET LINK DEVICE carries for a definable entry only (R69). -/
structure RawDefinable where
  defined : Byte
  address : Byte
  check   : Byte
  deriving DecidableEq, Repr

/-- The monitor and latch enable of one hinge source as SET HINGE MONITOR carries them (R104). -/
structure RawEnable where
  monitor : Byte
  latch   : Byte
  deriving DecidableEq, Repr

end Sys2Proof
end

