-- ==== Sys2Proof/Syntax.lean ====
section
/-! DEFINITION. The commands of the part: one constructor per row of spec/opcode_table.json, in its
order. A request carries its channel and tag and its fields as the wire carries them (12 section
12.6), so that every value the wire can carry, in range or not, can be written. -/

namespace Sys2Proof

/-- A command: one whole, indivisible step of the part (95). -/
inductive Instr where
  -- start-up and host link (12)
  | powerOn (lines : Lines)
  | hostFrameReceived (bytes : List RxByte)
  | frameGapTimeout
  | frameSent
  -- the path and the packs (01)
  | readPack (h : ReqHead) (pack : Byte)
  | readPath (h : ReqHead)
  | setSourcePreference (h : ReqHead) (pref : Byte)
  | setAdapterLimit (h : ReqHead) (limit : BitVec 32)
  | prepareEject (h : ReqHead) (pack : Byte)
  | cancelEject (h : ReqHead)
  -- charging (02)
  | readCharge (h : ReqHead)
  | setCharge (h : ReqHead) (inhibitA inhibitB order threshold : Byte)
  | openProfileRow (h : ReqHead) (row : Byte)
  | stageProfileEntry (h : ReqHead) (slot : Byte) (entry : RawEntry)
  | commitProfile (h : ReqHead)
  | cancelProfile (h : ReqHead)
  | readProfileEntry (h : ReqHead) (entry : Byte)
  -- budget (03)
  | readBudget (h : ReqHead)
  | setDischargeLimit (h : ReqHead) (pack : Byte) (limit : BitVec 32)
  -- pack link (04)
  | setLinkDevice (h : ReqHead) (entry segLen abort retry hold : Byte) (definable : Option RawDefinable)
  | linkTransfer (h : ReqHead) (entry dir cmd len : Byte) (data : List Byte)
  | linkResult (h : ReqHead)
  | readLinkStatus (h : ReqHead) (clear : Byte)
  -- hinge (05)
  | readAngle (h : ReqHead)
  | captureAngle (h : ReqHead)
  | readCapture (h : ReqHead)
  | setHingeMonitor (h : ReqHead) (vl cl sp ci gl ol : RawEnable) (hyst : Byte) (nominal : BitVec 16)
  | clearHingeErrors (h : ReqHead)
  | saveCalibration (h : ReqHead)
  -- posture (06)
  | readPosture (h : ReqHead)
  | setPostureThresholds (h : ReqHead) (standEnter standLeave tabletEnter tabletLeave dwell : BitVec 16)
  -- keyboard (07)
  | fetchKeys (h : ReqHead) (max : Byte)
  | readKeyMap (h : ReqHead) (choice : Byte)
  | setKeyboard (h : ReqHead) (press release : Byte) (delay period : BitVec 16) (wake : Byte) (map : Option (List Byte))
  -- thermal (08)
  | readThermal (h : ReqHead) (choice : Byte)
  | reportTemperature (h : ReqHead) (temp : BitVec 16)
  | setFanCurvePoint (h : ReqHead) (what : RawCurve)
  | pushHold (h : ReqHead) (fan0 fan1 : Byte) (expiry : BitVec 16)
  | popHold (h : ReqHead)
  | readHolds (h : ReqHead)
  -- platform (09)
  | enterState (h : ReqHead) (target : Byte)
  | setWake (h : ReqHead) (sleepMask offMask low critical shutdown autoOn : Byte)
  | setWakeTimer (h : ReqHead) (seconds : BitVec 32)
  | readWake (h : ReqHead)
  | takePress (h : ReqHead)
  -- faults and jobs (10)
  | fetchFault (h : ReqHead)
  | clearFault (h : ReqHead) (code : Byte)
  | restartJob (h : ReqHead) (job : Byte)
  | haltJob (h : ReqHead) (job dest : Byte)
  | setRecovery (h : ReqHead) (power link hinge keys thermal : Byte)
  -- events (11)
  | fetchEvents (h : ReqHead) (max : Byte)
  | setRoute (h : ReqHead) (source route : Byte)
  -- host link and store (12)
  | identify (h : ReqHead)
  | resetPart (h : ReqHead)
  | readStoreStatus (h : ReqHead)
  | saveSettings (h : ReqHead)
  | profileCommitComplete
  | calibrationSaveComplete
  | settingsSaveComplete
  -- events of the adapter, the packs and the path (01)
  | adapterPresence (mv idMv : BitVec 16)
  | adapterQualified
  | adapterRangeReturn (mv : BitVec 16)
  | adapterOutOfRange (mv : BitVec 16)
  | adapterRemoval (mv : BitVec 16)
  | adapterOvervolt (mv : BitVec 16)
  | unusableHoldEnd (src : Source)
  | presenceAsserted (pack : PackId)
  | insertionDebounceEnd (pack : PackId)
  | presenceDeasserted (pack : PackId)
  | identityRetryDelay (pack : PackId)
  | pathRailConfirmed (railMv : BitVec 16)
  | switchFailure
  | ejectWindowExpired
  -- events of charging (02) and the budget (03)
  | snapshotStale (pack : PackId)
  | prechargeTimeout (pack : PackId)
  | chargeTimeout (pack : PackId)
  | reductionDeadlineExpired
  | inputMeasurement (mv : BitVec 16) (ma : Int)
  | throttleRelease
  -- events of the pack link (04)
  | transactionEnd (bus : BusEnd)
  | holdTimeout
  | linkRecoveryEnd (sclHigh sdaHigh : Bool)
  | snapshotDue (pack : PackId)
  | sensorReadDue (sensor : Sensor)
  -- events of the hinge and the posture (05, 06)
  | samplePair (sin cos : BitVec 12)
  | persistenceTimerExpired (src : HingeSource)
  | switchLineChange (line : HingeSwitch) (asserted : Bool)
  | switchDebouncedEdge (line : HingeSwitch)
  | dwellExpired
  | firstEvaluation
  -- events of the keyboard (07)
  | scanEnd (sensed : List Key)
  | idleTimerExpired
  | rowDetected
  | typematicExpiry
  -- events of the thermal controller (08)
  | dieConversion (tenths : Int)
  | inputAgeExpired (input : ThermalInput)
  | holdExpired
  | tachPulse (fan : Fan) (intervalUs : Nat)
  | tachTimeout (fan : Fan)
  | stallTimerExpired (fan : Fan)
  -- events of the platform (09)
  | settleTimerExpired
  | mainRailDelayExpired
  | mainPgAsserted
  | powerGoodTimeout
  | mainPgLost
  | powerButtonChange (asserted : Bool)
  | powerButtonDebounced
  | longPress
  | graceTimerExpired
  | wakeTimerExpired
  deriving DecidableEq, Repr

end Sys2Proof
end

