-- ==== Sys2Proof/WellFormed.lean ====
section
/-! DEFINITION. The commands a sender of the part can give: what the wires can carry and the sources of
events that exist. -/

namespace Sys2Proof

/-- A source of the hinge monitor that has a persistence timer (R95). -/
def HingeSource.persists : HingeSource → Bool
  | .vectorLow => true
  | .clip => true
  | .spin => true
  | .calInvalid => true
  | .gainLimit => false
  | .offsetLimit => false

/-- Whether a command can be given. A request's fields are those its kind has (12 section 12.6): three
more in SET LINK DEVICE for a definable entry (R69), a map of 144 keys or none in SET KEYBOARD (R134), and at
most 184 bytes of data in LINK TRANSFER, which 4 parts carry (R190). A sensed set names a position once
(R120), a persistence timer is an error source's (R95), and a read of the pack link gives at most 48 bytes. -/
def Instr.wellFormed : Instr → Bool
  | .setLinkDevice _ entry _ _ _ _ d => d.isSome = decide (5 ≤ entry.toNat ∧ entry.toNat ≤ 7)
  | .setKeyboard _ _ _ _ _ _ map => map.all (·.length = 144)
  | .linkTransfer _ _ _ _ _ data => data.length ≤ 184
  | .scanEnd sensed => decide sensed.Nodup
  | .persistenceTimerExpired src => src.persists
  | .transactionEnd bus => bus.data.length ≤ 48
  | _ => true

end Sys2Proof
end

