-- ==== Sys2Proof/Decode.lean ====
section
/-! DEFINITION. The commands that words spell. The opcode table gives no row any bits: a request reaches
the part as a frame of the host link (12 section 12.6), whose reading stands in Machine/HostLink.lean. -/

namespace Sys2Proof

/-- No word spells a command: no row of the opcode table gives bits (log entry 33). -/
def decodeTableWord (_nbits _w : Nat) : Option Instr := none

end Sys2Proof
end

