-- ==== Sys2Proof/Config.lean ====
section
/-! DEFINITION. What an implementation fixes and the manual does not: the free values. Nothing in
Lean can evaluate them or prove a value of them. -/

namespace Sys2Proof

/-- The gain, in thousandths, a tracker update computes when the positive and the negative peak of
the channel are equal: R91 divides by their difference and states no result there (log entry 9).
The argument is the nominal amplitude. R92's limits apply to the value. -/
opaque Config.gainOfEqualPeaks : Nat → Int

/-- Whether a device holds PL_SCL low over the millisecond of this number in which PLC looks at the line in a
transaction or a recovery (R71): an input of the part whose changes no row of the table gives (log entry 22). -/
opaque Config.sclHeldLow : Nat → Bool

end Sys2Proof
end

