-- ==== Sys2Proof/Machine/Records.lean ====
section
/-! DEFINITION. The records the thirteen blocks keep, each as the chapter that owns it lists it. -/

namespace Sys2Proof.Machine

/-! ## PTH: the path, the adapter and the Pack Table (01) -/

/-- The path state (01 section 1.1). -/
inductive PathState where
  | onAdapter
  | onPackA
  | onPackB
  | switching (target : Source)
  | noSource
  deriving DecidableEq, Repr

/-- The source preference (R11). -/
inductive Preference where
  | auto
  | preferA
  | preferB
  deriving DecidableEq, Repr

/-- Where the adapter rating came from (R4). -/
inductive RatingSource where
  | id
  | default
  deriving DecidableEq, Repr

/-- Why the adapter lost its qualification (R2). -/
inductive AdapterLoss where
  | removed
  | outOfRange
  | overvolt
  deriving DecidableEq, Repr

/-- The adapter record (01 section 1.2), the levels of its two pins and its 20 ms count. -/
structure Adapter where
  present      : Bool
  qualified    : Bool
  overvolt     : Bool
  rating       : Nat
  ratingSource : RatingSource
  hostLimit    : Option Nat
  lastMv       : Nat
  lastMa       : Nat
  hold         : Option Nat
  count        : Option Nat
  senseMv      : Nat
  idMv         : Nat
  seenFirst    : Bool
  deriving DecidableEq, Repr

/-- The presence state of a pack record (01 section 1.3). -/
inductive Presence where
  | absent
  | detected
  | present
  | ejectPending
  | ejectReady
  | faulted
  deriving DecidableEq, Repr

/-- A pack's identity, with its optional-item mask (01 section 1.3). -/
structure Identity where
  serial     : Nat
  chemistry  : Nat
  cells      : Nat
  capacity   : Nat
  reqVoltage : Bool
  reqCurrent : Bool
  cycles     : Bool
  deriving DecidableEq, Repr

/-- One complete set of readings of a pack (01 section 1.3). -/
structure Snapshot where
  voltage         : Nat
  current         : Int
  temp            : Int
  remaining       : Nat
  full            : Nat
  overTemp        : Bool
  overCharge      : Bool
  terminate       : Bool
  fullyCharged    : Bool
  fullyDischarged : Bool
  reqVoltage      : Option Nat
  reqCurrent      : Option Nat
  cycles          : Option Nat
  time            : Time
  deriving DecidableEq, Repr

/-- A record of the Pack Table (01 section 1.3), with its presence line and its debounce (R7), and
the series of identity attempts (R8). -/
structure Pack where
  line      : Bool
  presence  : Presence
  identity  : Option Identity
  snapshot  : Option Snapshot
  relCharge : Option Nat
  failRun   : Nat
  hold      : Option Nat
  usable    : Bool
  debounce  : Option Nat
  attempts  : Nat
  retryWait : Option Nat
  deriving DecidableEq, Repr

/-- The Path Controller (01); `postponed` says that the selection of a snapshot publication waits for the
next selection that is carried out (R12, R15). -/
structure Pth where
  path        : PathState
  settled     : PathState
  swAdp       : Bool
  swPa        : Bool
  swPb        : Bool
  ejectOk     : Bool
  knownMv     : Nat
  ejectWindow : Option Nat
  postponed   : Bool
  preference  : Preference
  adapter     : Adapter
  packA       : Pack
  packB       : Pack
  deriving DecidableEq, Repr

/-! ## CHC: charge control and the Profile Table (02) -/

/-- The reason of a suspended session (02 section 2.1). -/
inductive SuspendReason where
  | temp
  | thermal
  | budget
  | stale
  | packAlarm
  deriving DecidableEq, Repr

/-- The reason of charge state FAULT (02 section 2.1). -/
inductive ChargeFault where
  | chargeTimeout
  | prechargeTimeout
  deriving DecidableEq, Repr

/-- The charge states (02 section 2.1). -/
inductive ChargeState where
  | inhibitedHost
  | inhibitedUnsupported
  | idle
  | qualify
  | precharge
  | fast
  | topoff
  | suspended (r : SuspendReason)
  | done
  | fault (r : ChargeFault)
  deriving DecidableEq, Repr

/-- The phase a suspension stands in for (R30). -/
inductive SuspendedPhase where
  | precharge
  | fast
  deriving DecidableEq, Repr

/-- The charge record of a pack (02 section 2.1), with its inhibit setting (R36). -/
structure Charge where
  state     : ChargeState
  entry     : Option Nat
  preTime   : Nat
  fastTime  : Nat
  taperRun  : Nat
  phase     : Option SuspendedPhase
  doneSince : Bool
  relAtDone : Option Nat
  inhibit   : Bool
  deriving DecidableEq, Repr

/-- The charge order (02 section 2.2). -/
inductive ChargeOrder where
  | auto
  | firstA
  | firstB
  deriving DecidableEq, Repr

/-- An entry of the Profile Table (02 section 2.12). -/
structure ProfileEntry where
  valid      : Bool
  chemistry  : Nat
  bandLow    : Int
  bandHigh   : Int
  cellMv     : Nat
  maxMa      : Nat
  useRequest : Bool
  preCellMv  : Nat
  preMa      : Nat
  taperMa    : Nat
  preMin     : Nat
  fastMin    : Nat
  deriving DecidableEq, Repr

/-- A setpoint: charge voltage, charge current and enable (02 section 2.9). -/
structure Setpoint where
  mv     : Nat
  ma     : Nat
  enable : Bool
  deriving DecidableEq, Repr

/-- The charge session saved in the POWER job's catch record (R38). -/
structure ChargeCatch where
  pack     : PackId
  state    : ChargeState
  entry    : Option Nat
  preTime  : Nat
  fastTime : Nat
  deriving DecidableEq, Repr

/-- The Charge Controller (02). -/
structure Chc where
  a           : Charge
  b           : Charge
  order       : ChargeOrder
  threshold   : Nat
  table       : List ProfileEntry
  default0    : Bool
  default1    : Bool
  openRow     : Option Nat
  latches     : List (Option ProfileEntry)
  committing  : Option (List ProfileEntry)
  desired     : Setpoint
  inForce     : Option Setpoint
  inFlight    : Option Setpoint
  flightVoid  : Bool
  next        : Option Setpoint
  chgEn       : Bool
  deadline    : Option Nat
  caught      : Option ChargeCatch
  deriving DecidableEq, Repr

/-! ## BGA: the power budget (03) -/

/-- The mode of the Budget Allocator (R54). -/
inductive Mode where
  | adapter
  | battery
  | none
  deriving DecidableEq, Repr

/-- The throttle state (03 section 3.5). -/
inductive Throttle where
  | released
  | asserted
  | releasing
  deriving DecidableEq, Repr

/-- The Budget Allocator: the grant record (03 section 3.1), the owner of the episode (R63), the discharge limits (R65),
and, as the model's own field, what is left of the 50 ms after the last reduction of the applied grant (R43, log
entry 42). -/
structure Bga where
  mode         : Mode
  inMv         : Nat
  inMa         : Nat
  pIn          : Nat
  limit        : Nat
  dChg         : Nat
  dFan         : Nat
  sys          : Nat
  allowance    : Int
  refPack      : Option PackId
  refMv        : Option Nat
  computed     : Nat
  applied      : Nat
  cutLeft      : Option Nat
  packPower    : Nat
  throttle     : Throttle
  release      : Option Nat
  episodeStart : Option Time
  episodeOwner : Option Source
  dischargeA   : Nat
  dischargeB   : Nat
  deriving DecidableEq, Repr

/-! ## PLC: the pack link (04) -/

/-- The class of a link device (04 section 4.1). -/
inductive LinkClass where
  | packA
  | packB
  | charger
  | sensor
  | other
  deriving DecidableEq, Repr

/-- The abort policy of a link device (R74). -/
inductive Abort where
  | discard
  | retry
  deriving DecidableEq, Repr

/-- The fields of a Link Device Table entry that are settings (R68). -/
structure LinkPolicy where
  defined    : Bool
  address    : Option Nat
  check      : Bool
  segLen     : Nat
  abort      : Abort
  retryLimit : Nat
  holdLimit  : Nat
  deriving DecidableEq, Repr

/-- An entry of the Link Device Table (04 section 4.1). -/
structure LinkDevice where
  cls      : LinkClass
  policy   : LinkPolicy
  noack    : Bool
  hold     : Bool
  badcheck : Bool
  deriving DecidableEq, Repr

/-- The four clients of the link (04 section 4.3). -/
inductive Client where
  | charger
  | pass
  | packPoll
  | sensorPoll
  deriving DecidableEq, Repr

/-- A transaction: a read item or a write item of one device (04 section 4.2). -/
structure Txn where
  entry : Nat
  write : Bool
  cmd   : Nat
  len   : Nat
  data  : List Byte
  deriving DecidableEq, Repr

/-- The six outcomes of a transaction (R70). -/
inductive TxOutcome where
  | done (data : List Byte)
  | noack
  | badCheck
  | holdTimeout
  | noDevice
  | stuck
  deriving DecidableEq, Repr

/-- The transaction given to the link (04 section 4.2): its client and item, the entry's settings as they
stand at its start (R69), and the bytes PLC sends for it, with the check byte where the entry's flag is set
(R68). -/
structure OnWire where
  client : Client
  item   : Txn
  policy : LinkPolicy
  sent   : List Byte
  deriving DecidableEq, Repr

/-- The link state (04 section 4.2). In RECOVERY it keeps whether the transaction had been started. -/
inductive LinkState where
  | idle
  | busy
  | recovery (started : Bool)
  deriving DecidableEq, Repr

/-- The setpoint write in progress (R75): which of its three items is next, and its repetitions. -/
structure WriteWork where
  setpoint : Setpoint
  stage    : Nat
  reps     : Nat
  deriving DecidableEq, Repr

/-- The nine items of a snapshot (R76). -/
inductive SnapItem where
  | voltage
  | current
  | temperature
  | remaining
  | full
  | status
  | reqVoltage
  | reqCurrent
  | cycles
  deriving DecidableEq, Repr

/-- What the pack poller has in progress (R76, R77). `todo` lists the items not yet read, the one in
the slot or on the wire first; `got` is the working snapshot. -/
inductive PollWork where
  | identity (pack : PackId)
  | snapshot (pack : PackId) (todo : List SnapItem) (got : Snapshot)
  deriving DecidableEq, Repr

/-- A poll schedule entry: the start of the previous read, whether a read is due, whether it fell due by
its period and not at once, and since when (R78, R79). -/
structure Poll where
  started  : Option Time
  due      : Bool
  byPeriod : Bool
  dueAt    : Time
  deriving DecidableEq, Repr

/-- A pass-through transfer, outstanding or saved (04 section 4.7, R83). -/
structure Pass where
  entry  : Nat
  write  : Bool
  cmd    : Nat
  len    : Nat
  segLen : Nat
  buf    : List Byte
  seg    : Nat
  done   : Nat
  reps   : Nat
  failed : Bool
  deriving DecidableEq, Repr

/-- How a pass-through ended (R82). -/
inductive PassOutcome where
  | done
  | partly
  | failed
  | noDevice
  | abandoned
  deriving DecidableEq, Repr

/-- The result record of a pass-through (04 section 4.7). -/
structure PassResult where
  outcome : PassOutcome
  entry   : Nat
  write   : Bool
  cmd     : Nat
  len     : Nat
  done    : Nat
  data    : List Byte
  time    : Time
  deriving DecidableEq, Repr

/-- Which poll slot was served last (R73). -/
inductive PollSlot where
  | packPoll
  | sensorPoll
  deriving DecidableEq, Repr

/-- The Pack Link Controller (04). The hold time is how long the hold under way on PL_SCL has lasted, in ms: it counts
up to 51, beyond the greatest hold limit (R71). `looks` is the model's own: it counts the free values read for the
level of PL_SCL (log entry 22). -/
structure Plc where
  devices     : List LinkDevice
  link        : LinkState
  wire        : Option OnWire
  discard     : Bool
  gone        : Bool
  holdTime    : Nat
  looks       : Nat
  sclHigh     : Bool
  sdaHigh     : Bool
  chargerSlot : Option Txn
  passSlot    : Option Txn
  packSlot    : Option Txn
  sensorSlot  : Option Txn
  write       : Option WriteWork
  work        : Option PollWork
  asked       : List PackId
  pollA       : Poll
  pollB       : Poll
  pollTs0     : Poll
  pollTs1     : Poll
  runTs0      : Nat
  runTs1      : Nat
  reading     : Option Sensor
  alternation : PollSlot
  pass        : Option Pass
  caught      : Option Pass
  result      : Option PassResult
  deriving DecidableEq, Repr

/-! ## HSI: the hinge sensor (05) -/

/-- A channel of the hinge sensor. -/
inductive HingeChannel where
  | sine
  | cosine
  deriving DecidableEq, Repr

/-- The tracker of one channel (05 section 5.3). -/
structure Tracker where
  posPeak    : Int
  negPeak    : Int
  gain       : Nat
  offset     : Int
  gainMark   : Bool
  offsetMark : Bool
  deriving DecidableEq, Repr

/-- A peak of a channel: its channel and its sign (R91). -/
structure Peak where
  chan     : HingeChannel
  positive : Bool
  deriving DecidableEq, Repr

/-- The collection of a peak's extreme reading (R91): the window it is for, whether the window was
entered by its lower side, and the extreme so far. -/
structure Collection where
  peak    : Peak
  fromLow : Bool
  extreme : Int
  deriving DecidableEq, Repr

/-- A monitor source: condition as last evaluated, flag and enables (R94). -/
structure Monitor where
  cond    : Bool
  flag    : Bool
  monitor : Bool
  latch   : Bool
  deriving DecidableEq, Repr

/-- The six monitor sources. -/
structure Monitors where
  vectorLow   : Monitor
  clip        : Monitor
  spin        : Monitor
  calInvalid  : Monitor
  gainLimit   : Monitor
  offsetLimit : Monitor
  deriving DecidableEq, Repr

/-- The persistence timers of the four error sources, in milliseconds (R95). -/
structure Persistence where
  vectorLow  : Nat
  clip       : Nat
  spin       : Nat
  calInvalid : Nat
  deriving DecidableEq, Repr

/-- The angle validity (05 section 5.6). -/
inductive Validity where
  | referenced
  | unreferenced
  | failed
  deriving DecidableEq, Repr

/-- The two enables of a calibrated source (05 section 5.7). -/
structure Enables where
  monitor : Bool
  latch   : Bool
  deriving DecidableEq, Repr

/-- The calibration record (05 section 5.7). -/
structure Calibration where
  nominal     : Nat
  gainSin     : Nat
  gainCos     : Nat
  offsetSin   : Int
  offsetCos   : Int
  closedRef   : Nat
  hysteresis  : Nat
  vectorLow   : Enables
  clip        : Enables
  spin        : Enables
  gainLimit   : Enables
  offsetLimit : Enables
  deriving DecidableEq, Repr

/-- The source of a capture (05 section 5.8). -/
inductive CaptureSource where
  | lidSwitch
  | tabletSwitch
  | posture
  | request
  deriving DecidableEq, Repr

/-- An entry of the Capture Queue (05 section 5.8). -/
structure Capture where
  angle    : Nat
  source   : CaptureSource
  validity : Validity
  time     : Time
  deriving DecidableEq, Repr

/-- The Hinge Sensor Interface (05). -/
structure Hsi where
  nominal      : Nat
  closedRef    : Nat
  hysteresis   : Nat
  sin          : Tracker
  cos          : Tracker
  collection   : Option Collection
  raw          : Nat
  reported     : Nat
  awaitFirst   : Bool
  magnitude    : Nat
  rejected     : Bool
  speed        : Nat
  history      : List (Option Nat)
  monitors     : Monitors
  persistence  : Persistence
  validity     : Validity
  stored       : Calibration
  standIn      : Bool
  captures     : List Capture
  lost         : Bool
  deriving DecidableEq, Repr

/-! ## PSM: posture (06) -/

/-- The five postures (06 section 6.1). -/
inductive Posture where
  | closed
  | laptop
  | stand
  | tablet
  | unknown
  deriving DecidableEq, Repr

/-- The angle bands (R109). -/
inductive Band where
  | laptop
  | stand
  | tablet
  deriving DecidableEq, Repr

/-- A hinge switch line: its level as last seen, its debounced level and its count (R107). -/
structure SwitchLine where
  level     : Bool
  debounced : Bool
  count     : Option Nat
  deriving DecidableEq, Repr

/-- The posture thresholds and the dwell setting (06 section 6.1). -/
structure PostureSettings where
  standEnter  : Nat
  standLeave  : Nat
  tabletEnter : Nat
  tabletLeave : Nat
  dwell       : Nat
  deriving DecidableEq, Repr

/-- The Posture Monitor (06). -/
structure Psm where
  lid        : SwitchLine
  tablet     : SwitchLine
  conflict   : Bool
  band       : Option Band
  candidate  : Posture
  current    : Posture
  dwell      : Option Nat
  lastChange : Option (Time × Posture)
  settings   : PostureSettings
  angle      : Nat
  validity   : Validity
  evaluated  : Bool
  sincePower : Nat
  deriving DecidableEq, Repr

/-! ## KBS: the keyboard (07) -/

/-- The scan modes (07 section 7.2). -/
inductive ScanMode where
  | active
  | idleDetect
  | suppressed
  deriving DecidableEq, Repr

/-- The states of a key (07 section 7.3). -/
inductive KeyState where
  | up
  | pressPending
  | down
  | releasePending
  | blocked
  deriving DecidableEq, Repr

/-- The attributes of a key (07 section 7.1). -/
inductive KeyAttr where
  | normal
  | modifier
  | platform
  deriving DecidableEq, Repr

/-- An entry of the Key State Table (07 section 7.3). -/
structure KeyEntry where
  state     : KeyState
  count     : Nat
  pressedAs : KeyAttr
  deriving DecidableEq, Repr

/-- The kinds of queued key events (07 section 7.4). -/
inductive KeyKind where
  | press
  | release
  | again
  | overflow
  deriving DecidableEq, Repr

/-- An entry of the Key Event Queue (07 section 7.4). -/
structure KeyEvent where
  key       : Option Nat
  kind      : KeyKind
  synthetic : Bool
  time      : Time
  deriving DecidableEq, Repr

/-- The typematic record (R126): the key, whether it is REPEATING, and the time to the next repeat. -/
structure Typematic where
  key       : Nat
  repeating : Bool
  left      : Nat
  deriving DecidableEq, Repr

/-- The keyboard settings and the attribute map (07 section 7.1). -/
structure KeySettings where
  pressDebounce   : Nat
  releaseDebounce : Nat
  delay           : Nat
  period          : Nat
  wakeEnable      : Bool
  map             : List KeyAttr
  deriving DecidableEq, Repr

/-- The Keyboard Scanner (07). -/
structure Kbs where
  mode      : ScanMode
  burst     : Bool
  idleTimer : Nat
  keys      : List KeyEntry
  shortRuns : List Nat
  queue     : List KeyEvent
  overflow  : Bool
  typematic : Option Typematic
  settings  : KeySettings
  deriving DecidableEq, Repr

/-! ## THC: thermal control (08) -/

/-- An input of the Thermal Input Table (08 section 8.2), with its warning mark and trip run. -/
structure Input where
  value   : Int
  valid   : Bool
  time    : Option Time
  fired   : Bool
  tripRun : Nat
  deriving DecidableEq, Repr

/-- The four inputs. -/
structure Inputs where
  ts0     : Input
  ts1     : Input
  die     : Input
  hostrep : Input
  deriving DecidableEq, Repr

/-- Where an effective duty comes from (08 section 8.1). -/
inductive DutyOrigin where
  | hold
  | curve
  | floor
  | noInput
  | job
  deriving DecidableEq, Repr

/-- A fan record (08 section 8.1). The effective duty is the level of FANx_PWM (R140). -/
structure FanRec where
  governing  : Option Int
  curveInput : Option Int
  curveDuty  : Nat
  duty       : Nat
  origin     : DutyOrigin
  speed      : Nat
  lastPulse  : Option Time
  stallTimer : Nat
  stalled    : Bool
  deriving DecidableEq, Repr

/-- A point of a fan curve (R139). -/
structure CurvePoint where
  temp : Int
  duty : Nat
  deriving DecidableEq, Repr

/-- The four fan curves (R139). -/
structure Curves where
  fan0Normal : List CurvePoint
  fan0Tablet : List CurvePoint
  fan1Normal : List CurvePoint
  fan1Tablet : List CurvePoint
  deriving DecidableEq, Repr

/-- A hold (08 section 8.5): `none` for a fan stands for CURVE, `none` for the expiry for none. -/
structure Hold where
  fan0   : Option Nat
  fan1   : Option Nat
  expiry : Option Nat
  owner  : Channel
  pushed : Time
  deriving DecidableEq, Repr

/-- The charge derate level (R147). -/
inductive Derate where
  | none
  | half
  | zero
  deriving DecidableEq, Repr

/-- The Thermal Controller (08). The holds stand top first. -/
structure Thc where
  inputs  : Inputs
  grace   : Nat
  fan0    : FanRec
  fan1    : FanRec
  curves  : Curves
  floor   : Int
  trip    : Int
  holds   : List Hold
  derate  : Derate
  deriving DecidableEq, Repr

/-! ## SWC: platform states (09) -/

/-- The platform states (09 section 9.1). -/
inductive Platform where
  | on
  | enteringSleep
  | sleep
  | waking
  | shuttingDown
  | off
  | poweringUp
  deriving DecidableEq, Repr

/-- The wake sources (09 section 9.5). -/
inductive WakeSource where
  | powerButton
  | lidOpen
  | key
  | adapterChange
  | packBInsert
  | batteryCritical
  | timer
  deriving DecidableEq, Repr

/-- A set of wake sources. -/
structure WakeSet where
  powerButton     : Bool
  lidOpen         : Bool
  key             : Bool
  adapterChange   : Bool
  packBInsert     : Bool
  batteryCritical : Bool
  timer           : Bool
  deriving DecidableEq, Repr

/-- The last off cause (R161). -/
inductive OffCause where
  | request
  | longPress
  | thermalTrip
  | batteryShutdown
  | noSource
  | railFail
  deriving DecidableEq, Repr

/-- The battery band (R164). -/
inductive BatteryBand where
  | aboveLow
  | low
  | critical
  | shutdown
  deriving DecidableEq, Repr

/-- The settings of the Sleep and Wake Controller (09 section 9.1). -/
structure WakeSettings where
  sleepMask : WakeSet
  offMask   : WakeSet
  low       : Nat
  critical  : Nat
  shutdown  : Nat
  autoOn    : Bool
  deriving DecidableEq, Repr

/-- The Sleep and Wake Controller (09). -/
structure Swc where
  platform    : Platform
  railSlp     : Bool
  railMain    : Bool
  mainPg      : Bool
  settle      : Option Nat
  powerGood   : Option Nat
  mainDelay   : Option Nat
  mainWaits   : Bool
  settings    : WakeSettings
  primary     : Option WakeSource
  fired       : WakeSet
  wakeTime    : Option Time
  lastOff     : OffCause
  button      : Bool
  debounced   : Bool
  count       : Option Nat
  pressTime   : Option Nat
  presses     : Nat
  band        : BatteryBand
  grace       : Option Nat
  wakeTimer   : Option Nat
  leftOff     : Bool
  deriving DecidableEq, Repr

/-! ## FSU: faults and jobs (10) -/

/-- A part of a detail: a number, or none. -/
abbrev Part := Option Int

/-- A detail of an event or a fault: no part, or one to three parts (12 section 12.6). -/
abbrev Detail := List Part

/-- The state of a Fault Table record (10 section 10.3). -/
inductive FaultState where
  | cleared
  | active
  | reported
  deriving DecidableEq, Repr

/-- A record of the Fault Table (10 section 10.3). -/
structure FaultRec where
  state  : FaultState
  count  : Nat
  first  : Option Time
  last   : Option Time
  detail : Detail
  deriving DecidableEq, Repr

/-- The job states (10 section 10.1). -/
inductive JobState where
  | run
  | quiescing
  | halted
  | off
  deriving DecidableEq, Repr

/-- Where a quiescing job goes (R171). -/
inductive Destination where
  | halted
  | off
  deriving DecidableEq, Repr

/-- What started the present stop of a job (10 section 10.1). -/
inductive Cause where
  | fault (c : FaultCode)
  | request
  deriving DecidableEq, Repr

/-- The member blocks of the jobs (10 section 10.1). -/
inductive Member where
  | pth
  | chc
  | bga
  | plc
  | hsi
  | psm
  | kbs
  | thc
  deriving DecidableEq, Repr

/-- A recovery setting (R177). -/
inductive Recovery where
  | halt
  | stop
  deriving DecidableEq, Repr

/-- A job record (10 section 10.1). -/
structure JobRec where
  state    : JobState
  dest     : Option Destination
  cause    : Option Cause
  waiting  : List Member
  recovery : Recovery
  since    : Time
  deriving DecidableEq, Repr

/-- The recovery settings of the five jobs. -/
structure Recoveries where
  power   : Recovery
  link    : Recovery
  hinge   : Recovery
  keys    : Recovery
  thermal : Recovery
  deriving DecidableEq, Repr

/-- The Fault Supervisor (10): the Fault Table in order of precedence, and the five job records. -/
structure Fsu where
  table   : List FaultRec
  power   : JobRec
  link    : JobRec
  hinge   : JobRec
  keys    : JobRec
  thermal : JobRec
  deriving DecidableEq, Repr

/-! ## EVR: events (11) -/

/-- The route of an event source (11 section 11.1). -/
inductive Route where
  | none
  | S
  | P
  | both
  deriving DecidableEq, Repr

/-- An entry of a pending list; a LEVEL entry has count 0 and no detail (R182, R184). -/
structure Pending where
  src    : EvSource
  count  : Nat
  detail : Detail
  deriving DecidableEq, Repr

/-- The Event Router (11): routes by source number, the two pending lists, and the conditions of the
four LEVEL sources. -/
structure Evr where
  routes  : List Route
  listS   : List Pending
  listP   : List Pending
  button  : Bool
  keys    : Bool
  capture : Bool
  fault   : Bool
  deriving DecidableEq, Repr

/-! ## HLK: the host link (12) -/

/-- The receiver state (12 section 12.1): in a frame `bytes` are the bytes after the start byte, and `gap` is the time
in ms since the last byte, 3 standing for more than 2 ms (R189). -/
inductive RxState where
  | hunting
  | inFrame (bytes : List Byte) (gap : Nat)
  deriving DecidableEq, Repr

/-- The part series in assembly (R190). -/
structure Series where
  ck     : Byte
  tag    : Byte
  count  : Nat
  last   : Nat
  fields : List Byte
  deriving DecidableEq, Repr

/-- A reply's status and content. -/
structure Reply where
  status  : Status
  content : List Byte
  deriving DecidableEq, Repr

/-- A request in the queue, with its reply (R191). -/
structure Queued where
  kind  : Nat
  head  : ReqHead
  reply : Reply
  deriving DecidableEq, Repr

/-- What the frame on the wire is (R192). -/
inductive TxKind where
  | reply (part parts : Nat)
  | qfull
  | notice (c : Channel)
  deriving DecidableEq, Repr

/-- A frame on HL_TXD. -/
structure TxFrame where
  kind  : TxKind
  bytes : List Byte
  deriving DecidableEq, Repr

/-- A request known by its kind and head only: one that got QFULL, or one held (R191). -/
structure Refused where
  kind : Nat
  head : ReqHead
  deriving DecidableEq, Repr

/-- The Host Link (12). -/
structure Hlk where
  rx           : RxState
  series       : Option Series
  queue        : List Queued
  held         : List Refused
  wire         : Option TxFrame
  qfull        : Option Refused
  noticeS      : Option Nat
  noticeP      : Option Nat
  resetPending : Bool
  deriving DecidableEq, Repr

/-! ## STS: the Settings Store (12) -/

/-- The settings record (12 section 12.3). -/
structure Settings where
  preference : Preference
  hostLimit  : Option Nat
  order      : ChargeOrder
  inhibitA   : Bool
  inhibitB   : Bool
  threshold  : Nat
  dischargeA : Nat
  dischargeB : Nat
  wake       : WakeSettings
  routes     : List Route
  recovery   : Recoveries
  posture    : PostureSettings
  keys       : KeySettings
  curves     : Curves
  floor      : Int
  trip       : Int
  link       : List LinkPolicy
  deriving DecidableEq, Repr

/-- The operation of a programming (R194), with the data being programmed. -/
inductive StoreOp where
  | profile (row : Nat) (entries : List ProfileEntry)
  | calibration (c : Calibration)
  | settings (r : Settings)
  deriving DecidableEq, Repr

/-- The Settings Store (12 section 12.3): the four rows, their validity flags, and the store status
(BUSY with an operation and the time left, or IDLE). -/
structure Sts where
  row0   : List ProfileEntry
  row1   : List ProfileEntry
  row2   : Settings
  row3   : Calibration
  valid0 : Bool
  valid1 : Bool
  valid2 : Bool
  valid3 : Bool
  busy   : Option (StoreOp × Nat)
  deriving DecidableEq, Repr

end Sys2Proof.Machine
end

