-- ==== Sys2Proof/Machine/Defaults.lean ====
section
/-! DEFINITION. The factory defaults and built-in rows the chapters state, and the records of an
empty table entry. -/

namespace Sys2Proof.Machine

/-! ## Profile Table (R44) -/

/-- An invalid profile entry: its other fields are 0 (R46), and the use-pack-request flag whose number is 0
is yes (log entry 5). -/
def ProfileEntry.invalid : ProfileEntry :=
  { valid := false, chemistry := 0, bandLow := 0, bandHigh := 0, cellMv := 0, maxMa := 0,
    useRequest := true, preCellMv := 0, preMa := 0, taperMa := 0, preMin := 0, fastMin := 0 }

/-- Entry 0 of the built-in default of row 0 (R44). -/
def ProfileEntry.builtin : ProfileEntry :=
  { valid := true, chemistry := 1, bandLow := 0, bandHigh := 450, cellMv := 4200, maxMa := 2000,
    useRequest := true, preCellMv := 3000, preMa := 256, taperMa := 128, preMin := 30, fastMin := 240 }

/-- The built-in default of a profile row (R44). -/
def defaultRow (row : Nat) : List ProfileEntry :=
  if row = 0 then ProfileEntry.builtin :: List.replicate 7 ProfileEntry.invalid
  else List.replicate 8 ProfileEntry.invalid

/-- The disable setpoint with the setpoint in force unknown (R39). -/
def Setpoint.disabled : Setpoint := { mv := 4000, ma := 0, enable := false }

/-! ## Link Device Table (04 section 4.1) -/

/-- The factory policy fields of an entry. -/
def factoryPolicy (entry : Nat) : LinkPolicy :=
  match entry with
  | 0 => { defined := true, address := some 0x2A, check := true, segLen := 16, abort := .retry, retryLimit := 2, holdLimit := 25 }
  | 1 => { defined := true, address := some 0x2B, check := true, segLen := 16, abort := .retry, retryLimit := 2, holdLimit := 25 }
  | 2 => { defined := true, address := some 0x12, check := true, segLen := 2, abort := .retry, retryLimit := 2, holdLimit := 25 }
  | 3 => { defined := true, address := some 0x4C, check := false, segLen := 2, abort := .discard, retryLimit := 2, holdLimit := 25 }
  | 4 => { defined := true, address := some 0x4D, check := false, segLen := 2, abort := .discard, retryLimit := 2, holdLimit := 25 }
  | _ => { defined := false, address := none, check := false, segLen := 8, abort := .discard, retryLimit := 2, holdLimit := 25 }

/-- The class of an entry, which is fixed (R68). -/
def linkClass (entry : Nat) : LinkClass :=
  match entry with
  | 0 => .packA
  | 1 => .packB
  | 2 => .charger
  | 3 => .sensor
  | 4 => .sensor
  | _ => .other

/-- The factory policies of the eight entries. -/
def factoryLink : List LinkPolicy := (List.range 8).map factoryPolicy

/-- The policy of an entry at a load (R68): address, defined and check-byte flag of a fixed entry are
fixed, the rest comes from the settings record. -/
def loadedPolicy (entry : Nat) (p : LinkPolicy) : LinkPolicy :=
  if entry < 5 then
    { p with defined := true, address := (factoryPolicy entry).address, check := (factoryPolicy entry).check }
  else p

/-- The Link Device Table made from the policies of the settings record, sticky flags clear (R68). -/
def loadDevices (ps : List LinkPolicy) : List LinkDevice :=
  (List.range 8).map fun k =>
    { cls := linkClass k, policy := loadedPolicy k (ps.getD k (factoryPolicy k)),
      noack := false, hold := false, badcheck := false }

/-! ## Hinge calibration (05 section 5.7) -/

/-- The default enables of a calibrated source. -/
def Enables.default : Enables := { monitor := true, latch := false }

/-- The default calibration record. -/
def Calibration.default : Calibration :=
  { nominal := 1200, gainSin := 1000, gainCos := 1000, offsetSin := 0, offsetCos := 0,
    closedRef := 0, hysteresis := 4, vectorLow := .default, clip := .default, spin := .default,
    gainLimit := .default, offsetLimit := .default }

/-! ## Posture (06 section 6.1) -/

/-- The factory posture settings. -/
def PostureSettings.factory : PostureSettings :=
  { standEnter := 2162, standLeave := 2048, tabletEnter := 3413, tabletLeave := 3300, dwell := 250 }

/-! ## Keyboard (07 section 7.1) -/

/-- The factory keyboard settings: every key NORMAL. -/
def KeySettings.factory : KeySettings :=
  { pressDebounce := 3, releaseDebounce := 3, delay := 500, period := 33, wakeEnable := true,
    map := List.replicate 144 .normal }

/-- A released, stable key. -/
def KeyEntry.released : KeyEntry := { state := .up, count := 0, pressedAs := .normal }

/-- The Key State Table with every key UP. -/
def allUp : List KeyEntry := List.replicate 144 KeyEntry.released

/-- No short run on any column. -/
def noRuns : List Nat := List.replicate 18 0

/-! ## Thermal (R139) -/

/-- The factory curves. -/
def Curves.factory : Curves :=
  { fan0Normal := [⟨400, 0⟩, ⟨500, 20⟩, ⟨600, 35⟩, ⟨700, 50⟩, ⟨800, 75⟩, ⟨900, 100⟩]
    fan0Tablet := [⟨350, 0⟩, ⟨450, 25⟩, ⟨550, 40⟩, ⟨650, 60⟩, ⟨750, 85⟩, ⟨850, 100⟩]
    fan1Normal := [⟨350, 0⟩, ⟨450, 20⟩, ⟨550, 35⟩, ⟨650, 50⟩, ⟨750, 75⟩, ⟨850, 100⟩]
    fan1Tablet := [⟨300, 0⟩, ⟨400, 25⟩, ⟨500, 40⟩, ⟨600, 60⟩, ⟨700, 85⟩, ⟨800, 100⟩] }

/-! ## Platform (09 section 9.1) -/

/-- The empty set of wake sources. -/
def WakeSet.empty : WakeSet :=
  { powerButton := false, lidOpen := false, key := false, adapterChange := false,
    packBInsert := false, batteryCritical := false, timer := false }

/-- The factory masks, thresholds and auto-on flag. -/
def WakeSettings.factory : WakeSettings :=
  { sleepMask := { WakeSet.empty with powerButton := true, lidOpen := true, key := true, batteryCritical := true, timer := true }
    offMask := { WakeSet.empty with powerButton := true }
    low := 10, critical := 5, shutdown := 3, autoOn := false }

/-! ## Jobs and events (10, 11) -/

/-- The factory recovery of every job (R177). -/
def Recoveries.factory : Recoveries :=
  { power := .halt, link := .halt, hinge := .halt, keys := .halt, thermal := .halt }

/-- The factory routes: FAULT_ACTIVE, JOB_STATE and STORE_DONE to P, every other source to S (11
section 11.1). -/
def factoryRoutes : List Route :=
  List.replicate 25 .S ++ [.P, .P, .P, .S]

/-! ## The settings record (12 section 12.3) -/

/-- Every setting at its factory default. -/
def Settings.factory : Settings :=
  { preference := .auto, hostLimit := none, order := .auto, inhibitA := false, inhibitB := false,
    threshold := 95, dischargeA := 60000, dischargeB := 60000, wake := .factory,
    routes := factoryRoutes, recovery := .factory, posture := .factory, keys := .factory,
    curves := .factory, floor := 750, trip := 980, link := factoryLink }

/-! ## Records of an empty table entry -/

/-- A pack record with no pack in place (R10, R23). -/
def Pack.empty (line : Bool) : Pack :=
  { line := line, presence := .absent, identity := none, snapshot := none, relCharge := none,
    failRun := 0, hold := none, usable := false, debounce := none, attempts := 0, retryWait := none }

/-- A charge record outside a session (R52), with its inhibit. -/
def Charge.initial (inhibit : Bool) : Charge :=
  { state := if inhibit then .inhibitedHost else .idle, entry := none, preTime := 0, fastTime := 0,
    taperRun := 0, phase := none, doneSince := false, relAtDone := none, inhibit := inhibit }

/-- An emptied Fault Table record (R180). -/
def FaultRec.empty : FaultRec :=
  { state := .cleared, count := 0, first := none, last := none, detail := [] }

/-- A job record in RUN (R180, R181). -/
def JobRec.running (recovery : Recovery) (since : Time) : JobRec :=
  { state := .run, dest := none, cause := none, waiting := [], recovery := recovery, since := since }

/-- A thermal input never read (R152). -/
def Input.unread : Input :=
  { value := 0, valid := false, time := none, fired := false, tripRun := 0 }

/-- A fan record at power-on (R152). -/
def FanRec.initial : FanRec :=
  { governing := none, curveInput := none, curveDuty := 100, duty := 100, origin := .noInput,
    speed := 0, lastPulse := none, stallTimer := 0, stalled := false }

end Sys2Proof.Machine
end

