-- ==== Sys2Proof/Machine/State.lean ====
section
/-! DEFINITION. The state of the part: one field per block, platform time, and the queue of commands
that are waiting; the reasons a step can stop; the state after reset. -/

namespace Sys2Proof.Machine

/-- Why a step stops with a fault. No rule of the spec stops the part: a condition the part cannot
work through is a record of the Fault Table (10) and a refused request is a reply (00). -/
inductive Fault where
  /-- The part has lost its supply and runs no step. Raised by no command of this model, which has a
  supplied part throughout (00, The part): safe. -/
  | unpowered
  deriving DecidableEq, Repr

/-- Why a command is refused. -/
inductive Refusal where
  /-- The command has no meaning yet. Raised by exec's arm of that command alone: safe. -/
  | notModelled (mnemonic : String)
  deriving DecidableEq, Repr

/-- The state of the part: platform time (00), the thirteen blocks (00, The blocks), and the
commands waiting, first in, first out. -/
structure State where
  time    : Time
  pth     : Pth
  chc     : Chc
  bga     : Bga
  plc     : Plc
  hsi     : Hsi
  psm     : Psm
  kbs     : Kbs
  thc     : Thc
  swc     : Swc
  fsu     : Fsu
  evr     : Evr
  hlk     : Hlk
  sts     : Sts
  pending : List Instr
  deriving DecidableEq, Repr

/-- PTH right after power-on with no adapter and no pack (R23). -/
def Pth.reset : Pth :=
  { path := .noSource, settled := .noSource, swAdp := false, swPa := false, swPb := false,
    ejectOk := false, knownMv := 0, ejectWindow := none, postponed := false, preference := .auto,
    adapter :=
      { present := false, qualified := false, overvolt := false, rating := 45000,
        ratingSource := .default, hostLimit := none, lastMv := 0, lastMa := 0, hold := none,
        count := none, senseMv := 0, idMv := 0, seenFirst := false }
    packA := .empty false, packB := .empty false }

/-- CHC right after power-on (R52). -/
def Chc.reset : Chc :=
  { a := .initial false, b := .initial false, order := .auto, threshold := 95,
    table := defaultRow 0 ++ defaultRow 1, default0 := false, default1 := false, openRow := none,
    latches := List.replicate 8 none, committing := none, desired := .disabled, inForce := none,
    inFlight := none, flightVoid := false, next := none, chgEn := false, deadline := none, caught := none }

/-- BGA right after power-on (R66). -/
def Bga.reset : Bga :=
  { mode := .none, inMv := 0, inMa := 0, pIn := 0, limit := 0, dChg := 0, dFan := 0, sys := 0,
    allowance := 0, refPack := none, refMv := none, computed := 0, applied := 0, cutLeft := none, packPower := 0,
    throttle := .released, release := none, episodeStart := none, episodeOwner := none,
    dischargeA := 60000, dischargeB := 60000 }

/-- PLC right after power-on (R87). -/
def Plc.reset : Plc :=
  { devices := loadDevices factoryLink, link := .idle, wire := none, discard := false, gone := false,
    holdTime := 0, looks := 0, sclHigh := true, sdaHigh := true, chargerSlot := none, passSlot := none, packSlot := none,
    sensorSlot := none, write := none, work := none, asked := [], pollA := ⟨none, false, false, 0⟩,
    pollB := ⟨none, false, false, 0⟩, pollTs0 := ⟨none, true, false, 0⟩, pollTs1 := ⟨none, true, false, 0⟩,
    runTs0 := 0, runTs1 := 0, reading := none, alternation := .sensorPoll, pass := none, caught := none,
    result := none }

/-- HSI right after power-on with a valid row 3 of default values (R98, R105). -/
def Hsi.reset : Hsi :=
  { nominal := 1200, closedRef := 0, hysteresis := 4,
    sin := { posPeak := 1200, negPeak := -1200, gain := 1000, offset := 0, gainMark := false, offsetMark := false }
    cos := { posPeak := 1200, negPeak := -1200, gain := 1000, offset := 0, gainMark := false, offsetMark := false }
    collection := none, raw := 0, reported := 0, awaitFirst := true, magnitude := 0,
    rejected := false, speed := 0, history := [],
    monitors :=
      { vectorLow := ⟨false, false, true, false⟩, clip := ⟨false, false, true, false⟩,
        spin := ⟨false, false, true, false⟩, calInvalid := ⟨false, false, true, true⟩,
        gainLimit := ⟨false, false, true, false⟩, offsetLimit := ⟨false, false, true, false⟩ }
    persistence := ⟨0, 0, 0, 0⟩, validity := .referenced, stored := .default, standIn := false,
    captures := [], lost := false }

/-- PSM right after power-on (R117). -/
def Psm.reset : Psm :=
  { lid := ⟨false, false, none⟩, tablet := ⟨false, false, none⟩, conflict := false, band := none,
    candidate := .unknown, current := .unknown, dwell := none, lastChange := none,
    settings := .factory, angle := 0, validity := .referenced, evaluated := false, sincePower := 0 }

/-- KBS right after power-on (R135). -/
def Kbs.reset : Kbs :=
  { mode := .suppressed, burst := false, idleTimer := 0, keys := allUp, shortRuns := noRuns,
    queue := [], overflow := false, typematic := none, settings := .factory }

/-- THC right after power-on (R152). -/
def Thc.reset : Thc :=
  { inputs := ⟨.unread, .unread, .unread, .unread⟩, grace := 0, fan0 := .initial, fan1 := .initial,
    curves := .factory, floor := 750, trip := 980, holds := [], derate := .half }

/-- SWC right after power-on (R168). -/
def Swc.reset : Swc :=
  { platform := .off, railSlp := false, railMain := false, mainPg := false, settle := none,
    powerGood := none, mainDelay := none, mainWaits := false, settings := .factory, primary := none,
    fired := .empty, wakeTime := none, lastOff := .noSource, button := false, debounced := false,
    count := none, pressTime := none, presses := 0, band := .aboveLow, grace := none,
    wakeTimer := none, leftOff := false }

/-- FSU right after power-on (R180). -/
def Fsu.reset : Fsu :=
  { table := List.replicate 13 .empty, power := .running .halt 0, link := .running .halt 0,
    hinge := .running .halt 0, keys := .running .halt 0, thermal := .running .halt 0 }

/-- EVR right after power-on (R188). -/
def Evr.reset : Evr :=
  { routes := factoryRoutes, listS := [], listP := [], button := false, keys := false,
    capture := false, fault := false }

/-- HLK right after power-on (R196). -/
def Hlk.reset : Hlk :=
  { rx := .hunting, series := none, queue := [], held := [], wire := none, qfull := none,
    noticeS := none, noticeP := none, resetPending := false }

/-- STS with four valid rows of factory contents (log entry 3), IDLE (R196). -/
def Sts.reset : Sts :=
  { row0 := defaultRow 0, row1 := defaultRow 1, row2 := .factory, row3 := .default,
    valid0 := true, valid1 := true, valid2 := true, valid3 := true, busy := none }

/-- The part right after power-on, with four valid rows of factory contents and every input line at
rest (log entries 3 and 26); no command is waiting. -/
def State.reset : State :=
  { time := 0, pth := .reset, chc := .reset, bga := .reset, plc := .reset, hsi := .reset,
    psm := .reset, kbs := .reset, thc := .reset, swc := .reset, fsu := .reset, evr := .reset,
    hlk := .reset, sts := .reset, pending := [] }

end Sys2Proof.Machine
end

