-- ==== Sys2Proof/Machine/Operands.lean ====
section
/-! DEFINITION. The forms in which values cross the part's edges: the number of every enumerated
value, the bytes of fields and details, the check byte, the reading of request fields, and the
direction and magnitude of a pair of readings. -/

namespace Sys2Proof

/-! ## Numbers of enumerated values

An enumerated value is numbered from 0 in the order in which its owning chapter lists it (12 section
12.6); log entry 5 says which list each of these follows. -/

def Channel.num : Channel → Nat
  | .S => 0
  | .P => 1

def PackId.num : PackId → Nat
  | .A => 0
  | .B => 1

def Source.num : Source → Nat
  | .adapter => 0
  | .packA => 1
  | .packB => 2

def Job.num : Job → Nat
  | .power => 0
  | .link => 1
  | .hinge => 2
  | .keys => 3
  | .thermal => 4

def Status.num : Status → Nat
  | .ok => 0
  | .accepted => 1
  | .unknownKind => 2
  | .badValue => 3
  | .busy => 4
  | .notNow => 5
  | .retry => 6
  | .empty => 7
  | .qfull => 8
  | .notOpen => 9
  | .noDevice => 10
  | .exclusive => 11
  | .denied => 12
  | .faultActive => 13

def EvSource.num : EvSource → Nat
  | .buttonPressPending => 0
  | .lidOpened => 1
  | .lidClosed => 2
  | .postureChanged => 3
  | .keysAvailable => 4
  | .keyOverflow => 5
  | .platformKey => 6
  | .adapterAttached => 7
  | .adapterRemoved => 8
  | .packInserted => 9
  | .packRemoved => 10
  | .packIdentified => 11
  | .sourceChanged => 12
  | .ejectReady => 13
  | .chargePhase => 14
  | .chargeDone => 15
  | .batteryLow => 16
  | .batteryCritical => 17
  | .budgetExceeded => 18
  | .linkDone => 19
  | .captureWaiting => 20
  | .captureLost => 21
  | .hingeError => 22
  | .fanHoldLost => 23
  | .thermalWarn => 24
  | .faultActive => 25
  | .jobState => 26
  | .storeDone => 27
  | .woke => 28

/-- The event sources in the order of their numbers. -/
def EvSource.all : List EvSource :=
  [.buttonPressPending, .lidOpened, .lidClosed, .postureChanged, .keysAvailable, .keyOverflow,
   .platformKey, .adapterAttached, .adapterRemoved, .packInserted, .packRemoved, .packIdentified,
   .sourceChanged, .ejectReady, .chargePhase, .chargeDone, .batteryLow, .batteryCritical,
   .budgetExceeded, .linkDone, .captureWaiting, .captureLost, .hingeError, .fanHoldLost,
   .thermalWarn, .faultActive, .jobState, .storeDone, .woke]

/-- The precedence number of a fault code (10 section 10.2). -/
def FaultCode.num : FaultCode → Nat
  | .pathSwitchFail => 1
  | .adapterOvervolt => 2
  | .chargerSilent => 3
  | .chargeTimeout => 4
  | .prechargeTimeout => 5
  | .packSilent => 6
  | .railFail => 7
  | .thermalTrip => 8
  | .fanStall => 9
  | .sensorSilent => 10
  | .linkStuck => 11
  | .hingeSensor => 12
  | .matrixShort => 13

/-- The fault codes in order of precedence. -/
def FaultCode.all : List FaultCode :=
  [.pathSwitchFail, .adapterOvervolt, .chargerSilent, .chargeTimeout, .prechargeTimeout, .packSilent,
   .railFail, .thermalTrip, .fanStall, .sensorSilent, .linkStuck, .hingeSensor, .matrixShort]

def HingeSource.num : HingeSource → Nat
  | .vectorLow => 0
  | .clip => 1
  | .spin => 2
  | .calInvalid => 3
  | .gainLimit => 4
  | .offsetLimit => 5

def ThermalInput.num : ThermalInput → Nat
  | .ts0 => 0
  | .ts1 => 1
  | .die => 2
  | .hostrep => 3

def Fan.num : Fan → Nat
  | .fan0 => 0
  | .fan1 => 1

/-- Whether a source is LEVEL (11 section 11.1). -/
def EvSource.level (e : EvSource) : Bool :=
  e = .buttonPressPending || e = .keysAvailable || e = .captureWaiting || e = .faultActive

/-- Whether a source is exclusive (11 section 11.1). -/
def EvSource.exclusive (e : EvSource) : Bool :=
  e = .buttonPressPending || e = .keysAvailable || e = .platformKey || e = .linkDone || e = .captureWaiting

/-- The job a fault code belongs to (10 section 10.2). -/
def FaultCode.job : FaultCode → Job
  | .pathSwitchFail => .power
  | .adapterOvervolt => .power
  | .chargerSilent => .power
  | .chargeTimeout => .power
  | .prechargeTimeout => .power
  | .packSilent => .power
  | .railFail => .power
  | .thermalTrip => .thermal
  | .fanStall => .thermal
  | .sensorSilent => .thermal
  | .linkStuck => .link
  | .hingeSensor => .hinge
  | .matrixShort => .keys

/-- Whether a fault code is halting (10 section 10.2). -/
def FaultCode.halting (c : FaultCode) : Bool :=
  c = .chargerSilent || c = .linkStuck || c = .hingeSensor || c = .matrixShort

/-- Whether a fault code is SEVERE (10 section 10.2). -/
def FaultCode.severe (c : FaultCode) : Bool := c = .thermalTrip || c = .linkStuck

end Sys2Proof

namespace Sys2Proof.Machine

def PathState.num : PathState → Nat
  | .onAdapter => 0
  | .onPackA => 1
  | .onPackB => 2
  | .switching _ => 3
  | .noSource => 4

def Preference.num : Preference → Nat
  | .auto => 0
  | .preferA => 1
  | .preferB => 2

def RatingSource.num : RatingSource → Nat
  | .id => 0
  | .default => 1

def AdapterLoss.num : AdapterLoss → Nat
  | .removed => 0
  | .outOfRange => 1
  | .overvolt => 2

def Presence.num : Presence → Nat
  | .absent => 0
  | .detected => 1
  | .present => 2
  | .ejectPending => 3
  | .ejectReady => 4
  | .faulted => 5

def SuspendReason.num : SuspendReason → Nat
  | .temp => 0
  | .thermal => 1
  | .budget => 2
  | .stale => 3
  | .packAlarm => 4

def ChargeFault.num : ChargeFault → Nat
  | .chargeTimeout => 0
  | .prechargeTimeout => 1

def ChargeState.num : ChargeState → Nat
  | .inhibitedHost => 0
  | .inhibitedUnsupported => 1
  | .idle => 2
  | .qualify => 3
  | .precharge => 4
  | .fast => 5
  | .topoff => 6
  | .suspended _ => 7
  | .done => 8
  | .fault _ => 9

/-- The reason of a charge state, where it has one. -/
def ChargeState.reason : ChargeState → Option Nat
  | .suspended r => some r.num
  | .fault r => some r.num
  | _ => none

def SuspendedPhase.num : SuspendedPhase → Nat
  | .precharge => 0
  | .fast => 1

def ChargeOrder.num : ChargeOrder → Nat
  | .auto => 0
  | .firstA => 1
  | .firstB => 2

def Mode.num : Mode → Nat
  | .adapter => 0
  | .battery => 1
  | .none => 2

def Throttle.num : Throttle → Nat
  | .released => 0
  | .asserted => 1
  | .releasing => 2

def LinkClass.num : LinkClass → Nat
  | .packA => 0
  | .packB => 1
  | .charger => 2
  | .sensor => 3
  | .other => 4

def Abort.num : Abort → Nat
  | .discard => 0
  | .retry => 1

def Client.num : Client → Nat
  | .charger => 0
  | .pass => 1
  | .packPoll => 2
  | .sensorPoll => 3

def LinkState.num : LinkState → Nat
  | .idle => 0
  | .busy => 1
  | .recovery _ => 2

def PassOutcome.num : PassOutcome → Nat
  | .done => 0
  | .partly => 1
  | .failed => 2
  | .noDevice => 3
  | .abandoned => 4

def PollSlot.num : PollSlot → Nat
  | .packPoll => 0
  | .sensorPoll => 1

def HingeChannel.num : HingeChannel → Nat
  | .sine => 0
  | .cosine => 1

def Validity.num : Validity → Nat
  | .referenced => 0
  | .unreferenced => 1
  | .failed => 2

def CaptureSource.num : CaptureSource → Nat
  | .lidSwitch => 0
  | .tabletSwitch => 1
  | .posture => 2
  | .request => 3

def Posture.num : Posture → Nat
  | .closed => 0
  | .laptop => 1
  | .stand => 2
  | .tablet => 3
  | .unknown => 4

def Band.num : Band → Nat
  | .laptop => 0
  | .stand => 1
  | .tablet => 2

def ScanMode.num : ScanMode → Nat
  | .active => 0
  | .idleDetect => 1
  | .suppressed => 2

def KeyAttr.num : KeyAttr → Nat
  | .normal => 0
  | .modifier => 1
  | .platform => 2

/-- The kind of a key entry (12 section 12.6). -/
def KeyKind.num : KeyKind → Nat
  | .press => 0
  | .release => 1
  | .again => 2
  | .overflow => 3

def DutyOrigin.num : DutyOrigin → Nat
  | .hold => 0
  | .curve => 1
  | .floor => 2
  | .noInput => 3
  | .job => 4

def Derate.num : Derate → Nat
  | .none => 0
  | .half => 1
  | .zero => 2

def Platform.num : Platform → Nat
  | .on => 0
  | .enteringSleep => 1
  | .sleep => 2
  | .waking => 3
  | .shuttingDown => 4
  | .off => 5
  | .poweringUp => 6

def WakeSource.num : WakeSource → Nat
  | .powerButton => 0
  | .lidOpen => 1
  | .key => 2
  | .adapterChange => 3
  | .packBInsert => 4
  | .batteryCritical => 5
  | .timer => 6

def OffCause.num : OffCause → Nat
  | .request => 0
  | .longPress => 1
  | .thermalTrip => 2
  | .batteryShutdown => 3
  | .noSource => 4
  | .railFail => 5

def BatteryBand.num : BatteryBand → Nat
  | .aboveLow => 0
  | .low => 1
  | .critical => 2
  | .shutdown => 3

def JobState.num : JobState → Nat
  | .run => 0
  | .quiescing => 1
  | .halted => 2
  | .off => 3

def Destination.num : Destination → Nat
  | .halted => 0
  | .off => 1

def FaultState.num : FaultState → Nat
  | .cleared => 0
  | .active => 1
  | .reported => 2

def Recovery.num : Recovery → Nat
  | .halt => 0
  | .stop => 1

def Route.num : Route → Nat
  | .none => 0
  | .S => 1
  | .P => 2
  | .both => 3

/-- A cause in a detail: the precedence number, or 14 for REQUEST (12 section 12.6). -/
def Cause.detail : Cause → Int
  | .fault c => c.num
  | .request => 14

/-- A cause in a job record of a reply: the codes from 0, then REQUEST (log entry 5). -/
def Cause.num : Cause → Nat
  | .fault c => c.num - 1
  | .request => 13

/-- The bits of a set of wake sources, in the order of section 9.5 (log entry 5). -/
def WakeSet.byte (w : WakeSet) : Nat :=
  w.powerButton.toNat + 2 * w.lidOpen.toNat + 4 * w.key.toNat + 8 * w.adapterChange.toNat
    + 16 * w.packBInsert.toNat + 32 * w.batteryCritical.toNat + 64 * w.timer.toNat

/-- The set of wake sources a byte names; a byte with bit 7 set names none (log entry 5). -/
def WakeSet.ofByte (b : Byte) : Option WakeSet :=
  if b.getLsbD 7 then none
  else some
    { powerButton := b.getLsbD 0, lidOpen := b.getLsbD 1, key := b.getLsbD 2,
      adapterChange := b.getLsbD 3, packBInsert := b.getLsbD 4, batteryCritical := b.getLsbD 5,
      timer := b.getLsbD 6 }

def WakeSet.has (w : WakeSet) : WakeSource → Bool
  | .powerButton => w.powerButton
  | .lidOpen => w.lidOpen
  | .key => w.key
  | .adapterChange => w.adapterChange
  | .packBInsert => w.packBInsert
  | .batteryCritical => w.batteryCritical
  | .timer => w.timer

def WakeSet.add (w : WakeSet) : WakeSource → WakeSet
  | .powerButton => { w with powerButton := true }
  | .lidOpen => { w with lidOpen := true }
  | .key => { w with key := true }
  | .adapterChange => { w with adapterChange := true }
  | .packBInsert => { w with packBInsert := true }
  | .batteryCritical => { w with batteryCritical := true }
  | .timer => { w with timer := true }

/-! ## Bytes of fields (12 section 12.6) -/

/-- The `n` low bytes of a number, least significant first. -/
def leBytes : Nat → Nat → List Byte
  | 0, _ => []
  | n + 1, v => BitVec.ofNat 8 v :: leBytes n (v / 256)

/-- The number a run of bytes spells, least significant first. -/
def ofLeBytes : List Byte → Nat
  | [] => 0
  | b :: bs => b.toNat + 256 * ofLeBytes bs

def u8 (v : Nat) : List Byte := leBytes 1 v
def u16 (v : Nat) : List Byte := leBytes 2 v
def u32 (v : Nat) : List Byte := leBytes 4 v

/-- A signed value in two's complement. -/
def sBytes (n : Nat) (v : Int) : List Byte := leBytes n (v % (256 ^ n : Nat)).toNat

def s16 (v : Int) : List Byte := sBytes 2 v
def s32 (v : Int) : List Byte := sBytes 4 v

/-- An unsigned field that may be none or absent: all ones then. -/
def optU (n : Nat) : Option Nat → List Byte
  | some v => leBytes n v
  | none => List.replicate n 0xFF

/-- A signed field that may be none or absent: the most negative value then. -/
def optS (n : Nat) : Option Int → List Byte
  | some v => sBytes n v
  | none => leBytes n (128 * 256 ^ (n - 1))

/-- A platform time, or none. -/
def time32 (t : Time) : List Byte := leBytes 4 t.toNat
def optTime (t : Option Time) : List Byte := optU 4 (t.map (·.toNat))

/-- A value the owning chapter lists as "yes or no" (log entry 5). -/
def yesNo (b : Bool) : List Byte := u8 (if b then 0 else 1)

/-- A value the owning chapter lists as "set or clear" (log entry 5). -/
def setClear (b : Bool) : List Byte := u8 (if b then 0 else 1)

/-- A level or a mark with no list of values in its chapter: 1 for asserted or set (log entry 5). -/
def flag8 (b : Bool) : List Byte := u8 b.toNat

/-- One part of a detail in `n` bytes; none is all ones. -/
def partBytes (n : Nat) : Part → List Byte
  | some v => sBytes n v
  | none => List.replicate n 0xFF

/-- The four bytes of a detail: one part fills all four, two take one and three bytes, three take
one, one and two (12 section 12.6). -/
def Detail.bytes : Detail → List Byte
  | [] => List.replicate 4 0xFF
  | [a] => partBytes 4 a
  | [a, b] => partBytes 1 a ++ partBytes 3 b
  | a :: b :: c :: _ => partBytes 1 a ++ partBytes 1 b ++ partBytes 2 c

/-- A detail of numbers. -/
def det (xs : List Nat) : Detail := xs.map fun (n : Nat) => some (Int.ofNat n)

/-! ## The check byte (04 section 4.2) -/

/-- One bit of the CRC-8 with polynomial x⁸ + x² + x + 1, most significant bit first. -/
def crcShift (c : Byte) : Byte :=
  if c.getLsbD 7 then (c <<< 1) ^^^ 0x07 else c <<< 1

/-- The CRC after one more byte. -/
def crcByte (c b : Byte) : Byte :=
  crcShift (crcShift (crcShift (crcShift (crcShift (crcShift (crcShift (crcShift (c ^^^ b))))))))

/-- The CRC-8 over a run of bytes, initial value 0. -/
def crc8 (bs : List Byte) : Byte := bs.foldl crcByte 0

/-! ## Reading request fields (12 section 12.6) -/

/-- A "yes or no" field. -/
def readYesNo (b : Byte) : Option Bool :=
  match b.toNat with
  | 0 => some true
  | 1 => some false
  | _ => none

/-- An enumerated field of `n` values that may be given as unchanged: `some none` is unchanged. -/
def readKeep {α : Type} (vals : List α) (b : Byte) : Option (Option α) :=
  if b.toNat = vals.length then some none else (vals[b.toNat]?).map some

/-- An enumerated field. -/
def readEnum {α : Type} (vals : List α) (b : Byte) : Option α := vals[b.toNat]?

/-- A numeric field of `w` bits that may be given as unchanged (all ones), in a range. -/
def readRange {w : Nat} (lo hi : Nat) (b : BitVec w) : Option (Option Nat) :=
  if b = BitVec.allOnes w then some none
  else if lo ≤ b.toNat ∧ b.toNat ≤ hi then some (some b.toNat) else none

/-- A signed field of 16 bits that may be given as unchanged (the most negative value), in a range. -/
def readSigned (lo hi : Int) (b : BitVec 16) : Option (Option Int) :=
  if b = 0x8000#16 then some none
  else if lo ≤ b.toInt ∧ b.toInt ≤ hi then some (some b.toInt) else none

def readPackId (b : Byte) : Option PackId := readEnum [.A, .B] b

def readJob (b : Byte) : Option Job := readEnum [.power, .link, .hinge, .keys, .thermal] b

/-! ## Direction and magnitude of a pair of readings (R89, R90)

`sqrtBits n v` is the square root of v rounded down, for roots below 2^n. The direction is found by
turning the vector by exact angles: the constants are sine and cosine of 2^b counts in units of
2^-80, and the vector is kept whole, so the nearest count is the true one for every pair of
readings the converter gives (log entry 8). -/

def sqrtBits (v : Nat) : Nat → Nat → Nat
  | 0, root => root
  | n + 1, root =>
    let r := root + 2 ^ n
    sqrtBits v n (if r * r ≤ v then r else root)

def turnTable : List (Nat × Int × Int) :=
  [(1024, 1208925819614629174706176, 0),
   (512, 854839645001009215068542, 854839645001009215068542),
   (256, 462635882124905661503633, 1116901821066387782991457),
   (128, 235849727442229801031474, 1185696648977439268413811),
   (64, 118495451709196174743783, 1203104511360146332467513),
   (32, 59319178402857521215137, 1207469615520205493846559),
   (16, 29668524806411653107242, 1208561713760085258884695),
   (8, 14835379479996263089095, 1208834789723801514652793),
   (4, 7417829378539895499670, 1208903061927718747322595),
   (2, 3708932144210887464776, 1208920130179513785331761),
   (1, 1854468253976911810989, 1208924397255013589970078)]

/-- Peel counts off the direction of (x, y), largest first. -/
def peel : List (Nat × Int × Int) → Int → Int → Nat
  | [], _, _ => 0
  | (n, s, c) :: rest, x, y =>
    if y * c - x * s ≥ 0 then n + peel rest (x * c + y * s) (y * c - x * s) else peel rest x y

/-- The direction of a vector with x > 0 and y ≥ 0, in counts, rounded to the nearest. -/
def firstQuadrant (x y : Int) : Nat :=
  let s : Int := 927234399722509747121
  let c : Int := 1208925464024672982419738
  peel turnTable (x * c - y * s) (y * c + x * s)

/-- The direction of (x, y) from the positive x axis towards the positive y axis, in counts of 1/4096
of a turn, rounded to the nearest, 4096 taken as 0 (R90). -/
def direction (x y : Int) : Nat :=
  (if x > 0 ∧ y ≥ 0 then firstQuadrant x y
   else if y > 0 ∧ x ≤ 0 then 1024 + firstQuadrant y (-x)
   else if x < 0 ∧ y ≤ 0 then 2048 + firstQuadrant (-x) (-y)
   else 3072 + firstQuadrant (-y) x) % 4096

end Sys2Proof.Machine
end

