-- ==== Sys2Proof/Machine/Update.lean ====
section
/-! DEFINITION. The updates of State: one per block, and the records that come in pairs or fives read
and written by name. Every change of State goes through these (their laws stand in Laws/State.lean). -/

namespace Sys2Proof.Machine

/-- Replace `time`. -/
def State.setTime (s : State) (v : Time) : State := { s with time := v }

/-- Replace `pth`. -/
def State.setPth (s : State) (v : Pth) : State := { s with pth := v }

/-- Replace `chc`. -/
def State.setChc (s : State) (v : Chc) : State := { s with chc := v }

/-- Replace `bga`. -/
def State.setBga (s : State) (v : Bga) : State := { s with bga := v }

/-- Replace `plc`. -/
def State.setPlc (s : State) (v : Plc) : State := { s with plc := v }

/-- Replace `hsi`. -/
def State.setHsi (s : State) (v : Hsi) : State := { s with hsi := v }

/-- Replace `psm`. -/
def State.setPsm (s : State) (v : Psm) : State := { s with psm := v }

/-- Replace `kbs`. -/
def State.setKbs (s : State) (v : Kbs) : State := { s with kbs := v }

/-- Replace `thc`. -/
def State.setThc (s : State) (v : Thc) : State := { s with thc := v }

/-- Replace `swc`. -/
def State.setSwc (s : State) (v : Swc) : State := { s with swc := v }

/-- Replace `fsu`. -/
def State.setFsu (s : State) (v : Fsu) : State := { s with fsu := v }

/-- Replace `evr`. -/
def State.setEvr (s : State) (v : Evr) : State := { s with evr := v }

/-- Replace `hlk`. -/
def State.setHlk (s : State) (v : Hlk) : State := { s with hlk := v }

/-- Replace `sts`. -/
def State.setSts (s : State) (v : Sts) : State := { s with sts := v }

/-- Replace `pending`. -/
def State.setPending (s : State) (v : List Instr) : State := { s with pending := v }

/-! ## Records that come in pairs -/

/-- The Pack Table record of a pack (01 section 1.3). -/
def State.pack (s : State) : PackId → Pack
  | .A => s.pth.packA
  | .B => s.pth.packB

/-- Replace a Pack Table record. -/
def State.setPack (s : State) (p : PackId) (r : Pack) : State :=
  match p with
  | .A => s.setPth { s.pth with packA := r }
  | .B => s.setPth { s.pth with packB := r }

/-- The adapter record (01 section 1.2). -/
abbrev State.adapter (s : State) : Adapter := s.pth.adapter

/-- Replace the adapter record. -/
def State.setAdapter (s : State) (a : Adapter) : State := s.setPth { s.pth with adapter := a }

/-- The charge record of a pack (02 section 2.1). -/
def State.charge (s : State) : PackId → Charge
  | .A => s.chc.a
  | .B => s.chc.b

/-- Replace a charge record. -/
def State.setCharge (s : State) (p : PackId) (r : Charge) : State :=
  match p with
  | .A => s.setChc { s.chc with a := r }
  | .B => s.setChc { s.chc with b := r }

/-- The poll schedule entry of a pack (R78). -/
def State.poll (s : State) : PackId → Poll
  | .A => s.plc.pollA
  | .B => s.plc.pollB

/-- Replace the poll schedule entry of a pack. -/
def State.setPoll (s : State) (p : PackId) (r : Poll) : State :=
  match p with
  | .A => s.setPlc { s.plc with pollA := r }
  | .B => s.setPlc { s.plc with pollB := r }

/-- The poll schedule entry of a sensor (R79). -/
def State.sensorPoll (s : State) : Sensor → Poll
  | .ts0 => s.plc.pollTs0
  | .ts1 => s.plc.pollTs1

/-- Replace the poll schedule entry of a sensor. -/
def State.setSensorPoll (s : State) (x : Sensor) (r : Poll) : State :=
  match x with
  | .ts0 => s.setPlc { s.plc with pollTs0 := r }
  | .ts1 => s.setPlc { s.plc with pollTs1 := r }

/-- The failure run of a sensor (R79). -/
def State.sensorRun (s : State) : Sensor → Nat
  | .ts0 => s.plc.runTs0
  | .ts1 => s.plc.runTs1

/-- Replace the failure run of a sensor. -/
def State.setSensorRun (s : State) (x : Sensor) (n : Nat) : State :=
  match x with
  | .ts0 => s.setPlc { s.plc with runTs0 := n }
  | .ts1 => s.setPlc { s.plc with runTs1 := n }

/-- The record of a job (10 section 10.1). -/
def State.job (s : State) : Job → JobRec
  | .power => s.fsu.power
  | .link => s.fsu.link
  | .hinge => s.fsu.hinge
  | .keys => s.fsu.keys
  | .thermal => s.fsu.thermal

/-- Replace the record of a job. -/
def State.setJob (s : State) (j : Job) (r : JobRec) : State :=
  match j with
  | .power => s.setFsu { s.fsu with power := r }
  | .link => s.setFsu { s.fsu with link := r }
  | .hinge => s.setFsu { s.fsu with hinge := r }
  | .keys => s.setFsu { s.fsu with keys := r }
  | .thermal => s.setFsu { s.fsu with thermal := r }

/-- Whether a job is RUN. -/
def State.running (s : State) (j : Job) : Bool := (s.job j).state = .run

/-- An input of the Thermal Input Table (08 section 8.2). -/
def State.input (s : State) : ThermalInput → Input
  | .ts0 => s.thc.inputs.ts0
  | .ts1 => s.thc.inputs.ts1
  | .die => s.thc.inputs.die
  | .hostrep => s.thc.inputs.hostrep

/-- Replace an input of the Thermal Input Table. -/
def State.setInput (s : State) (i : ThermalInput) (r : Input) : State :=
  match i with
  | .ts0 => s.setThc { s.thc with inputs := { s.thc.inputs with ts0 := r } }
  | .ts1 => s.setThc { s.thc with inputs := { s.thc.inputs with ts1 := r } }
  | .die => s.setThc { s.thc with inputs := { s.thc.inputs with die := r } }
  | .hostrep => s.setThc { s.thc with inputs := { s.thc.inputs with hostrep := r } }

/-- The record of a fan (08 section 8.1). -/
def State.fan (s : State) : Fan → FanRec
  | .fan0 => s.thc.fan0
  | .fan1 => s.thc.fan1

/-- Replace the record of a fan. -/
def State.setFan (s : State) (f : Fan) (r : FanRec) : State :=
  match f with
  | .fan0 => s.setThc { s.thc with fan0 := r }
  | .fan1 => s.setThc { s.thc with fan1 := r }

/-- The pending list of a channel (R182). -/
def State.list (s : State) : Channel → List Pending
  | .S => s.evr.listS
  | .P => s.evr.listP

/-- Replace the pending list of a channel. -/
def State.setList (s : State) (c : Channel) (l : List Pending) : State :=
  match c with
  | .S => s.setEvr { s.evr with listS := l }
  | .P => s.setEvr { s.evr with listP := l }

/-- The monitor source of the hinge sensor (R94). -/
def State.monitor (s : State) : HingeSource → Monitor
  | .vectorLow => s.hsi.monitors.vectorLow
  | .clip => s.hsi.monitors.clip
  | .spin => s.hsi.monitors.spin
  | .calInvalid => s.hsi.monitors.calInvalid
  | .gainLimit => s.hsi.monitors.gainLimit
  | .offsetLimit => s.hsi.monitors.offsetLimit

/-- Replace a monitor source. -/
def State.setMonitor (s : State) (x : HingeSource) (r : Monitor) : State :=
  match x with
  | .vectorLow => s.setHsi { s.hsi with monitors := { s.hsi.monitors with vectorLow := r } }
  | .clip => s.setHsi { s.hsi with monitors := { s.hsi.monitors with clip := r } }
  | .spin => s.setHsi { s.hsi with monitors := { s.hsi.monitors with spin := r } }
  | .calInvalid => s.setHsi { s.hsi with monitors := { s.hsi.monitors with calInvalid := r } }
  | .gainLimit => s.setHsi { s.hsi with monitors := { s.hsi.monitors with gainLimit := r } }
  | .offsetLimit => s.setHsi { s.hsi with monitors := { s.hsi.monitors with offsetLimit := r } }

/-- The persistence time of an error source; warnings have none (R95). -/
def State.persistence (s : State) : HingeSource → Nat
  | .vectorLow => s.hsi.persistence.vectorLow
  | .clip => s.hsi.persistence.clip
  | .spin => s.hsi.persistence.spin
  | .calInvalid => s.hsi.persistence.calInvalid
  | .gainLimit => 0
  | .offsetLimit => 0

/-- Set the persistence time of an error source. -/
def State.setPersistence (s : State) (x : HingeSource) (n : Nat) : State :=
  match x with
  | .vectorLow => s.setHsi { s.hsi with persistence := { s.hsi.persistence with vectorLow := n } }
  | .clip => s.setHsi { s.hsi with persistence := { s.hsi.persistence with clip := n } }
  | .spin => s.setHsi { s.hsi with persistence := { s.hsi.persistence with spin := n } }
  | .calInvalid => s.setHsi { s.hsi with persistence := { s.hsi.persistence with calInvalid := n } }
  | .gainLimit => s
  | .offsetLimit => s

end Sys2Proof.Machine
end

