-- ==== Sys2Proof/Machine/Flags.lean ====
section
/-! DEFINITION. The flags the part shows the host: the pending lists and their notices (11), the
transmitter of the host link (R192), and the records of the Fault Table (R170). -/

namespace Sys2Proof.Machine

/-! ## Frames on HL_TXD (12 section 12.6) -/

/-- The channel-and-kind byte. -/
def ckByte (c : Channel) (kind : Nat) : Byte := BitVec.ofNat 8 (128 * c.num + kind)

/-- A reply frame: status and payload between the start byte and the CRC. -/
def replyFrame (ck tag : Byte) (status : Status) (payload : List Byte) : List Byte :=
  let body := BitVec.ofNat 8 payload.length :: ck :: tag :: BitVec.ofNat 8 status.num :: payload
  0x5A :: body ++ [crc8 body]

/-- A notice frame. -/
def noticeFrame (c : Channel) (count : Nat) : List Byte :=
  let body : List Byte := [BitVec.ofNat 8 c.num, BitVec.ofNat 8 count]
  0xC3 :: body ++ [crc8 body]

/-- The number of parts of a reply (R192): a reply with no content is one frame of length 0. -/
def replyParts (content : List Byte) : Nat := max 1 ((content.length + 46) / 47)

/-- The part byte: the number of parts less one, and the index. -/
def partByte (parts part : Nat) : Byte := BitVec.ofNat 8 (16 * (parts - 1) + part)

/-- The payload of one part of a reply. -/
def partPayload (content : List Byte) (part : Nat) : List Byte :=
  if content = [] then []
  else partByte (replyParts content) part :: (content.drop (47 * part)).take 47

/-- One part of the reply of a queued request. -/
def Queued.frame (q : Queued) (part : Nat) : TxFrame :=
  { kind := .reply part (replyParts q.reply.content)
    bytes := replyFrame (ckByte q.head.chan q.kind) q.head.tag q.reply.status (partPayload q.reply.content part) }

/-- The QFULL reply of a request. -/
def Refused.frame (r : Refused) : TxFrame :=
  { kind := .qfull, bytes := replyFrame (ckByte r.head.chan r.kind) r.head.tag .qfull [] }

/-- When HL_TXD is free, choose the next frame (R192): a waiting QFULL reply, a waiting notice of
channel S, a waiting notice of channel P, the reply of the oldest request. -/
def txChoose (s : State) : State :=
  match s.hlk.wire with
  | some _ => s
  | none =>
    match s.hlk.qfull with
    | some r => s.setHlk { s.hlk with wire := some r.frame, qfull := none }
    | none =>
      match s.hlk.noticeS with
      | some n => s.setHlk { s.hlk with wire := some ⟨.notice .S, noticeFrame .S n⟩, noticeS := none }
      | none =>
        match s.hlk.noticeP with
        | some n => s.setHlk { s.hlk with wire := some ⟨.notice .P, noticeFrame .P n⟩, noticeP := none }
        | none =>
          match s.hlk.queue with
          | q :: _ => s.setHlk { s.hlk with wire := some (q.frame 0) }
          | [] => s

/-- The Event Router asks for a notice of a channel (R192): its state becomes WAITING, or takes the
new count. -/
def requestNotice (c : Channel) (count : Nat) (s : State) : State :=
  txChoose (match c with
    | .S => s.setHlk { s.hlk with noticeS := some count }
    | .P => s.setHlk { s.hlk with noticeP := some count })

/-! ## Pending lists (11) -/

/-- Whether a route names a channel (R182). -/
def Route.names : Route → Channel → Bool
  | .none, _ => false
  | .S, c => c = .S
  | .P, c => c = .P
  | .both, _ => true

/-- The route of a source. -/
def State.route (s : State) (e : EvSource) : Route := s.evr.routes.getD e.num .none

/-- Put a channel's pending list in place, with a notice when it changes from empty to non-empty while
the platform is ON (R187). -/
def putList (c : Channel) (l : List Pending) (s : State) : State :=
  let s' := s.setList c l
  if (s.list c).isEmpty && !l.isEmpty && s.swc.platform = .on then requestNotice c l.length s' else s'

/-- A list after an occurrence of an EDGE source (R183). -/
def bump (e : EvSource) (d : Detail) (l : List Pending) : List Pending :=
  if l.any (·.src = e) then
    l.map fun p => if p.src = e then { p with count := min 255 (p.count + 1), detail := d } else p
  else l ++ [{ src := e, count := 1, detail := d }]

/-- An occurrence of an EDGE source on one channel (R183). -/
def raiseOn (c : Channel) (e : EvSource) (d : Detail) (s : State) : State :=
  if (s.route e).names c then putList c (bump e d (s.list c)) s else s

/-- An occurrence of an EDGE source (R183). -/
def raise (e : EvSource) (d : Detail) (s : State) : State :=
  raiseOn .P e d (raiseOn .S e d s)

/-- The condition of a LEVEL source as its owner last gave it (R184). -/
def State.condition (s : State) (e : EvSource) : Bool :=
  match e with
  | .buttonPressPending => s.evr.button
  | .keysAvailable => s.evr.keys
  | .captureWaiting => s.evr.capture
  | .faultActive => s.evr.fault
  | _ => false

/-- Record the condition of a LEVEL source. -/
def State.setCondition (s : State) (e : EvSource) (b : Bool) : State :=
  match e with
  | .buttonPressPending => s.setEvr { s.evr with button := b }
  | .keysAvailable => s.setEvr { s.evr with keys := b }
  | .captureWaiting => s.setEvr { s.evr with capture := b }
  | .faultActive => s.setEvr { s.evr with fault := b }
  | _ => s

/-- A list without a source. -/
def without (e : EvSource) (l : List Pending) : List Pending := l.filter (·.src ≠ e)

/-- A LEVEL source joins a channel's list as the newest entry, unless it stands there. -/
def joinLevel (c : Channel) (e : EvSource) (s : State) : State :=
  if (s.route e).names c && !(s.list c).any (·.src = e) then
    putList c (s.list c ++ [{ src := e, count := 0, detail := [] }]) s
  else s

/-- A source leaves a channel's list. -/
def leaveList (c : Channel) (e : EvSource) (s : State) : State := putList c (without e (s.list c)) s

/-- The owner of a LEVEL source tells a change of its condition (R184). -/
def setLevel (e : EvSource) (b : Bool) (s : State) : State :=
  if s.condition e = b then s
  else if b then joinLevel .P e (joinLevel .S e (s.setCondition e true))
  else leaveList .P e (leaveList .S e (s.setCondition e false))

/-- The platform reaches ON: a notice for each channel whose list is non-empty (R187). -/
def noticesOnArrival (s : State) : State :=
  let s1 := if s.evr.listS.isEmpty then s else requestNotice .S s.evr.listS.length s
  if s.evr.listP.isEmpty then s1 else requestNotice .P s.evr.listP.length s1

/-! ## Records of the Fault Table (10) -/

/-- The record of a fault code. -/
def State.faultRec (s : State) (c : FaultCode) : FaultRec := s.fsu.table.getD (c.num - 1) .empty

/-- Replace the record of a fault code. -/
def State.setFaultRec (s : State) (c : FaultCode) (r : FaultRec) : State :=
  s.setFsu { s.fsu with table := s.fsu.table.set (c.num - 1) r }

/-- Whether a record of the Fault Table is ACTIVE: the condition of FAULT_ACTIVE (R170). -/
def State.anyActive (s : State) : Bool := s.fsu.table.any (·.state = .active)

/-- A fault occurrence is recorded (R170). What it does to the job of its code is R171, in Ops.lean. -/
def recordFault (c : FaultCode) (d : Detail) (s : State) : State :=
  let r := s.faultRec c
  setLevel .faultActive true
    (s.setFaultRec c
      { state := .active, count := min 255 (r.count + 1),
        first := if r.count = 0 then some s.time else r.first, last := some s.time, detail := d })

end Sys2Proof.Machine
end

