-- ==== Sys2Proof/Machine/Ops.lean ====
section
/-! DEFINITION. The operations shared by all blocks: taking a request (12), and the states of a job (10). -/

namespace Sys2Proof.Machine

/-! ## Taking a request (R191) -/

/-- A reply with content, and the state the owner leaves. -/
def answer (st : Status) (content : List Byte) (s : State) : Reply × State := (⟨st, content⟩, s)

/-- A reply with no content and no change. -/
def refuse (st : Status) (s : State) : Reply × State := (⟨st, []⟩, s)

/-- The kinds of section 12.5 taken on channel P only. -/
def privileged (kind : Nat) : Bool :=
  kind = 9 || kind = 10 || kind = 11 || kind = 12 || kind = 16 || kind = 25 || kind = 43 || kind = 44
    || kind = 45 || kind = 46 || kind = 50 || kind = 52

/-- A request with a place in the queue is answered: its reply stands with it until it is sent. -/
def enqueue (kind : Nat) (h : ReqHead) (a : Reply × State) : State :=
  txChoose (a.2.setHlk { a.2.hlk with queue := a.2.hlk.queue ++ [{ kind := kind, head := h, reply := a.1 }] })

/-- A complete request that finds the queue full (R191). -/
def requestQfull (kind : Nat) (h : ReqHead) (s : State) : State :=
  match s.hlk.qfull with
  | some _ => s
  | none => txChoose (s.setHlk { s.hlk with qfull := some ⟨kind, h⟩ })

/-- A complete request (R191): held while a reset is pending, refused QFULL while the queue holds four,
DENIED when its kind is privileged and it came on channel S, and answered by its owner otherwise. A request row
leaves a series in assembly as it is (log entry 1). -/
def serve (kind : Nat) (h : ReqHead) (owner : State → Reply × State) (s : State) : State :=
  if s.hlk.resetPending then s.setHlk { s.hlk with held := s.hlk.held ++ [⟨kind, h⟩] }
  else if 4 ≤ s.hlk.queue.length then requestQfull kind h s
  else if privileged kind && h.chan = .S then enqueue kind h (refuse .denied s)
  else enqueue kind h (owner s)

/-! ## Jobs (10) -/

/-- The member blocks of a job (10 section 10.1). -/
def jobMembers : Job → List Member
  | .power => [.pth, .chc, .bga]
  | .link => [.plc]
  | .hinge => [.hsi, .psm]
  | .keys => [.kbs]
  | .thermal => [.thc]

/-- The state a destination stands for. -/
def Destination.state : Destination → JobState
  | .halted => .halted
  | .off => .off

/-- The result record of a pass-through that ends (R82); the data stand for a read only. -/
def passResult (p : Pass) (o : PassOutcome) (t : Time) : PassResult :=
  { outcome := o, entry := p.entry, write := p.write, cmd := p.cmd, len := p.len, done := p.done,
    data := if p.write then [] else p.buf, time := t }

/-- LINK_DONE with its outcome (R82). -/
def linkDone (o : PassOutcome) (s : State) : State := raise .linkDone (det [o.num]) s

/-- The saved transfer ends ABANDONED (R84). -/
def abandonCatch (s : State) : State :=
  match s.plc.caught with
  | none => s
  | some p =>
    linkDone .abandoned (s.setPlc { s.plc with caught := none, result := some (passResult p .abandoned s.time) })

/-- The members of a job that goes OFF drop what its catch record holds (R173). -/
def dropCatch (j : Job) (s : State) : State :=
  match j with
  | .power => s.setChc { s.chc with caught := none }
  | .link => abandonCatch s
  | _ => s

/-- JOB_STATE with the job, its new state and the number of the cause (R172). -/
def raiseJobState (j : Job) (st : JobState) (cause : Part) (s : State) : State :=
  raise .jobState [some (Int.ofNat j.num), some (Int.ofNat st.num), cause] s

/-- A job leaves RUN: FSU tells its members to quiesce and waits for all of them (R172). -/
def enterQuiescing (j : Job) (d : Destination) (c : Cause) (s : State) : State :=
  s.setJob j
    { s.job j with state := .quiescing, dest := some d, cause := some c, waiting := jobMembers j, since := s.time }

/-- A quiescing job arrives in its destination (R172). -/
def arrive (j : Job) (d : Destination) (s : State) : State :=
  let r := s.job j
  let s1 := s.setJob j { r with state := d.state, dest := none, waiting := [], since := s.time }
  raiseJobState j d.state (r.cause.map Cause.detail) (match d with
    | .halted => s1
    | .off => dropCatch j s1)

/-- A member reports its quiesce complete (R172). -/
def memberDone (j : Job) (m : Member) (s : State) : State :=
  let r := s.job j
  match r.state, r.dest with
  | .quiescing, some d =>
    if m ∈ r.waiting then
      if r.waiting.filter (· ≠ m) = [] then arrive j d s
      else s.setJob j { r with waiting := r.waiting.filter (· ≠ m) }
    else s
  | _, _ => s

/-- A HALTED job goes OFF (R173). -/
def haltedToOff (j : Job) (c : Cause) (s : State) : State :=
  raiseJobState j .off (some c.detail)
    (dropCatch j (s.setJob j { s.job j with state := .off, cause := some c, since := s.time }))

/-- The destination a recovery chooses (R171). -/
def Recovery.dest : Recovery → Destination
  | .halt => .halted
  | .stop => .off

/-- A fault occurrence acts on the job of its code (R171). -/
def actOnJob (c : FaultCode) (s : State) : State :=
  match (s.job c.job).state with
  | .run => if c.halting then enterQuiescing c.job (s.job c.job).recovery.dest (.fault c) s else s
  | .quiescing => if c.severe then s.setJob c.job { s.job c.job with dest := some .off } else s
  | .halted => if c.severe then haltedToOff c.job (.fault c) s else s
  | .off => s

/-- A fault occurrence (R170, R171). A caller whose code halts tells the members to quiesce next. -/
def occur (c : FaultCode) (d : Detail) (s : State) : State := actOnJob c (recordFault c d s)

/-- A job returns to RUN (R175): its record, before its members are told. -/
def enterRun (j : Job) (s : State) : State :=
  s.setJob j { s.job j with state := .run, dest := none, cause := none, waiting := [], since := s.time }

/-- The cause RESTART in a JOB_STATE detail (12 section 12.6). -/
def restartCause : Part := some 15

end Sys2Proof.Machine
end

