-- ==== Sys2Proof/Machine/KbsOps.lean ====
section
/-! DEFINITION. The operations of the Keyboard Scanner that other blocks call on: the queue of key
events, the scan modes and suppression (07). -/

namespace Sys2Proof.Machine

/-- The asleep group (07 section 7.1). -/
def Platform.asleep (p : Platform) : Bool := p = .sleep

/-- The down group (07 section 7.1). -/
def Platform.down (p : Platform) : Bool := p = .shuttingDown || p = .off

/-- A key is held when it is DOWN or RELEASE_PENDING (07 section 7.3). -/
def KeyState.held (k : KeyState) : Bool := k = .down || k = .releasePending

/-- Every entry of the Key State Table is UP. -/
def Kbs.allUp (k : Kbs) : Bool := k.keys.all (·.state = .up)

/-- An event for the Key Event Queue (R124), with the condition of KEYS_AVAILABLE (R125). -/
def queueKey (e : KeyEvent) (s : State) : State :=
  if s.kbs.queue.length < 32 then
    setLevel .keysAvailable true (s.setKbs { s.kbs with queue := s.kbs.queue ++ [e] })
  else s.setKbs { s.kbs with overflow := true }

/-- The synthetic releases of the keys from number `n` on, in key-number order (R127). -/
def releaseHeld : List KeyEntry → Nat → State → State
  | [], _, s => s
  | e :: es, n, s =>
    releaseHeld es (n + 1)
      (if e.state.held && e.pressedAs ≠ .platform then
        queueKey { key := some n, kind := .release, synthetic := true, time := s.time } s
      else s)

/-- The Key State Table and what goes with it after the visit of R127. -/
def Kbs.cleared (k : Kbs) : Kbs :=
  { k with burst := false, idleTimer := 0, keys := Sys2Proof.Machine.allUp, shortRuns := noRuns, typematic := none }

/-- The entry to SUPPRESSED (R127). -/
def enterSuppressed (s : State) : State :=
  let s1 := releaseHeld s.kbs.keys 0 s
  s1.setKbs { s1.kbs.cleared with mode := .suppressed }

/-- The cases of R119 that give SUPPRESSED. -/
def State.suppressing (s : State) : Bool :=
  !s.running .keys || s.psm.current = .closed || s.psm.current = .stand || s.psm.current = .tablet
    || s.swc.platform.down

/-- Enter IDLE_DETECT (R119, R130). -/
def Kbs.toIdle (k : Kbs) : Kbs := { k with mode := .idleDetect, burst := false, idleTimer := 0, shortRuns := noRuns }

/-- The mode in the asleep group, where nothing suppresses (R119, R126, R129). -/
def Kbs.deriveAsleep (k : Kbs) : Kbs :=
  match k.mode with
  | .suppressed => { k.toIdle with typematic := none }
  | .idleDetect => { k with typematic := none }
  | .active =>
    if k.burst then { k with typematic := none }
    else if k.allUp then { k.toIdle with typematic := none }
    else { k with burst := true, typematic := none }

/-- The mode in the awake group, where nothing suppresses (R119). -/
def Kbs.deriveAwake (k : Kbs) : Kbs :=
  match k.mode with
  | .suppressed => { k with mode := .active, burst := false, idleTimer := 0 }
  | .idleDetect => k
  | .active => { k with burst := false }

/-- KBS derives its scan mode (R119). -/
def deriveScanMode (s : State) : State :=
  if s.suppressing then (if s.kbs.mode = .suppressed then s else enterSuppressed s)
  else if s.swc.platform.asleep then s.setKbs s.kbs.deriveAsleep
  else s.setKbs s.kbs.deriveAwake

/-- KBS is told to quiesce (R131). -/
def quiesceKeys (s : State) : State := memberDone .keys .kbs (deriveScanMode s)

/-- KBS is told of its job's return to RUN (R131). -/
def returnKeys (fromOff : Bool) (s : State) : State :=
  deriveScanMode
    (if fromOff then setLevel .keysAvailable false (s.setKbs { s.kbs with queue := [], overflow := false }) else s)

end Sys2Proof.Machine
end

