-- ==== Sys2Proof/Machine/ThcOps.lean ====
section
/-! DEFINITION. The operations of the Thermal Controller: the fans' temperatures, duties and origins,
the warning, and the charge derate (08). -/

namespace Sys2Proof.Machine

/-! ## Governing temperature and curve (R138, R139) -/

/-- The highest value among the valid inputs of a list (R138). -/
def highest : List Input → Option Int
  | [] => none
  | i :: is =>
    if i.valid then
      match highest is with
      | some v => some (max i.value v)
      | none => some i.value
    else highest is

/-- The governing temperature of a fan (R138). -/
def governing (i : Inputs) : Fan → Option Int
  | .fan0 => highest [i.ts0, i.die, i.hostrep]
  | .fan1 => highest [i.ts1, i.hostrep]

/-- The curve input follows the governing temperature with a falling hysteresis (R138). -/
def followCurveInput (t c : Option Int) : Option Int :=
  match t, c with
  | none, _ => none
  | some t, none => some t
  | some t, some c => if t > c then some t else if t < c - 20 then some (t + 20) else some c

/-- A curve at a temperature (R139). -/
def curveAt (c : Int) : List CurvePoint → Nat
  | [] => 100
  | [p] => p.duty
  | p :: q :: rest =>
    if c ≤ p.temp then p.duty
    else if c < q.temp then p.duty + (q.duty - p.duty) * (c - p.temp).toNat / (q.temp - p.temp).toNat
    else curveAt c (q :: rest)

/-- The curve of a fan in the curve set in use (R139). -/
def Curves.of (c : Curves) (tablet : Bool) : Fan → List CurvePoint
  | .fan0 => if tablet then c.fan0Tablet else c.fan0Normal
  | .fan1 => if tablet then c.fan1Tablet else c.fan1Normal

/-- Whether the curve set in use is TABLET (R139). -/
def State.tabletSet (s : State) : Bool := s.psm.current = .tablet

/-- The curve duty at a curve input (R139). -/
def curveDuty (c : Option Int) (curve : List CurvePoint) : Nat :=
  match c with
  | none => 100
  | some c => curveAt c curve

/-! ## Effective duty (R140) -/

/-- The value a hold gives a fan. -/
def Hold.value (h : Hold) : Fan → Option Nat
  | .fan0 => h.fan0
  | .fan1 => h.fan1

/-- SLEEP and OFF, where the longer periods and the curve govern (R137, R140, R78, R79). -/
def Platform.slow (p : Platform) : Bool := p = .sleep || p = .off

/-- The effective duty and its origin (R140). -/
def effectiveDuty (run : Bool) (gov : Option Int) (slow : Bool) (holds : List Hold) (f : Fan)
    (floor : Int) (duty : Nat) : Nat × DutyOrigin :=
  if !run then (100, .job)
  else
    match gov with
    | none => (100, .noInput)
    | some g =>
      if slow then (duty, .curve)
      else
        match holds with
        | [] => (duty, .curve)
        | h :: _ =>
          match h.value f with
          | none => (duty, .curve)
          | some d => if g ≥ floor ∧ duty > d then (duty, .floor) else (d, .hold)

/-- A fan with its stall timer and flag returned where either condition of R144 fails. -/
def FanRec.settleStall (r : FanRec) : FanRec :=
  if r.duty < 20 ∨ r.speed ≥ 300 then { r with stallTimer := 0, stalled := false } else r

/-- Derive the record of a fan afresh from the inputs, curves, holds, platform and job (R138 to R140,
R144). -/
def deriveFan (f : Fan) (s : State) : State :=
  let r := s.fan f
  let gov := governing s.thc.inputs f
  let c := followCurveInput gov r.curveInput
  let d := curveDuty c (s.thc.curves.of s.tabletSet f)
  let e := effectiveDuty (s.running .thermal) gov s.swc.platform.slow s.thc.holds f s.thc.floor d
  let r' := { r with governing := gov, curveInput := c, curveDuty := d, duty := e.1, origin := e.2 }
  s.setFan f (if s.running .thermal then r'.settleStall else r')

/-- Derive both fans (R140). -/
def deriveFans (s : State) : State := deriveFan .fan1 (deriveFan .fan0 s)

/-! ## The charge derate (R147) -/

/-- The level a TS1 value gives, by the level before. -/
def derateFrom (before : Derate) (v : Int) : Derate :=
  match before with
  | .none => if v ≥ 500 then .zero else if v ≥ 450 then .half else .none
  | .half => if v ≥ 500 then .zero else if v ≥ 430 then .half else .none
  | .zero => if v ≥ 480 then .zero else if v ≥ 430 then .half else .none

/-- The level at a change of validity or of the job state (R147). -/
def State.derateFresh (s : State) : Derate :=
  if !s.running .thermal then .zero
  else if s.thc.inputs.ts1.valid then derateFrom .none s.thc.inputs.ts1.value
  else .half

/-- Set the derate level. Handing a change to CHC is the caller's. -/
def setDerate (d : Derate) (s : State) : State := s.setThc { s.thc with derate := d }

/-! ## Warning, loss of an input, and the job -/

/-- The warning at a reading of an input (R145). -/
def warnCheck (i : ThermalInput) (s : State) : State :=
  let r := s.input i
  if r.fired then
    if r.value < s.thc.trip - 70 then s.setInput i { r with fired := false } else s
  else if r.value ≥ s.thc.trip - 50 then
    raise .thermalWarn [some (Int.ofNat i.num), some r.value] (s.setInput i { r with fired := true })
  else s

/-- An input loses its validity (R137): the fans and, for TS1, the derate level follow. -/
def loseInput (i : ThermalInput) (s : State) : State :=
  let s1 := deriveFans (s.setInput i { s.input i with valid := false })
  if i = .ts1 then setDerate s1.derateFresh s1 else s1

/-- THC follows the THERMAL job's state at a quiesce (R148). -/
def quiesceThermal (s : State) : State :=
  let s1 := deriveFans s
  memberDone .thermal .thc (setDerate s1.derateFresh s1)

/-- THC is told of its job's return to RUN (R148). -/
def returnThermal (fromOff : Bool) (s : State) : State :=
  let s1 :=
    if fromOff then
      s.setThc
        { s.thc with
          holds := [], fan0 := { s.thc.fan0 with stallTimer := 0, stalled := false },
          fan1 := { s.thc.fan1 with stallTimer := 0, stalled := false } }
    else s
  let s2 := deriveFans s1
  setDerate s2.derateFresh s2

/-- THC follows a change of the platform state (R137, R140): the 3,000 ms of grace start when SLEEP or
OFF is left, and end at a return to either (log entry 51). -/
def platformToThermal (before : Platform) (s : State) : State :=
  deriveFans
    (if s.swc.platform.slow then s.setThc { s.thc with grace := 0 }
     else if before.slow then s.setThc { s.thc with grace := 3000 }
     else s)

end Sys2Proof.Machine
end

