-- ==== Sys2Proof/Machine/PlcOps.lean ====
section
/-! DEFINITION. The operations of the Pack Link Controller: the poll schedule, the client slots, the
arbiter, pass-through transfers and the charger's transactions (04). -/

namespace Sys2Proof.Machine

/-! ## Reading the table and the roles -/

/-- The entry of a pack in the Link Device Table (R68). -/
def packEntry (p : PackId) : Nat := p.num

/-- The entry of a sensor in the Link Device Table (R68). -/
def sensorEntry : Sensor → Nat
  | .ts0 => 3
  | .ts1 => 4

/-- A device of the table. -/
def State.device (s : State) (entry : Nat) : LinkDevice :=
  s.plc.devices.getD entry
    { cls := linkClass entry, policy := factoryPolicy entry, noack := false, hold := false, badcheck := false }

/-- Replace a device of the table. -/
def State.setDevice (s : State) (entry : Nat) (d : LinkDevice) : State :=
  s.setPlc { s.plc with devices := s.plc.devices.set entry d }

/-- The active set: QUALIFY, PRECHARGE, FAST, TOPOFF and SUSPENDED (00 Terms). -/
def ChargeState.active : ChargeState → Bool
  | .qualify => true
  | .precharge => true
  | .fast => true
  | .topoff => true
  | .suspended _ => true
  | _ => false

/-- Whether a pack is the charging pack (R78). -/
def State.charging (s : State) (p : PackId) : Bool := (s.charge p).state.active

/-- The source the path is on or switches to. -/
def PathState.source : PathState → Option Source
  | .onAdapter => some .adapter
  | .onPackA => some .packA
  | .onPackB => some .packB
  | .switching t => some t
  | .noSource => none

/-- Whether a pack is the source pack (R78). -/
def State.sourcing (s : State) (p : PackId) : Bool := s.pth.path.source = some p.source

/-- The presence states in which a pack is polled and may be named by a transfer (R78, R80). -/
def Presence.polled (p : Presence) : Bool := p = .present || p = .ejectPending || p = .ejectReady

/-- Whether a pack is polled (R78). -/
def State.polled (s : State) (p : PackId) : Bool := (s.pack p).presence.polled

/-! ## The poll schedule (R78, R79) -/

/-- The poll period of a pack (R78). -/
def State.period (s : State) (p : PackId) : Nat :=
  if s.charging p then 1000
  else if s.sourcing p then (if s.swc.platform.slow then 30000 else 1000)
  else if s.swc.platform.slow then 30000 else 10000

/-- The sensor period (R79). -/
def State.sensorPeriod (s : State) : Nat := if s.swc.platform.slow then 5000 else 1000

/-- A poll schedule entry whose due time is reached becomes due. -/
def Poll.ripen (r : Poll) (now : Time) (period : Nat) : Poll :=
  match r.started with
  | some t =>
    if !r.due && period ≤ now.age t then
      { r with due := true, byPeriod := true, dueAt := t + BitVec.ofNat 32 period }
    else r
  | none => r

/-- A read falls due at once. -/
def Poll.atOnce (r : Poll) (now : Time) : Poll :=
  if r.due then { r with byPeriod := false } else { r with due := true, byPeriod := false, dueAt := now }

/-- The due time recomputed from the start of the previous read, with a period that may be a new one (R78). A read
that fell due by its period takes the new due time, and is due no longer when that lies ahead (log entry 37). -/
def Poll.recompute (r : Poll) (now : Time) (period : Nat) : Poll :=
  match r.started with
  | some t =>
    let at_ := t + BitVec.ofNat 32 period
    if r.due && r.byPeriod && r.dueAt ≠ at_ then
      (if now.age t < period then { r with due := false, byPeriod := false } else { r with dueAt := at_ })
    else r.ripen now period
  | none => r

/-- A pack's snapshot becomes due when its due time is reached. -/
def ripenPack (p : PackId) (s : State) : State :=
  if s.polled p then s.setPoll p ((s.poll p).ripen s.time (s.period p)) else s

/-- A sensor's read becomes due when its due time is reached. -/
def ripenSensor (x : Sensor) (s : State) : State :=
  s.setSensorPoll x ((s.sensorPoll x).ripen s.time s.sensorPeriod)

/-- A pack's due time is recomputed (R78). -/
def recomputePack (p : PackId) (s : State) : State :=
  if s.polled p then s.setPoll p ((s.poll p).recompute s.time (s.period p)) else s

/-- What is due after a change of role or of platform state: R78 recomputes the due time of a pack, and R79
lets a sensor's read fall due by the new period and takes none back (log entry 37). -/
def refreshDue (s : State) : State :=
  ripenSensor .ts1 (ripenSensor .ts0 (recomputePack .B (recomputePack .A s)))

/-- Whether the pack poller has a snapshot of a pack in progress. -/
def State.snapshotting (s : State) (p : PackId) : Bool :=
  match s.plc.work with
  | some (.snapshot q _ _) => q = p
  | _ => false

/-- CHC asks for an immediate snapshot (R27, R78): one in progress serves the request. -/
def askSnapshot (p : PackId) (s : State) : State :=
  if s.snapshotting p then s else s.setPoll p ((s.poll p).atOnce s.time)

/-- PTH asks for an identity read (R77). -/
def askIdentity (p : PackId) (s : State) : State := s.setPlc { s.plc with asked := s.plc.asked ++ [p] }

/-! ## Filling the poll slots -/

/-- The command code of a snapshot item (12 section 12.6). -/
def SnapItem.code : SnapItem → Nat
  | .voltage => 0x20
  | .current => 0x22
  | .temperature => 0x24
  | .remaining => 0x26
  | .full => 0x28
  | .status => 0x2A
  | .reqVoltage => 0x2C
  | .reqCurrent => 0x2E
  | .cycles => 0x30

/-- The items of a snapshot of a pack with an identity (R76). -/
def snapItems (i : Option Identity) : List SnapItem :=
  [.voltage, .current, .temperature, .remaining, .full, .status]
    ++ (match i with
      | none => []
      | some i =>
        (if i.reqVoltage then [SnapItem.reqVoltage] else []) ++ (if i.reqCurrent then [SnapItem.reqCurrent] else [])
          ++ (if i.cycles then [SnapItem.cycles] else []))

/-- A working snapshot with nothing read. -/
def Snapshot.blank : Snapshot :=
  { voltage := 0, current := 0, temp := 0, remaining := 0, full := 0, overTemp := false,
    overCharge := false, terminate := false, fullyCharged := false, fullyDischarged := false,
    reqVoltage := none, reqCurrent := none, cycles := none, time := 0 }

/-- A read item. -/
def readItem (entry cmd len : Nat) : Txn := { entry := entry, write := false, cmd := cmd, len := len, data := [] }

/-- A write item. -/
def writeItem (entry cmd : Nat) (data : List Byte) : Txn :=
  { entry := entry, write := true, cmd := cmd, len := data.length, data := data }

/-- Place the next item of a snapshot in PACKPOLL. -/
def placeItem (p : PackId) (todo : List SnapItem) (got : Snapshot) (s : State) : State :=
  match todo with
  | [] => s.setPlc { s.plc with work := none }
  | i :: _ =>
    s.setPlc { s.plc with work := some (.snapshot p todo got), packSlot := some (readItem (packEntry p) i.code 2) }

/-- Start a snapshot of a pack: its first item is placed (R76). -/
def startSnapshot (p : PackId) (s : State) : State :=
  placeItem p (snapItems (s.pack p).identity) .blank
    (s.setPoll p { s.poll p with started := some s.time, due := false, byPeriod := false })

/-- Place an identity read in PACKPOLL (R77). -/
def startIdentity (p : PackId) (s : State) : State :=
  s.setPlc
    { s.plc with
      asked := s.plc.asked.erase p, work := some (.identity p),
      packSlot := some (readItem (packEntry p) 0x40 8) }

/-- Whether a pass-through outstanding defers the polls of an entry (R80). -/
def State.deferred (s : State) (entry : Nat) : Bool :=
  match s.plc.pass with
  | some p => p.entry = entry
  | none => false

/-- The packs in the order in which their due snapshots are taken (R78). -/
def State.snapshotOrder (s : State) : List PackId :=
  [PackId.A, .B].filter s.charging ++ [PackId.A, .B].filter s.sourcing ++ [.A, .B]

/-- Whether a pack's snapshot can be started. -/
def State.snapshotReady (s : State) (p : PackId) : Bool :=
  s.polled p && (s.poll p).due && !s.deferred (packEntry p)

/-- Fill PACKPOLL when the pack poller is at rest: identity reads first, then due snapshots (R77, R78). -/
def fillPackPoll (s : State) : State :=
  match s.plc.work with
  | some _ => s
  | none =>
    match s.plc.asked.find? (fun p => !s.deferred (packEntry p)) with
    | some p => startIdentity p s
    | none =>
      match s.snapshotOrder.find? s.snapshotReady with
      | some p => startSnapshot p s
      | none => s

/-- Whether a sensor's read can be started. -/
def State.sensorReady (s : State) (x : Sensor) : Bool :=
  (s.sensorPoll x).due && !s.deferred (sensorEntry x)

/-- Place a sensor read in SENSORPOLL (R79). -/
def startSensor (x : Sensor) (s : State) : State :=
  let s1 := s.setSensorPoll x { s.sensorPoll x with started := some s.time, due := false, byPeriod := false }
  s1.setPlc { s1.plc with reading := some x, sensorSlot := some (readItem (sensorEntry x) 0 2) }

/-- Fill SENSORPOLL when the sensor poller is at rest, TS0 first (R79). A read placed already when a transfer to
its sensor is taken stays in the slot and holds back the other sensor's (log entry 25). -/
def fillSensorPoll (s : State) : State :=
  match s.plc.reading with
  | some _ => s
  | none =>
    if s.sensorReady .ts0 then startSensor .ts0 s
    else if s.sensorReady .ts1 then startSensor .ts1 s
    else s

/-! ## The arbiter (R73) -/

/-- A poll slot whose request may be started: a pass-through outstanding to its device holds it (R80). -/
def State.pollReady (s : State) (slot : Option Txn) : Bool :=
  match slot with
  | some t => !s.deferred t.entry
  | none => false

/-- The client the arbiter gives the link to (R73). -/
def State.choice (s : State) : Option Client :=
  if s.plc.chargerSlot.isSome then some .charger
  else if s.plc.passSlot.isSome then some .pass
  else if s.pollReady s.plc.packSlot && (s.plc.alternation = .sensorPoll || !s.pollReady s.plc.sensorSlot) then
    some .packPoll
  else if s.pollReady s.plc.sensorSlot then some .sensorPoll
  else none

/-- The slot of a client. -/
def Plc.slot (k : Plc) : Client → Option Txn
  | .charger => k.chargerSlot
  | .pass => k.passSlot
  | .packPoll => k.packSlot
  | .sensorPoll => k.sensorSlot

/-- The link with a client's slot emptied; a poll client is recorded as the one last served, also where its
transaction waits in a recovery and is then not started (log entry 50). -/
def Plc.serve (k : Plc) : Client → Plc
  | .charger => { k with chargerSlot := none }
  | .pass => { k with passSlot := none }
  | .packPoll => { k with packSlot := none, alternation := .packPoll }
  | .sensorPoll => { k with sensorSlot := none, alternation := .sensorPoll }

/-- The address byte of an entry, for writing. -/
def LinkPolicy.addressByte (p : LinkPolicy) : Byte := BitVec.ofNat 8 (2 * p.address.getD 0)

/-- The address byte of an entry, for reading. -/
def LinkPolicy.readByte (p : LinkPolicy) : Byte := BitVec.ofNat 8 (2 * p.address.getD 0 + 1)

/-- The bytes PLC sends for an item (04 section 4.2): the address and the command code; then, for a read item,
the address for reading, and for a write item the data and the check byte where the entry's flag is set. -/
def LinkPolicy.sends (p : LinkPolicy) (t : Txn) : List Byte :=
  let head := [p.addressByte, BitVec.ofNat 8 t.cmd]
  if t.write then
    head ++ t.data ++ (if p.check then [crc8 (head ++ t.data)] else [])
  else head ++ [p.readByte]

/-- The transaction of a client with the entry's settings of the moment (R68, R69). -/
def State.onWire (s : State) (c : Client) (t : Txn) : OnWire :=
  let p := (s.device t.entry).policy
  { client := c, item := t, policy := p, sent := p.sends t }

/-- A poll transaction that was not started goes back to its slot. -/
def Plc.putBack (k : Plc) (c : Client) (t : Txn) : Plc :=
  match c with
  | .packPoll => { k with packSlot := some t }
  | .sensorPoll => { k with sensorSlot := some t }
  | _ => k

/-- Start the transaction of a client: with both lines high it goes on the wire, otherwise the link
recovery runs first (R71), with the request no longer in its slot (log entry 50). The levels are those the last
command that carries them gave (log entry 22). -/
def startTxn (c : Client) (t : Txn) (s : State) : State :=
  s.setPlc
    { s.plc.serve c with
      wire := some (s.onWire c t), holdTime := 0,
      link := if s.plc.sclHigh && s.plc.sdaHigh then .busy else .recovery false }

/-- The arbiter gives an IDLE link to one slot while the LINK job is RUN (R73). -/
def arbitrate (s : State) : State :=
  if s.running .link && s.plc.link = .idle then
    match s.choice with
    | none => s
    | some c =>
      match s.plc.slot c with
      | some t => startTxn c t s
      | none => s
  else s

/-- The pollers place what is due, and the arbiter acts. -/
def kick (s : State) : State :=
  if s.running .link then arbitrate (fillSensorPoll (fillPackPoll s)) else s

/-- PLC follows a change of a role or of the platform state (R78, R79). -/
def rolesToLink (s : State) : State := kick (refreshDue s)

/-! ## Charger writes (R75) -/

/-- The write item of a stage of a setpoint write. -/
def writeStage (p : Setpoint) : Nat → Txn
  | 0 => writeItem 2 0x60 (u16 p.mv)
  | 1 => writeItem 2 0x62 (u16 p.ma)
  | _ => writeItem 2 0x64 (u8 p.enable.toNat)

/-- Place a stage of a setpoint write in the CHARGER slot. -/
def placeStage (w : WriteWork) (s : State) : State :=
  s.setPlc { s.plc with write := some w, chargerSlot := some (writeStage w.setpoint w.stage) }

/-! ## Pass-through transfers (R80 to R82) -/

/-- The transaction of the next segment of a transfer (R81). -/
def Pass.segment (p : Pass) : Txn :=
  let from_ := p.seg * p.segLen
  let n := min p.segLen (p.len - from_)
  if p.write then writeItem p.entry (p.cmd + from_) ((p.buf.drop from_).take n)
  else readItem p.entry (p.cmd + from_) n

/-- Place the next segment of a transfer in the PASS slot. -/
def placeSegment (p : Pass) (s : State) : State :=
  s.setPlc { s.plc with pass := some p, passSlot := some p.segment }

/-- A transfer ends (R82). -/
def endPass (p : Pass) (o : PassOutcome) (s : State) : State :=
  linkDone o (s.setPlc { s.plc with pass := none, passSlot := none, result := some (passResult p o s.time) })

/-- Replace a run of the buffer. -/
def Pass.fill (p : Pass) (bytes : List Byte) : List Byte :=
  p.buf.take (p.seg * p.segLen) ++ bytes ++ p.buf.drop (p.seg * p.segLen + bytes.length)

/-- The segment in hand is over: place the next, or end the transfer when it was the last (R81). -/
def nextSegment (p : Pass) (s : State) : State :=
  let p' := { p with seg := p.seg + 1, reps := 0 }
  if p.len ≤ p'.seg * p.segLen then endPass p' (if p.failed then .partly else .done) s else placeSegment p' s

/-- A segment ends with an outcome that is neither NO_DEVICE nor STUCK, under the settings it was started with
(R69, R74, R81). -/
def segmentEnd (p : Pass) (q : LinkPolicy) (o : TxOutcome) (s : State) : State :=
  let n := p.segment.len
  match o with
  | .done data =>
    nextSegment { p with done := p.done + n, buf := if p.write then p.buf else p.fill data } s
  | _ =>
    match q.abort with
    | .discard =>
      nextSegment { p with failed := true, buf := if p.write then p.buf else p.fill (List.replicate n 0xFF) } s
    | .retry =>
      if p.reps < q.retryLimit then placeSegment { p with reps := p.reps + 1 } s
      else endPass p .failed s

/-! ## Removal of a pack (R72, R82, R84) -/

/-- The pack the poller's work is for. -/
def PollWork.pack : PollWork → PackId
  | .identity p => p
  | .snapshot p _ _ => p

/-- The pack poller drops its work for a pack that was removed. -/
def dropPollWork (p : PackId) (s : State) : State :=
  let s1 := s.setPoll p { started := none, due := false, byPeriod := false, dueAt := 0 }
  let s2 := s1.setPlc { s1.plc with asked := s1.plc.asked.filter (· ≠ p) }
  if s.plc.work.map PollWork.pack = some p then s2.setPlc { s2.plc with work := none, packSlot := none } else s2

/-- A transfer to a pack that was removed ends NO_DEVICE, outstanding or saved. -/
def endPassTo (p : PackId) (s : State) : State :=
  let s1 :=
    match s.plc.pass with
    | some q => if q.entry = packEntry p then endPass q .noDevice s else s
    | none => s
  match s1.plc.caught with
  | some q =>
    if q.entry = packEntry p then
      linkDone .noDevice
        (s1.setPlc { s1.plc with caught := none, result := some (passResult q .noDevice s1.time) })
    else s1
  | none => s1

/-- A transaction to a pack that was removed ends NO_DEVICE at its next byte boundary. -/
def markGone (p : PackId) (s : State) : State :=
  match s.plc.wire with
  | some w => if w.item.entry = packEntry p then s.setPlc { s.plc with gone := true } else s
  | none => s

/-- PLC is told that a pack was removed (R10, R72). -/
def removeFromLink (p : PackId) (s : State) : State :=
  kick (endPassTo p (dropPollWork p (markGone p s)))

/-! ## Sticky flags (R70) -/

/-- The outcome of a transaction sets the matching sticky flag of its entry (R70). -/
def stick (entry : Nat) (o : TxOutcome) (s : State) : State :=
  match o with
  | .noack => s.setDevice entry { s.device entry with noack := true }
  | .badCheck => s.setDevice entry { s.device entry with badcheck := true }
  | .holdTimeout => s.setDevice entry { s.device entry with hold := true }
  | _ => s

/-- Clear the sticky flags of a device. -/
def LinkDevice.clean (d : LinkDevice) : LinkDevice := { d with noack := false, hold := false, badcheck := false }

end Sys2Proof.Machine
end

