-- ==== Sys2Proof/Machine/ChcOps.lean ====
section
/-! DEFINITION. The operations of the Charge Controller: charge states, profile matching, setpoints,
the setpoint slots, CHG_EN and the reduction deadline, and the POWER job's catch record (02). -/

namespace Sys2Proof.Machine

/-! ## Reading -/

/-- The phase a charging phase counts as (R30). -/
def ChargeState.phase : ChargeState → Option SuspendedPhase
  | .precharge => some .precharge
  | .fast => some .fast
  | .topoff => some .fast
  | _ => none

/-- The pack in the active set (R25). -/
def State.activePack (s : State) : Option PackId := [PackId.A, .B].find? s.charging

/-- Whether a pack is chargeable (R26). -/
def State.chargeable (s : State) (p : PackId) : Bool :=
  (s.pack p).presence = .present && (s.pack p).snapshot.isSome && (s.pack p).hold.isNone

/-- An entry of the working copy of the Profile Table. -/
def State.entry (s : State) (k : Nat) : ProfileEntry := s.chc.table.getD k .invalid

/-- Whether a band contains a temperature (R28). -/
def ProfileEntry.holds (e : ProfileEntry) (temp : Int) : Bool := e.bandLow ≤ temp ∧ temp ≤ e.bandHigh

/-- Whether an entry is valid and names a chemistry (R28). -/
def ProfileEntry.names (e : ProfileEntry) (chemistry : Nat) : Bool := e.valid && e.chemistry = chemistry

/-- The chemistry of a pack. -/
def State.chemistry (s : State) (p : PackId) : Option Nat := (s.pack p).identity.map (·.chemistry)

/-- Whether some valid entry names the pack's chemistry (R28). -/
def State.supported (s : State) (p : PackId) : Bool :=
  match s.chemistry p with
  | some c => s.chc.table.any (·.names c)
  | none => false

/-- The first valid entry that names the pack's chemistry and contains a temperature (R28). -/
def State.matchEntry (s : State) (p : PackId) (temp : Int) : Option Nat :=
  match s.chemistry p with
  | some c => (List.range 16).find? fun k => (s.entry k).names c && (s.entry k).holds temp
  | none => none

/-! ## The desired setpoint (R29, R30, R39) -/

/-- The derate limit for a current, or no term (R29). -/
def derateTerm (d : Derate) (ma : Nat) : Option Nat :=
  match d with
  | .none => none
  | .half => some (ma / 2)
  | .zero => some 0

/-- The lesser of a value and a term that may be absent. -/
def leastWith (n : Nat) : Option Nat → Nat
  | some m => min n m
  | none => n

/-- The charge current of a phase, with the reason it would give a suspension (R29, R30): BUDGET where the grant and
the requested current are the least term together (log entry 54). -/
def phaseCurrent (ph : SuspendedPhase) (e : ProfileEntry) (i : Identity) (snap : Snapshot) (grant : Nat)
    (d : Derate) : Nat × SuspendReason :=
  let base :=
    match ph with
    | .precharge => e.preMa
    | .fast => e.maxMa
  let request :=
    match ph with
    | .precharge => none
    | .fast => if e.useRequest && i.reqCurrent then snap.reqCurrent else none
  let derate := derateTerm d base
  let least := leastWith (min (leastWith base request) grant) derate
  (least, if derate = some least then .thermal else if grant = least then .budget else .packAlarm)

/-- The current of a phase computed for a pack from its governing entry and latest snapshot (R29). -/
def State.current (s : State) (p : PackId) (ph : SuspendedPhase) : Option (Nat × SuspendReason) :=
  match (s.charge p).entry, (s.pack p).identity, (s.pack p).snapshot with
  | some k, some i, some snap => some (phaseCurrent ph (s.entry k) i snap s.bga.applied s.thc.derate)
  | _, _, _ => none

/-- The charge voltage of an entry for a pack (R29). -/
def phaseVoltage (e : ProfileEntry) (i : Identity) (snap : Snapshot) : Nat :=
  let full := i.cells * e.cellMv
  match snap.reqVoltage with
  | some v => if i.reqVoltage && 4000 ≤ v && v ≤ full then v else full
  | none => full

/-- The voltage setpoint for a pack from its governing entry and latest snapshot (R29). -/
def State.chargeVoltage (s : State) (p : PackId) : Option Nat :=
  match (s.charge p).entry, (s.pack p).identity, (s.pack p).snapshot with
  | some k, some i, some snap => some (phaseVoltage (s.entry k) i snap)
  | _, _, _ => none

/-- The disable setpoint (R39). -/
def State.disableSetpoint (s : State) : Setpoint :=
  { mv := (s.chc.inForce.map (·.mv)).getD 4000, ma := 0, enable := false }

/-- The desired setpoint (R29, R39). -/
def State.formDesired (s : State) : Setpoint :=
  match s.activePack with
  | none => s.disableSetpoint
  | some p =>
    match (s.charge p).state.phase with
    | none => s.disableSetpoint
    | some ph =>
      match s.current p ph, s.chargeVoltage p with
      | some (ma, _), some mv => { mv := mv, ma := ma, enable := true }
      | _, _ => s.disableSetpoint

/-! ## CHG_EN and the reduction deadline (R42) -/

/-- Whether a setpoint exceeds another in voltage or current. -/
def Setpoint.exceeds (f d : Setpoint) : Bool := f.mv > d.mv || f.ma > d.ma

/-- The deadline at a new desired setpoint (R42): it starts at a fall from a desired setpoint that the one in force does
not exceed to one that it exceeds. After a deadline that has expired none starts until then, so CHG_EN stays
deasserted until the lowering write completes (R43, log entry 42). -/
def deadlineAt (inForce : Option Setpoint) (old new : Setpoint) (deadline : Option Nat) : Option Nat :=
  match inForce with
  | none => none
  | some f =>
    if !f.exceeds new then none
    else
      match deadline with
      | some t => some t
      | none => if f.exceeds old then none else some 50

/-- The deadline when the setpoint in force changes (R42). -/
def deadlineEnd (inForce : Option Setpoint) (desired : Setpoint) (deadline : Option Nat) : Option Nat :=
  match inForce with
  | none => none
  | some f => if f.exceeds desired then deadline else none

/-- Whether the current in force is above a grant. -/
def overGrant (grant : Nat) (inForce : Option Setpoint) : Bool := inForce.any fun f => grant < f.ma

/-- Whether a time of 50 ms, the deadline's or that of R43, runs and has not expired. -/
def deadlineRuns : Option Nat → Bool
  | some t => 0 < t
  | none => false

/-- Whether R43 keeps CHG_EN deasserted: the current in force is above the applied grant, and the 50 ms after the last
reduction of the grant do not run (log entry 42). -/
def State.grantBars (s : State) : Bool := overGrant s.bga.applied s.chc.inForce && !deadlineRuns s.bga.cutLeft

/-- Whether CHG_EN is asserted (R42, within the law of R43). -/
def State.enableWanted (s : State) : Bool :=
  match s.activePack, s.chc.inForce with
  | some p, some f =>
    (s.charge p).state.phase.isSome && f.enable && (!f.exceeds s.chc.desired || deadlineRuns s.chc.deadline)
      && !s.grantBars
  | _, _ => false

/-- Drive CHG_EN (R42). -/
def driveEnable (s : State) : State :=
  s.setChc { s.chc with deadline := deadlineEnd s.chc.inForce s.chc.desired s.chc.deadline, chgEn := s.enableWanted }

/-! ## The setpoint slots (R40) -/

/-- The path is ON_ADAPTER and the POWER job is RUN. -/
def State.mayWrite (s : State) : Bool := s.pth.path = .onAdapter && s.running .power

/-- Place a setpoint in the in-flight slot and start its write (R40, R75). -/
def startWrite (d : Setpoint) (s : State) : State :=
  placeStage { setpoint := d, stage := 0, reps := 0 }
    (s.setChc { s.chc with inFlight := some d, flightVoid := false, next := none })

/-- A desired setpoint with no write in flight (R40). -/
def slotIdle (d : Setpoint) (s : State) : State :=
  if s.chc.inForce = some d then s.setChc { s.chc with next := none }
  else if s.running .link then startWrite d s
  else s.setChc { s.chc with next := some d }

/-- A new desired setpoint with a write in flight goes to the pending slot, whatever is being written: one
equal to the setpoint in force is discarded when the write ends (R40). -/
def slotBusy (d : Setpoint) (s : State) : State := s.setChc { s.chc with next := some d }

/-- A new desired setpoint meets the slots (R40). -/
def handleDesired (d : Setpoint) (s : State) : State :=
  if !s.mayWrite then s.setChc { s.chc with next := none }
  else
    match s.chc.inFlight with
    | none => slotIdle d s
    | some _ => slotBusy d s

/-- CHC forms the desired setpoint and hands it to the slots (R39, R40, R42). -/
def renewDesired (s : State) : State :=
  let d := s.formDesired
  driveEnable
    (handleDesired d
      (s.setChc { s.chc with deadline := deadlineAt s.chc.inForce s.chc.desired d s.chc.deadline, desired := d }))

/-- After a write has ended, the pending setpoint is moved on or discarded (R40). -/
def movePending (s : State) : State :=
  match s.chc.next with
  | none => s
  | some d => if s.mayWrite then slotIdle d s else s.setChc { s.chc with next := none }

/-- CHC reports its quiesce complete when no write is in flight (R38). -/
def chargeAtRest (s : State) : State := if s.chc.inFlight.isNone then memberDone .power .chc s else s

/-- PLC reports a write complete (R40). -/
def writeComplete (s : State) : State :=
  let inForce := if s.chc.flightVoid then s.chc.inForce else s.chc.inFlight
  chargeAtRest
    (driveEnable
      (movePending
        (s.setChc
          { s.chc with inForce := inForce, inFlight := none, flightVoid := false })))

/-- A write that fails or is cut short after the path left ON_ADAPTER has no effect (R39). -/
def writeVoid (s : State) : State :=
  chargeAtRest (movePending (s.setChc { s.chc with inFlight := none, flightVoid := false }))

/-- PLC reports a write failed (R41). The caller tells the POWER job's members of a quiesce. -/
def writeFailed (s : State) : State :=
  if s.chc.flightVoid then writeVoid s
  else
    occur .chargerSilent []
      (s.setChc
        { s.chc with inFlight := none, inForce := none, next := none, deadline := none, chgEn := false })

/-- PLC reports a write cut short by the LINK quiesce (R41). -/
def writeCutShort (s : State) : State :=
  if s.chc.flightVoid then writeVoid s
  else
    let s1 := s.setChc { s.chc with inFlight := none, inForce := none, deadline := none, chgEn := false }
    chargeAtRest (driveEnable (handleDesired s1.chc.desired s1))

/-! ## Charge states (R25) -/

/-- The charge record of a pack in a new state: the relative charge stands in DONE only, and the
suspended phase in a suspension that names one. -/
def Charge.enter (c : Charge) (st : ChargeState) (ph : Option SuspendedPhase) : Charge :=
  { c with state := st, phase := ph, relAtDone := if st = .done then c.relAtDone else none }

/-- A part of a detail for a number that may be absent. -/
def natPart : Option Nat → Part
  | some n => some (Int.ofNat n)
  | none => none

/-- CHARGE_PHASE, and CHARGE_DONE at DONE (R25). -/
def reportPhase (p : PackId) (st : ChargeState) (s : State) : State :=
  let s1 := raise .chargePhase [some (Int.ofNat p.num), some (Int.ofNat st.num), natPart st.reason] s
  if st = .done then raise .chargeDone (det [p.num]) s1 else s1

/-- A pack enters a charge state (R25). -/
def enterState (p : PackId) (st : ChargeState) (ph : Option SuspendedPhase) (s : State) : State :=
  let s1 := s.setCharge p ((s.charge p).enter st ph)
  if (s.charge p).state = st then s1 else reportPhase p st s1

/-- The record of a session that has ended (R37). -/
def Charge.ended (c : Charge) : Charge := { c with entry := none, preTime := 0, fastTime := 0, taperRun := 0 }

/-- A session ends and the pack leaves the active set (R37). -/
def endSession (p : PackId) (st : ChargeState) (s : State) : State :=
  enterState p st none (s.setCharge p (s.charge p).ended)

/-- A session on a pack, if there is one, ends in IDLE (R37). -/
def endIfActive (p : PackId) (s : State) : State := if s.charging p then endSession p .idle s else s

/-- The state outside a session that the inhibit gives (R36). -/
def Charge.rest (c : Charge) : ChargeState := if c.inhibit then .inhibitedHost else .idle

/-- The age of the snapshot in a pack record, or none (R27). -/
def State.snapshotAge (s : State) (p : PackId) : Option Nat :=
  (s.pack p).snapshot.map fun x => s.time.age x.time

/-- Whether the record snapshot of a pack is 5 s old (R27, R32). -/
def State.stale (s : State) (p : PackId) : Bool :=
  match s.snapshotAge p with
  | some a => 5000 ≤ a
  | none => false

/-- A pack enters QUALIFY (R27): an immediate snapshot is asked for, and a stale record suspends it. -/
def enterQualify (p : PackId) (s : State) : State :=
  let s1 := askSnapshot p (enterState p .qualify none s)
  if s1.stale p then enterState p (.suspended .stale) none s1 else s1

/-- A pack leaves QUALIFY for a charging phase, or for the suspension R30 names instead of it (R28, R30). -/
def enterPhase (p : PackId) (st : ChargeState) (s : State) : State :=
  match st.phase with
  | none => enterState p st none s
  | some ph =>
    match s.current p ph with
    | some (ma, r) => if ma < 128 then enterState p (.suspended r) (some ph) s else enterState p st none s
    | none => enterState p st none s

/-- DONE is reached (R31). -/
def enterDone (p : PackId) (s : State) : State :=
  let s1 := s.setCharge p { s.charge p with doneSince := true, relAtDone := (s.pack p).relCharge }
  endSession p .done s1

/-- The decision of QUALIFY at a snapshot (R28). -/
def qualifyDecision (p : PackId) (snap : Snapshot) (s : State) : State :=
  if !s.supported p then endSession p .inhibitedUnsupported s
  else
    match s.matchEntry p snap.temp with
    | none => enterState p (.suspended .temp) none (s.setCharge p { s.charge p with entry := none })
    | some k =>
      let s1 := s.setCharge p { s.charge p with entry := some k }
      let cells := ((s.pack p).identity.map (·.cells)).getD 0
      if snap.overTemp || snap.overCharge then enterState p (.suspended .packAlarm) none s1
      else if snap.fullyCharged || snap.terminate then enterDone p s1
      else if snap.voltage < cells * (s.entry k).preCellMv then enterPhase p .precharge s1
      else enterPhase p .fast s1

/-- The current computed for a suspended phase is 128 mA or more (R30). -/
def State.serves (s : State) (p : PackId) (ph : SuspendedPhase) : Bool := (s.current p ph).any fun x => 128 ≤ x.1

/-- The latest published snapshot of a pack shows neither alarm (R33, log entry 47). -/
def State.alarmFree (s : State) (p : PackId) : Bool :=
  (s.pack p).snapshot.any fun x => !(x.overTemp || x.overCharge)

/-- Whether a suspension that R30 made clears with the current as computed (R33). -/
def State.clears (s : State) (p : PackId) (r : SuspendReason) : Bool :=
  match r, (s.charge p).phase with
  | .thermal, some ph => s.serves p ph
  | .budget, some ph => s.serves p ph
  | .packAlarm, some ph => s.alarmFree p && s.serves p ph
  | _, _ => false

/-- R30 at a recomputation: a phase that gets less than 128 mA is suspended, and a suspension that R30 made and
that gets 128 mA or more returns to QUALIFY (R33). -/
def recompute (p : PackId) (s : State) : State :=
  match (s.charge p).state with
  | .suspended r => if s.clears p r then enterQualify p s else s
  | st =>
    match st.phase with
    | none => s
    | some ph =>
      match s.current p ph with
      | some (ma, r) => if ma < 128 then enterState p (.suspended r) (some ph) s else s
      | none => s

/-- A TOPOFF snapshot counts against the taper current (R31). A current above it sets the run to 0 whatever the
current in force (log entry 47). -/
def taper (p : PackId) (e : ProfileEntry) (snap : Snapshot) (s : State) : State :=
  let c := s.charge p
  if snap.current ≤ Int.ofNat e.taperMa then
    if e.taperMa < (s.chc.inForce.map (·.ma)).getD 0 then
      if 3 ≤ c.taperRun + 1 then enterDone p s else s.setCharge p { c with taperRun := c.taperRun + 1 }
    else s
  else s.setCharge p { c with taperRun := 0 }

/-- A pack goes to TOPOFF, its taper run at 0 (R31). -/
def enterTopoff (p : PackId) (s : State) : State :=
  enterState p .topoff none (s.setCharge p { s.charge p with taperRun := 0 })

/-- Progress of the phases at a snapshot (R31). The phase is entered whatever its current: R30 suspends from it. -/
def progress (p : PackId) (snap : Snapshot) (s : State) : State :=
  let c := s.charge p
  let e := s.entry (c.entry.getD 16)
  let cells := ((s.pack p).identity.map (·.cells)).getD 0
  if snap.fullyCharged || snap.terminate then enterDone p s
  else
    match c.state with
    | .precharge => if cells * e.preCellMv ≤ snap.voltage then enterState p .fast none s else s
    | .fast => if (s.chargeVoltage p).getD 0 ≤ snap.voltage + 16 * cells then enterTopoff p s else s
    | .topoff => taper p e snap s
    | _ => s

/-- A snapshot of a pack in a charging phase (R31, R32). -/
def phaseSnapshot (p : PackId) (snap : Snapshot) (s : State) : State :=
  let e := s.entry ((s.charge p).entry.getD 16)
  if snap.overTemp || snap.overCharge then enterState p (.suspended .packAlarm) none s
  else if !e.holds snap.temp then enterQualify p s
  else recompute p (progress p snap s)

/-- A snapshot of a suspended pack (R33). -/
def suspendedSnapshot (p : PackId) (r : SuspendReason) (snap : Snapshot) (s : State) : State :=
  match r with
  | .temp => if (s.matchEntry p snap.temp).isSome then enterQualify p s else s
  | .thermal => recompute p s
  | .budget => recompute p s
  | .stale => enterQualify p s
  | .packAlarm =>
    if snap.overTemp || snap.overCharge then s
    else
      match (s.charge p).phase with
      | none => enterQualify p s
      | some _ => recompute p s

/-- A DONE pack at a snapshot (R35). -/
def doneSnapshot (p : PackId) (s : State) : State :=
  match (s.pack p).relCharge, (s.charge p).relAtDone with
  | some rel, some at_ => if rel < s.chc.threshold ∧ rel < at_ then enterState p .idle none s else s
  | _, _ => s

/-- A snapshot of a pack is published (R28, R31 to R33, R35). -/
def snapshotToCharge (p : PackId) (snap : Snapshot) (s : State) : State :=
  match (s.charge p).state with
  | .qualify => qualifyDecision p snap s
  | .suspended r => suspendedSnapshot p r snap s
  | .done => doneSnapshot p s
  | .precharge => phaseSnapshot p snap s
  | .fast => phaseSnapshot p snap s
  | .topoff => phaseSnapshot p snap s
  | _ => s

/-! ## Sessions (R26) -/

/-- Whether a pack is a candidate (R26). -/
def State.candidate (s : State) (p : PackId) : Bool :=
  s.chargeable p && (s.charge p).state = .idle
    && ((match (s.pack p).relCharge with
          | some r => r < s.chc.threshold
          | none => false)
        || !(s.charge p).doneSince)

/-- The candidate chosen by the charge order (R26). -/
def State.chosen (s : State) : Option PackId :=
  match s.candidate .A, s.candidate .B with
  | true, true =>
    match s.chc.order with
    | .firstA => some .A
    | .firstB => some .B
    | .auto => if (s.pack .B).relCharge.getD 0 < (s.pack .A).relCharge.getD 0 then some .B else some .A
  | true, false => some .A
  | false, true => some .B
  | false, false => none

/-- CHC starts a session when the conditions of R26 hold. -/
def trySession (s : State) : State :=
  if s.activePack.isNone && s.pth.path = .onAdapter && s.running .power && s.running .link then
    match s.chosen with
    | none => s
    | some p => enterQualify p (s.setCharge p (s.charge p).ended)
  else s

/-- Whether the charge state of a pack differs in two states (R39). -/
def chargeMoved (before s : State) : Bool :=
  before.chc.a.state ≠ s.chc.a.state || before.chc.b.state ≠ s.chc.b.state

/-- What CHC does after any change it acts on, `before` being the state it acted in: a session is tried; at
a moment R29 or R40 names, and where a charge state has changed, the desired setpoint is formed and handed to
the slots (R39); and PLC follows the change of roles (R26, R78). Log entry 29 lists the moments. -/
def settleCharge (moment : Bool) (before s : State) : State :=
  let s1 := trySession s
  rolesToLink (if moment || chargeMoved before s1 then renewDesired s1 else s1)

/-- CHC where the conditions of R40 may come to hold together: with the path ON_ADAPTER and the POWER job RUN
the desired setpoint is formed afresh (R39, R40). -/
def settleAgain (before s : State) : State := settleCharge s.mayWrite before s

/-! ## What other blocks tell CHC -/

/-- A change of the applied grant or of the derate level (R29, R30). -/
def regrant (s : State) : State :=
  settleCharge true s
    (match s.activePack with
      | some p => recompute p s
      | none => s)

/-- The path state has left ON_ADAPTER (R37, R39). The desired setpoint is formed again, since the setpoint
in force is unknown (log entry 29). -/
def leaveAdapter (s : State) : State :=
  let s1 := endIfActive .B (endIfActive .A s)
  settleCharge true s
    (s1.setChc
      { s1.chc with
        inForce := none, next := none, deadline := none, chgEn := false,
        flightVoid := s1.chc.inFlight.isSome })

/-- A pack was removed (R10, R37, R38). -/
def removeFromCharge (p : PackId) (s : State) : State :=
  let s1 := endSession p (s.charge p).rest s
  let s2 := s1.setCharge p { s1.charge p with doneSince := false }
  settleCharge false s
    (match s2.chc.caught with
      | some c => if c.pack = p then s2.setChc { s2.chc with caught := none } else s2
      | none => s2)

/-- The inhibit of a pack changes (R36). -/
def setInhibit (p : PackId) (b : Bool) (s : State) : State :=
  let s1 := s.setCharge p { s.charge p with inhibit := b }
  match b, (s.charge p).state with
  | true, .fault _ => s1
  | true, .inhibitedHost => s1
  | true, _ => endSession p .inhibitedHost s1
  | false, .inhibitedHost => enterState p .idle none s1
  | false, _ => s1

/-- A charge fault code is cleared (R34, R36, R179); of two packs, pack A changes first (log entry 4). -/
def clearChargeFault (r : ChargeFault) (s : State) : State :=
  let clear := fun (p : PackId) (s : State) =>
    if (s.charge p).state = .fault r then enterState p (s.charge p).rest none s else s
  settleCharge false s (clear .B (clear .A s))

/-- A charge timer runs out (R34): the session ends in FAULT and the fault is raised. -/
def chargeTimerEnd (p : PackId) (r : ChargeFault) (c : FaultCode) (s : State) : State :=
  occur c (det [p.num]) (settleCharge false s (endSession p (.fault r) s))

/-- The timeout of a pack's governing entry for a charge timer, in ms (R34). -/
def State.preLimit (s : State) (p : PackId) : Nat := (s.entry ((s.charge p).entry.getD 16)).preMin * 60000

/-- The fast timeout of a pack's governing entry, in ms (R34). -/
def State.fastLimit (s : State) (p : PackId) : Nat := (s.entry ((s.charge p).entry.getD 16)).fastMin * 60000

/-- The governing entry of a pack lies in a row. -/
def Charge.governedBy (c : Charge) (row : Nat) : Bool :=
  match c.entry with
  | some k => k / 8 = row
  | none => false

/-- A commit of a row has completed (R49); of two packs, pack A changes first (log entry 4). -/
def commitEffects (row : Nat) (s : State) : State :=
  let act := fun (p : PackId) (s : State) =>
    let c := s.charge p
    if c.state = .inhibitedUnsupported then enterState p .idle none s
    else if c.state.active && (c.governedBy row || c.state = .suspended .temp) then enterQualify p s
    else s
  settleCharge false s (act .B (act .A s))

/-! ## The POWER job (R38) -/

/-- CHC is told to quiesce (R38): the desired setpoint is formed again, and with the job not RUN the pending
slot is emptied and CHG_EN deasserted (R40, R42, log entry 29). -/
def quiesceCharge (s : State) : State :=
  let s1 :=
    match s.activePack with
    | none => s
    | some p =>
      let c := s.charge p
      endSession p .idle
        (s.setChc
          { s.chc with
            caught := some { pack := p, state := c.state, entry := c.entry, preTime := c.preTime, fastTime := c.fastTime } })
  chargeAtRest (settleCharge true s s1)

/-- The saved session goes on when its pack is IDLE, chargeable and not inhibited on the adapter (R38). -/
def resumeSession (c : ChargeCatch) (s : State) : State :=
  if (s.charge c.pack).state = .idle ∧ s.chargeable c.pack ∧ (s.charge c.pack).inhibit = false
      ∧ s.pth.path = .onAdapter then
    enterQualify c.pack
      (s.setCharge c.pack
        { (s.charge c.pack).ended with entry := c.entry, preTime := c.preTime, fastTime := c.fastTime })
  else s

/-- A pack starts from the initial state of CHC (R38). -/
def initialCharge (p : PackId) (s : State) : State :=
  let s1 := endSession p (s.charge p).rest s
  s1.setCharge p { s1.charge p with doneSince := false }

/-- CHC is told of its job's return to RUN (R38); from OFF, pack A changes before pack B (log entry 4). -/
def returnCharge (fromOff : Bool) (s : State) : State :=
  let s1 := s.setChc { s.chc with caught := none }
  settleAgain s
    (if fromOff then
      let s2 := initialCharge .B (initialCharge .A s1)
      s2.setChc { s2.chc with inForce := none, inFlight := none, flightVoid := false, next := none, deadline := none }
    else
      match s.chc.caught with
      | some c => resumeSession c s1
      | none => s1)

end Sys2Proof.Machine
end

