-- ==== Sys2Proof/Machine/BgaOps.lean ====
section
/-! DEFINITION. The operations of the Budget Allocator: the budget and the grant, the mode, and the
throttle (03). -/

namespace Sys2Proof.Machine

/-! ## The budget (R54 to R57) -/

/-- The mode a path state gives (R54). -/
def modeOf : PathState → Mode
  | .onAdapter => .adapter
  | .onPackA => .battery
  | .onPackB => .battery
  | .switching _ => .none
  | .noSource => .none

/-- The limit L (R55). -/
def adapterLimit (a : Adapter) : Nat :=
  (match a.hostLimit with
    | some h => min a.rating h
    | none => a.rating) * 95 / 100

/-- The charger draw (R56): the product over 1,000 and 0.90, computed whole. -/
def State.chargerDraw (s : State) : Nat :=
  match s.chc.chgEn, s.chc.inForce with
  | true, some f => f.mv * f.ma / 900
  | _, _ => 0

/-- The fan draw (R56). -/
def State.fanDraw (s : State) : Nat := 24 * s.thc.fan0.duty + 24 * s.thc.fan1.duty

/-- The voltage of a pack's latest snapshot. -/
def State.packMv (s : State) (p : PackId) : Nat := ((s.pack p).snapshot.map (·.voltage)).getD 0

/-- The reference pack (R57). -/
def State.reference (s : State) : Option PackId :=
  match s.activePack with
  | some p => some p
  | none =>
    match s.chargeable .A, s.chargeable .B with
    | true, true => if s.packMv .A < s.packMv .B then some .B else some .A
    | true, false => some .A
    | false, true => some .B
    | false, false => none

/-- The computed grant from an allowance and a reference voltage (R57); the limit acts on the rounded result
(log entry 52). -/
def grantFrom (a : Int) (mv : Nat) : Nat := min 6000 (a.toNat * 900 / mv / 64 * 64)

/-- The grant record after a measurement in ADAPTER mode, before the grant is applied (R56, R57). -/
def measuredAdapter (b : Bga) (dChg dFan limit : Nat) (ref : Option (PackId × Nat)) : Bga :=
  let sys := b.pIn - dChg - dFan
  let a : Int := Int.ofNat limit - Int.ofNat sys - Int.ofNat dFan
  { b with
    limit := limit, dChg := dChg, dFan := dFan, sys := sys, allowance := a, refPack := ref.map (·.1),
    refMv := ref.map (·.2)
    computed := match ref with
      | some r => grantFrom a r.2
      | none => 0 }

/-- The fields that are 0 or none outside ADAPTER mode (R54, R57). The pack power keeps its last value outside
BATTERY mode (log entry 28). -/
def Bga.idle (b : Bga) : Bga :=
  { b with dChg := 0, sys := 0, allowance := 0, refPack := none, refMv := none, computed := 0, applied := 0 }

/-- The grant record after a measurement in BATTERY and NONE modes (R54). -/
def measuredOther (b : Bga) (dFan limit : Nat) : Bga := { b.idle with dFan := dFan, limit := limit }

/-! ## The applied grant (R58, R59) -/

/-- Whether a computed grant is applied (R58). -/
def grantMoves (computed applied : Nat) : Bool := computed + 64 ≤ applied || applied + 128 ≤ computed

/-- A grant as the applied one: a reduction begins the 50 ms of R43 (log entry 42). -/
def Bga.grant (b : Bga) (ma : Nat) : Bga :=
  { b with applied := ma, cutLeft := if ma < b.applied then some 50 else b.cutLeft }

/-- Apply the computed grant by R58, in ADAPTER mode with the POWER job RUN. -/
def applyGrant (s : State) : State :=
  if s.running .power && grantMoves s.bga.computed s.bga.applied then regrant (s.setBga (s.bga.grant s.bga.computed))
  else s

/-- The applied grant is set to 0 at once (R59). -/
def zeroGrant (s : State) : State :=
  if s.bga.applied = 0 then s else regrant (s.setBga (s.bga.grant 0))

/-! ## The throttle (R60 to R63) -/

/-- An episode begins (R60, R62). -/
def beginEpisode (owner : Source) (excess : Nat) (s : State) : State :=
  raise .budgetExceeded (det [owner.num, excess])
    (s.setBga { s.bga with throttle := .asserted, episodeStart := some s.time, episodeOwner := some owner })

/-- The throttle is evaluated with a draw against a limit (R60 to R62). -/
def evaluateThrottle (owner : Source) (draw limit : Nat) (s : State) : State :=
  match s.bga.throttle with
  | .released => if limit < draw then beginEpisode owner (draw - limit) s else s
  | .asserted =>
    if draw < limit * 97 / 100 then s.setBga { s.bga with throttle := .releasing, release := some 200 } else s
  | .releasing =>
    if limit * 97 / 100 ≤ draw ∨ limit < draw then s.setBga { s.bga with throttle := .asserted, release := none }
    else s

/-- The throttle is released (R61, R63). -/
def Bga.released (b : Bga) : Bga :=
  { b with throttle := .released, release := none, episodeStart := none, episodeOwner := none }

/-- The discharge limit of a pack (R65). -/
def Bga.dischargeLimit (b : Bga) : PackId → Nat
  | .A => b.dischargeA
  | .B => b.dischargeB

/-- The power a snapshot shows a pack delivering (R62). -/
def Snapshot.power (x : Snapshot) : Nat := x.voltage * (-x.current).toNat / 1000

/-- The battery throttle at a snapshot of the source pack (R62). -/
def batteryThrottle (p : PackId) (x : Snapshot) (s : State) : State :=
  evaluateThrottle p.source x.power (s.bga.dischargeLimit p) (s.setBga { s.bga with packPower := x.power })

/-- The source pack of a settled path. -/
def PathState.pack : PathState → Option PackId
  | .onPackA => some .A
  | .onPackB => some .B
  | _ => none

/-- A snapshot of a pack is published to BGA (R62). -/
def snapshotToBudget (p : PackId) (x : Snapshot) (s : State) : State :=
  if s.pth.path.pack = some p then batteryThrottle p x s else s

/-- An episode that does not belong to a source ends (R63). -/
def endOther (owner : Option Source) (s : State) : State :=
  if s.bga.throttle = .released ∨ s.bga.episodeOwner = owner then s else s.setBga s.bga.released

/-- PTH reports a path state to BGA (R54, R59, R63). -/
def pathToBudget (s : State) : State :=
  let s1 := s.setBga { s.bga with mode := modeOf s.pth.path }
  match s.pth.path with
  | .onAdapter => endOther (some .adapter) s1
  | .onPackA =>
    let s2 := endOther (some .packA) (zeroGrant s1)
    match (s.pack .A).snapshot with
    | some x => batteryThrottle .A x (s2.setBga s2.bga.idle)
    | none => s2.setBga s2.bga.idle
  | .onPackB =>
    let s2 := endOther (some .packB) (zeroGrant s1)
    match (s.pack .B).snapshot with
    | some x => batteryThrottle .B x (s2.setBga s2.bga.idle)
    | none => s2.setBga s2.bga.idle
  | .switching _ =>
    let s2 := zeroGrant s1
    s2.setBga s2.bga.idle
  | .noSource =>
    let s2 := endOther none (zeroGrant s1)
    s2.setBga s2.bga.idle

/-- BGA is told to quiesce (R59). -/
def quiesceBudget (s : State) : State := memberDone .power .bga (zeroGrant s)

end Sys2Proof.Machine
end

