-- ==== Sys2Proof/Machine/SwcOps.lean ====
section
/-! DEFINITION. The operations of the Sleep and Wake Controller: platform states and rails, wake
sources, forced OFF, and the battery band (09). -/

namespace Sys2Proof.Machine

/-! ## Platform states (R154) -/

/-- The platform enters a state, and the Keyboard Scanner, the Pack Link Controller and the Thermal
Controller are told (R154). -/
def setPlatform (p : Platform) (s : State) : State :=
  let before := s.swc.platform
  let s1 := s.setSwc { s.swc with platform := p }
  if before = p then s1 else platformToThermal before (rolesToLink (deriveScanMode s1))

/-- The grace timer starts unless it runs (R165). -/
def startGrace (s : State) : State :=
  match s.swc.grace with
  | some _ => s
  | none => s.setSwc { s.swc with grace := some 10000 }

/-- The number of a primary reason as a detail. -/
def wakePart (w : Option WakeSource) : Part := natPart (w.map WakeSource.num)

/-- The platform reaches ON from ENTERING_SLEEP, WAKING or POWERING_UP: the wake time is set, each
channel with a non-empty list gets a notice, WOKE is raised, and the grace starts on a nearly empty
pack (R161, R165, R187). -/
def reachOn (s : State) : State :=
  let s1 := s.setSwc { s.swc with settle := none, powerGood := none, wakeTime := some s.time }
  let s2 := raise .woke [wakePart s.swc.primary] (noticesOnArrival (setPlatform .on s1))
  if s2.swc.band = .shutdown ∧ s2.adapter.qualified = false then startGrace s2 else s2

/-! ## Wake and power-up (R157) -/

/-- The power-good timer starts with RAIL_MAIN_EN asserted; MAIN_PG found asserted ends the wait
(R157, log entry 19). -/
def startPowerGood (s : State) : State :=
  let s1 := s.setSwc { s.swc with railMain := true, powerGood := some 50, mainWaits := false, mainDelay := none }
  if s.swc.mainPg then reachOn s1 else s1

/-- A wake source becomes the primary reason and joins the fired set (R160). -/
def takeWake (w : WakeSource) (s : State) : State :=
  s.setSwc { s.swc with primary := some w, fired := s.swc.fired.add w }

/-- A power-up starts in OFF (R157). -/
def powerUp (w : WakeSource) (s : State) : State :=
  let s1 := takeWake w s
  setPlatform .poweringUp (s1.setSwc { s1.swc with railSlp := true, mainDelay := some 10, leftOff := true })

/-- A wake starts in SLEEP (R157). -/
def wakeUp (w : WakeSource) (s : State) : State := startPowerGood (setPlatform .waking (takeWake w s))

/-- A wake source fires (R160). -/
def wake (w : WakeSource) (s : State) : State :=
  match s.swc.platform with
  | .enteringSleep => if s.swc.settings.sleepMask.has w then reachOn (takeWake w s) else s
  | .sleep => if s.swc.settings.sleepMask.has w then wakeUp w s else s
  | .waking =>
    if s.swc.settings.sleepMask.has w then s.setSwc { s.swc with fired := s.swc.fired.add w } else s
  | .off => if s.swc.settings.offMask.has w then powerUp w s else s
  | .poweringUp =>
    if s.swc.settings.offMask.has w then s.setSwc { s.swc with fired := s.swc.fired.add w } else s
  | .on => s
  | .shuttingDown => s

/-! ## OFF (R156, R157, R159) -/

/-- Both rails are deasserted and the platform becomes OFF with a cause. -/
def goOff (c : OffCause) (s : State) : State :=
  setPlatform .off
    (s.setSwc
      { s.swc with
        railSlp := false, railMain := false, settle := none, powerGood := none, mainDelay := none,
        mainWaits := false, lastOff := c })

/-- A forced OFF (R159). -/
def forcedOff (c : OffCause) (s : State) : State :=
  if s.swc.platform = .off then s
  else
    goOff c
      (s.setSwc
        { s.swc with
          grace := none, fired := if s.swc.platform = .on then .empty else s.swc.fired })

/-- The path leaves NO_SOURCE while RAIL_MAIN_EN waits for it (R157). -/
def sourceArrives (s : State) : State :=
  if s.swc.platform = .poweringUp && s.swc.mainWaits then startPowerGood s else s

/-! ## The battery band (R164, R165) -/

/-- The remaining and the full capacity a pack adds: its latest snapshot while it is usable. -/
def Pack.capacities (r : Pack) : Nat × Nat :=
  match r.usable, r.snapshot with
  | true, some x => (x.remaining, x.full)
  | _, _ => (0, 0)

/-- The combined relative charge (R164). -/
def State.combined (s : State) : Option Nat :=
  let a := s.pth.packA.capacities
  let b := s.pth.packB.capacities
  if a.2 + b.2 = 0 then none else some ((a.1 + b.1) * 100 / (a.2 + b.2))

/-- The band. -/
def setBand (b : BatteryBand) (s : State) : State := s.setSwc { s.swc with band := b }

/-- The band moves up out of SHUTDOWN to another, and the grace stops (R165). -/
def leaveShutdown (b : BatteryBand) (s : State) : State := s.setSwc { s.swc with band := b, grace := none }

/-- A step into SHUTDOWN (R165). -/
def shutdownStep (s : State) : State :=
  match s.swc.platform with
  | .on => startGrace s
  | .enteringSleep => startGrace s
  | .waking => startGrace s
  | .poweringUp => startGrace s
  | .sleep => forcedOff .batteryShutdown s
  | .shuttingDown => s
  | .off => s

/-- The step from ABOVE_LOW into LOW. -/
def stepLow (c : Nat) (s : State) : State :=
  if s.swc.band = .aboveLow ∧ c < s.swc.settings.low then raise .batteryLow (det [c]) (setBand .low s) else s

/-- The step from LOW into CRITICAL. -/
def stepCritical (c : Nat) (s : State) : State :=
  if s.swc.band = .low ∧ c < s.swc.settings.critical then
    wake .batteryCritical (raise .batteryCritical (det [c]) (setBand .critical s))
  else s

/-- The step from CRITICAL into SHUTDOWN. -/
def stepShutdown (c : Nat) (s : State) : State :=
  if s.swc.band = .critical ∧ c < s.swc.settings.shutdown then shutdownStep (setBand .shutdown s) else s

/-- The upward steps, which raise nothing; the grace stops when the band leaves SHUTDOWN (R164, R165). -/
def stepsUp (c : Nat) (s : State) : State :=
  let s1 :=
    if s.swc.band = .shutdown ∧ s.swc.settings.shutdown + 2 ≤ c then leaveShutdown .critical s else s
  let s2 := if s1.swc.band = .critical ∧ s1.swc.settings.critical + 2 ≤ c then setBand .low s1 else s1
  if s2.swc.band = .low ∧ s2.swc.settings.low + 2 ≤ c then setBand .aboveLow s2 else s2

/-- SWC evaluates the battery band (R164). -/
def evaluateBand (s : State) : State :=
  if s.adapter.qualified then s
  else
    match s.combined with
    | none => s
    | some c => stepsUp c (stepShutdown c (stepCritical c (stepLow c s)))

/-! ## The adapter, for SWC -/

/-- The adapter has qualified (R160, R165, R196): the grace stops, and the first qualification after
power-on powers the platform up when the auto-on flag says so and the platform has not left OFF. -/
def adapterGained (s : State) : State :=
  let first := !s.adapter.seenFirst
  let s1 := (s.setAdapter { s.adapter with seenFirst := true }).setSwc { s.swc with grace := none }
  if first && s1.swc.settings.autoOn && !s1.swc.leftOff && s1.swc.platform = .off then
    powerUp .adapterChange s1
  else wake .adapterChange s1

/-- The band is set to ABOVE_LOW (R164), which takes it up out of SHUTDOWN where it stood there (R165). -/
def bandAboveLow (s : State) : State :=
  if s.swc.band = .shutdown then leaveShutdown .aboveLow s else setBand .aboveLow s

/-- The adapter has lost its qualification (R160, R164). -/
def adapterLost (s : State) : State := evaluateBand (bandAboveLow (wake .adapterChange s))

end Sys2Proof.Machine
end

