-- ==== Sys2Proof/Machine/PthOps.lean ====
section
/-! DEFINITION. The operations of the Path Controller: the path state and its switches, selection and
switch-over, the pack records, the eject of pack B, and the adapter's qualification (01). -/

namespace Sys2Proof.Machine

/-! ## The path state and its switches (R1, R13, R16) -/

/-- The path state and the switches it closes: in SWITCHING the target's (01 section 1.1, R1). -/
def Pth.setPath (k : Pth) (p : PathState) : Pth :=
  { k with
    path := p, swAdp := p.source = some .adapter, swPa := p.source = some .packA,
    swPb := p.source = some .packB }

/-- SOURCE_CHANGED when the path settles in a state other than the last settled one (R16). -/
def settlePath (s : State) : State :=
  match s.pth.path with
  | .switching _ => s
  | p =>
    if s.pth.settled = p then s
    else raise .sourceChanged (det [p.num]) (s.setPth { s.pth with settled := p })

/-- CHC is told of a change of the path state (R37, R39). -/
def pathToCharge (before : PathState) (s : State) : State :=
  if before = .onAdapter ∧ s.pth.path ≠ .onAdapter then leaveAdapter s else settleAgain s s

/-- SWC is told of a change of the path state (R17, R157). -/
def pathToPlatform (before : PathState) (s : State) : State :=
  if s.pth.path = .noSource then forcedOff .noSource s
  else if before = .noSource then sourceArrives s
  else s

/-- The path takes a new state and reports it to CHC, BGA and SWC (R13). -/
def changePath (p : PathState) (s : State) : State :=
  let before := s.pth.path
  pathToPlatform before (pathToBudget (pathToCharge before (settlePath (s.setPth (s.pth.setPath p)))))

/-- PTH reports its quiesce complete when the path is not SWITCHING (R18). -/
def pathAtRest (s : State) : State :=
  match s.pth.path with
  | .switching _ => s
  | _ => memberDone .power .pth s

/-! ## Selection (R11, R12) -/

/-- Whether the adapter is eligible (R11). -/
def State.adapterEligible (s : State) : Bool := s.adapter.qualified && s.adapter.hold.isNone

/-- Whether a pack is eligible (R11). -/
def State.eligible (s : State) (p : PackId) : Bool :=
  (s.pack p).usable && (s.pack p).presence ≠ .ejectPending

/-- The relative charge of a pack, for a comparison. -/
def State.rel (s : State) (p : PackId) : Nat := (s.pack p).relCharge.getD 0

/-- The first eligible pack of two. -/
def State.firstOf (s : State) (p q : PackId) : Option PackId :=
  if s.eligible p then some p else if s.eligible q then some q else none

/-- The pack AUTO stays on or goes to from a running pack; the comparison is made at a snapshot
publication (R11). -/
def State.autoFrom (s : State) (publication : Bool) (run other : PackId) : PackId :=
  if publication && s.eligible other && s.rel run + 10 ≤ s.rel other then other else run

/-- The pack AUTO chooses (R11). -/
def State.autoPack (s : State) (publication : Bool) : Option PackId :=
  if s.pth.path = .onPackA ∧ s.eligible .A then some (s.autoFrom publication .A .B)
  else if s.pth.path = .onPackB ∧ s.eligible .B then some (s.autoFrom publication .B .A)
  else
    match s.eligible .A, s.eligible .B with
    | true, true => if s.rel .A < s.rel .B then some .B else some .A
    | true, false => some .A
    | false, true => some .B
    | false, false => none

/-- The pack the preference chooses (R11). -/
def State.choosePack (s : State) (publication : Bool) : Option PackId :=
  match s.pth.preference with
  | .preferA => s.firstOf .A .B
  | .preferB => s.firstOf .B .A
  | .auto => s.autoPack publication

/-- The target of a selection (R11). -/
def State.target (s : State) (publication : Bool) : Option Source :=
  if s.adapterEligible then some .adapter else (s.choosePack publication).map PackId.source

/-- The settled state of a source. -/
def settledOn : Source → PathState
  | .adapter => .onAdapter
  | .packA => .onPackA
  | .packB => .onPackB

/-- The known voltage of a target at the closing of its switch (R13). -/
def State.knownVoltage (s : State) : Source → Nat
  | .adapter => s.adapter.senseMv
  | .packA => s.packMv .A
  | .packB => s.packMv .B

/-- A switch-over to a target starts (R13). -/
def startSwitch (t : Source) (s : State) : State :=
  changePath (.switching t) (s.setPth { s.pth with knownMv := s.knownVoltage t })

/-- The path goes to a target, unless it is there. -/
def goTo (t : Source) (s : State) : State := if s.pth.path = settledOn t then s else startSwitch t s

/-- The path goes to NO_SOURCE, unless it is there (R17). -/
def goNoSource (s : State) : State := if s.pth.path = .noSource then s else changePath .noSource s

/-- Pack B's record returns to PRESENT out of an eject (R20). -/
def ejectToPresent (s : State) : State :=
  s.setPth { s.pth with packB := { s.pth.packB with presence := .present }, ejectOk := false, ejectWindow := none }

/-- EJECT_READY with detail READY 0, EXPIRED 1 or WITHDRAWN 2 (R19, R20). -/
def raiseEject (d : Nat) (s : State) : State := raise .ejectReady (det [d]) s

/-- The pending eject of pack B is withdrawn: pack B is eligible again (R20). -/
def withdrawEject (s : State) : State := settleCharge false s (raiseEject 2 (ejectToPresent s))

/-- Pack B is in EJECT_PENDING and usable, so that a selection that names no other source withdraws its eject
(R20). R20 withdraws it to a pack B that is eligible again; with pack B not usable the record stays
EJECT_PENDING (log entry 45). -/
def State.withdrawable (s : State) : Bool := s.pth.packB.presence = .ejectPending && s.pth.packB.usable

/-- PTH carries selection out (R11, R12): with no other source, an eject that is pending is withdrawn (R20).
It makes the choice of a publication that was postponed, and none is postponed after it. -/
def runSelection (publication : Bool) (s : State) : State :=
  let s1 := s.setPth { s.pth with postponed := false }
  match s.target (publication || s.pth.postponed) with
  | some t => goTo t s1
  | none => if s.withdrawable then goTo .packB (withdrawEject s1) else goNoSource s1

/-- A selection that is not carried out: the choice of a publication is postponed to the next one that is
(R12, R15). -/
def postpone (publication : Bool) (s : State) : State :=
  s.setPth { s.pth with postponed := s.pth.postponed || publication }

/-- A selection on a settled ON state with the POWER job not RUN (R12): one that would leave the source is not
carried out. One that names no source except pack B withdraws the pending eject all the same (R20), and the
path goes to pack B, where it is not there, when the job returns to RUN (log entry 45). -/
def selectHeld (publication : Bool) (s : State) : State :=
  match s.target publication with
  | some t => if s.pth.path = settledOn t then s else postpone publication s
  | none =>
    if s.withdrawable then
      if s.pth.path = .onPackB then withdrawEject s else postpone publication (withdrawEject s)
    else postpone publication s

/-- A selection point outside the emergency response (R12, R15, R17): postponed during SWITCHING, and on a
settled ON state carried out only while the POWER job is RUN. The comparison AUTO makes at a publication is
made at the selection it is postponed to (log entry 46). -/
def select (publication : Bool) (s : State) : State :=
  match s.pth.path with
  | .switching _ => postpone publication s
  | .noSource => runSelection publication s
  | _ => if s.running .power then runSelection publication s else selectHeld publication s

/-! ## Usable (R6) -/

/-- Whether a pack is usable (R6). -/
def Pack.isUsable (r : Pack) : Bool :=
  match r.snapshot, r.identity with
  | some x, some i =>
    (r.presence = .present || r.presence = .ejectPending) && i.cells * 3000 ≤ x.voltage && r.hold.isNone
  | _, _ => false

/-- PTH derives usable (R6). -/
def deriveUsable (p : PackId) (s : State) : State :=
  s.setPack p { s.pack p with usable := (s.pack p).isUsable }

/-- PTH derives usable again after a change of a record, and CHC acts on it, `before` being the state before
the change; a change of usable is an evaluation of the battery band and a selection point (R6, R26, R164),
in that order (log entry 4). -/
def refreshPack (p : PackId) (before s : State) : State :=
  let s1 := settleCharge false before (deriveUsable p s)
  if (s.pack p).usable = (s.pack p).isUsable then s1 else select false (evaluateBand s1)

/-! ## Pack records (R5, R7 to R10) -/

/-- The relative charge of a snapshot (R5). -/
def Snapshot.relative (x : Snapshot) : Nat := if x.full = 0 then 0 else min 100 (x.remaining * 100 / x.full)

/-- A snapshot is published (R5): CHC forms the desired setpoint at the publication of the active pack's (R29). -/
def publish (p : PackId) (x : Snapshot) (s : State) : State :=
  let r := { s.pack p with snapshot := some x, relCharge := some x.relative, failRun := 0 }
  let s1 := deriveUsable p (s.setPack p r)
  pathAtRest (select true (evaluateBand (snapshotToBudget p x (settleCharge (s.charging p) s (snapshotToCharge p x s1)))))

/-- A record goes FAULTED (R8, R9): a session of the pack ends before PACK_SILENT is recorded (log entry 4). -/
def packFaulted (p : PackId) (s : State) : State :=
  let r := s.pack p
  let s1 := s.setPack p { r with presence := .faulted, attempts := 0, retryWait := none }
  let s2 := if p = .B then s1.setPth { s1.pth with ejectOk := false, ejectWindow := none } else s1
  refreshPack p s2 (occur .packSilent (det [p.num]) (endIfActive p s2))

/-- PLC reports a failed snapshot (R5, R9). -/
def snapshotFailed (p : PackId) (s : State) : State :=
  let r := s.pack p
  let s1 := s.setPack p { r with failRun := min 3 (r.failRun + 1) }
  if r.presence.polled && 3 ≤ r.failRun + 1 then packFaulted p s1 else s1

/-- A record enters DETECTED and its first identity attempt is asked for (R7, R8). -/
def enterDetected (p : PackId) (s : State) : State :=
  let r := s.pack p
  askIdentity p
    (s.setPack p
      { r with
        presence := .detected, identity := none, snapshot := none, relCharge := none, failRun := 0,
        hold := none, usable := false, debounce := none, attempts := 0, retryWait := none })

/-- An identity attempt has failed (R8). -/
def identityFailed (p : PackId) (s : State) : State :=
  let r := s.pack p
  if r.presence = .detected then
    if 3 ≤ r.attempts + 1 then packFaulted p s
    else s.setPack p { r with attempts := r.attempts + 1, retryWait := some 100 }
  else s

/-- An identity read has ended DONE (R8). -/
def identityRead (p : PackId) (i : Identity) (s : State) : State :=
  let r := s.pack p
  if r.presence = .detected then
    if 2 ≤ i.cells ∧ i.cells ≤ 4 ∧ i.capacity ≠ 0 then
      let s1 := s.setPack p { r with presence := .present, identity := some i, attempts := 0, retryWait := none }
      settleCharge false s
        (raise .packIdentified (det [p.num]) (s1.setPoll p { started := none, due := true, byPeriod := false, dueAt := s.time }))
    else identityFailed p s
  else s

/-- CLEAR FAULT of PACK_SILENT: a record in FAULTED is identified afresh (R9). -/
def unfault (p : PackId) (s : State) : State :=
  if (s.pack p).presence = .faulted then enterDetected p s else s

/-- The path is on a source or switches to it. -/
def State.uses (s : State) (t : Source) : Bool := s.pth.path.source = some t

/-- The loss of a source: the emergency response when the path uses it, a selection point otherwise
(R12, R15, R18). -/
def loseSource (t : Source) (s : State) : State :=
  pathAtRest (if s.uses t then runSelection false s else select false s)

/-- A presence line is deasserted (R10). -/
def removePack (p : PackId) (s : State) : State :=
  let s1 := s.setPack p (Pack.empty false)
  if (s.pack p).presence = .absent then s1
  else
    let s2 := if p = .B then s1.setPth { s1.pth with ejectOk := false, ejectWindow := none } else s1
    let s3 := loseSource p.source (removeFromCharge p (removeFromLink p (raise .packRemoved (det [p.num]) s2)))
    if (s.pack p).usable then evaluateBand s3 else s3

/-! ## The eject of pack B (R19) -/

/-- Pack B enters EJECT_READY (R19). -/
def enterEjectReady (s : State) : State :=
  let s1 :=
    s.setPth
      { s.pth with
        packB := { s.pth.packB with presence := .ejectReady }, ejectOk := true, ejectWindow := some 10000 }
  refreshPack .B s (endIfActive .B (raiseEject 0 s1))

/-- A switch-over away from pack B is confirmed with the record EJECT_PENDING (R19). With the other sources
lost before the confirmation and pack B usable, the selection that follows withdraws the eject instead (R20). -/
def ejectConfirmed (t : Source) (s : State) : State :=
  if t ≠ .packB ∧ s.pth.packB.presence = .ejectPending ∧ ¬(s.target false = none ∧ s.pth.packB.usable) then
    enterEjectReady s
  else s

/-- The path-rail monitor confirms the target (R13): the path settles, and the end of the switch-over is
a selection point. -/
def confirmPath (t : Source) (s : State) : State :=
  pathAtRest (select false (ejectConfirmed t (changePath (settledOn t) s)))

/-! ## Holds (R14) -/

/-- A 10 s unusable hold starts on a source (R14). -/
def startHold (t : Source) (s : State) : State :=
  match t with
  | .adapter => s.setAdapter { s.adapter with hold := some 10000 }
  | .packA => deriveUsable .A (s.setPack .A { s.pack .A with hold := some 10000 })
  | .packB => deriveUsable .B (s.setPack .B { s.pack .B with hold := some 10000 })

/-- The confirmation window ends without confirmation (R14): the selection is run at once, and a change of usable
is then an evaluation of the battery band (R164), in that order (log entry 4). -/
def switchFails (t : Source) (s : State) : State :=
  let s1 := startHold t (occur .pathSwitchFail (det [t.num]) s)
  let s2 := runSelection false s1
  let changed := (s.pack .A).usable ≠ (s1.pack .A).usable ∨ (s.pack .B).usable ≠ (s1.pack .B).usable
  pathAtRest (if changed then evaluateBand s2 else s2)

/-- The adapter becomes eligible (R15): a switch-over to a pack is given up for it while the POWER job
is RUN; otherwise a selection point. -/
def adapterArrives (s : State) : State :=
  match s.pth.path with
  | .switching t =>
    if s.adapterEligible ∧ t ≠ .adapter ∧ s.running .power then startSwitch .adapter s else s
  | _ => select false s

/-! ## The adapter (R2 to R4) -/

/-- The rating ADP_ID names (R4). -/
def decodeRating (mv : Nat) : Nat × RatingSource :=
  if 200 ≤ mv ∧ mv ≤ 600 then (45000, .id)
  else if 700 ≤ mv ∧ mv ≤ 1100 then (65000, .id)
  else if 1200 ≤ mv ∧ mv ≤ 1600 then (90000, .id)
  else if 1700 ≤ mv ∧ mv ≤ 2100 then (130000, .id)
  else (45000, .default)

/-- The adapter's input becomes present (R2, R4): the rating is read, and an input within range starts
its 20 ms count. -/
def Adapter.arrive (a : Adapter) (mv idMv : Nat) : Adapter :=
  { a with
    present := true, senseMv := mv, idMv := idMv, rating := (decodeRating idMv).1,
    ratingSource := (decodeRating idMv).2, count := if mv ≤ 21000 then some 0 else none }

/-- A qualified adapter loses its qualification (R2, R3, R15, R18). -/
def loseAdapter (c : AdapterLoss) (s : State) : State :=
  if s.adapter.qualified then
    loseSource .adapter
      (adapterLost
        (raise .adapterRemoved (det [c.num]) (s.setAdapter { s.adapter with qualified := false })))
  else s

end Sys2Proof.Machine
end

