-- ==== Sys2Proof/Machine/HingeOps.lean ====
section
/-! DEFINITION. The operations of the Hinge Sensor Interface and the Posture Monitor: captures, posture
and its delivery, the monitor, validity, samples and trackers, and the HINGE job (05, 06). -/

namespace Sys2Proof.Machine

/-! ## Captures (R100) -/

/-- A capture arrives at the Capture Queue (R100). -/
def takeCapture (src : CaptureSource) (s : State) : State :=
  if !s.running .hinge then s
  else if s.hsi.captures.length < 2 then
    setLevel .captureWaiting true
      (s.setHsi
        { s.hsi with
          captures := s.hsi.captures
            ++ [{ angle := s.hsi.reported, source := src, validity := s.hsi.validity, time := s.time }] })
  else raise .captureLost (det [src.num]) (s.setHsi { s.hsi with lost := true })

/-! ## The band and the candidate (R109, R110) -/

/-- The angle band from the band before and the reported angle (R109). -/
def nextBand (t : PostureSettings) (before : Option Band) (angle : Nat) : Band :=
  match before with
  | some .stand => if t.tabletEnter ≤ angle then .tablet else if angle < t.standLeave then .laptop else .stand
  | some .tablet => if t.tabletLeave ≤ angle then .tablet else if t.standLeave ≤ angle then .stand else .laptop
  | _ => if t.tabletEnter ≤ angle then .tablet else if t.standEnter ≤ angle then .stand else .laptop

/-- Derive the band: from the band before, or afresh; none unless the HINGE job is RUN and the validity
REFERENCED, and none before the first evaluation (R109, R117). -/
def deriveBand (fresh : Bool) (s : State) : State :=
  if s.running .hinge && s.psm.validity = .referenced && s.psm.evaluated then
    s.setPsm
      { s.psm with
        band := some (nextBand s.psm.settings (if fresh then none else s.psm.band) s.psm.angle) }
  else s.setPsm { s.psm with band := none }

/-- The posture of a band. -/
def Band.posture : Band → Posture
  | .laptop => .laptop
  | .stand => .stand
  | .tablet => .tablet

/-- The candidate the switches and the angle give (R110). -/
def State.candidateNow (s : State) : Posture :=
  if s.psm.conflict then .unknown
  else if s.psm.lid.debounced then .closed
  else if s.psm.tablet.debounced then .tablet
  else
    match s.running .hinge, s.psm.band with
    | true, some b => b.posture
    | _, _ => .unknown

/-! ## The current posture (R111 to R113) -/

/-- The posture events (R113), POSTURE_CHANGED first (log entry 4). -/
def raisePosture (new old : Posture) (s : State) : State :=
  let s1 := raise .postureChanged (det [new.num, old.num]) s
  let s2 := if old = .closed then raise .lidOpened (det [new.num]) s1 else s1
  if new = .closed then raise .lidClosed [] s2 else s2

/-- The current posture changes and is delivered (R113). -/
def changePosture (new : Posture) (s : State) : State :=
  let old := s.psm.current
  let s1 := s.setPsm { s.psm with current := new, dwell := none, lastChange := some (s.time, old) }
  let s2 := deriveFans (deriveScanMode (raisePosture new old s1))
  takeCapture .posture (if old = .closed then wake .lidOpen s2 else s2)

/-- A new candidate acts on the dwell timer and the current posture (R112). -/
def actOnCandidate (lidAssertion : Bool) (s : State) : State :=
  if s.psm.candidate = s.psm.current then s.setPsm { s.psm with dwell := none }
  else if s.psm.candidate = .closed && lidAssertion then changePosture .closed s
  else s.setPsm { s.psm with dwell := some 0 }

/-- PSM evaluates the candidate (R111); not before the first evaluation (R117). -/
def evaluatePosture (lidAssertion : Bool) (s : State) : State :=
  if !s.psm.evaluated || s.candidateNow = s.psm.candidate then s
  else actOnCandidate lidAssertion (s.setPsm { s.psm with candidate := s.candidateNow })

/-! ## What HSI tells PSM (R93, R109) -/

/-- PSM receives the reported angle and the validity; a validity that becomes REFERENCED derives the band
afresh (R109). -/
def receiveHinge (s : State) : State :=
  if s.psm.angle = s.hsi.reported ∧ s.psm.validity = s.hsi.validity then s
  else
    deriveBand (s.psm.validity ≠ .referenced)
      (s.setPsm { s.psm with angle := s.hsi.reported, validity := s.hsi.validity })

/-- HSI reports each change of the reported angle and of the validity, and PSM acts on it (R93, R111). -/
def reportHinge (s : State) : State := evaluatePosture false (receiveHinge s)

/-! ## The monitor and the validity (R94, R96) -/

/-- The flag of a source from its enables and condition (R94). -/
def Monitor.nextFlag (m : Monitor) : Bool := m.monitor && (m.cond || (m.latch && m.flag))

/-- The four error sources (05 section 5.5). -/
def HingeSource.isError : HingeSource → Bool
  | .vectorLow => true
  | .clip => true
  | .spin => true
  | .calInvalid => true
  | _ => false

/-- The detail of HINGE_ERROR (R94): the source, and for the two warnings the channel whose correction is marked, the
sine channel where both are (log entry 53). -/
def State.limitDetail (s : State) (x : HingeSource) : Detail :=
  match x with
  | .gainLimit => det [x.num, if s.hsi.sin.gainMark then 0 else 1]
  | .offsetLimit => det [x.num, if s.hsi.sin.offsetMark then 0 else 1]
  | _ => det [x.num]

/-- HSI evaluates a source with a condition (R94): a flag that becomes set raises HINGE_ERROR, and one
that is clear has its persistence timer at 0 (R95). -/
def evaluateSource (x : HingeSource) (cond : Bool) (s : State) : State :=
  let m := { s.monitor x with cond := cond }
  let s1 := s.setMonitor x { m with flag := m.nextFlag }
  if m.nextFlag then
    if m.flag then s1 else raise .hingeError (s.limitDetail x) s1
  else s1.setPersistence x 0

/-- Whether an error flag is set. -/
def Monitors.anyError (m : Monitors) : Bool :=
  m.vectorLow.flag || m.clip.flag || m.spin.flag || m.calInvalid.flag

/-- The validity follows the error flags (R96). -/
def nextValidity (v : Validity) (anyError : Bool) : Validity :=
  if anyError then .failed else if v = .failed then .unreferenced else v

/-- HSI derives the validity and reports a change (R96). -/
def deriveValidity (s : State) : State :=
  reportHinge (s.setHsi { s.hsi with validity := nextValidity s.hsi.validity s.hsi.monitors.anyError })

/-- The conditions of the two warnings (R92). -/
def Hsi.gainMarked (h : Hsi) : Bool := h.sin.gainMark || h.cos.gainMark
def Hsi.offsetMarked (h : Hsi) : Bool := h.sin.offsetMark || h.cos.offsetMark

/-- Evaluate every source with the three sampled conditions given and the others as they stand (R94), in the order
of the table of the sources (log entry 4). -/
def evaluateAll (vl cl sp : Bool) (s : State) : State :=
  let s1 := evaluateSource .spin sp (evaluateSource .clip cl (evaluateSource .vectorLow vl s))
  let s2 := evaluateSource .calInvalid s1.hsi.monitors.calInvalid.cond s1
  deriveValidity
    (evaluateSource .offsetLimit s2.hsi.offsetMarked (evaluateSource .gainLimit s2.hsi.gainMarked s2))

/-- Evaluate every source again with its condition as last evaluated (R104). -/
def reevaluateAll (s : State) : State :=
  evaluateAll s.hsi.monitors.vectorLow.cond s.hsi.monitors.clip.cond s.hsi.monitors.spin.cond s

/-! ## Trackers (R91, R92) -/

/-- The shortest signed difference of two angles, from -2048 to 2047 (R90). -/
def angleDiff (a b : Nat) : Int :=
  let d : Int := (Int.ofNat a - Int.ofNat b) % 4096
  if d ≥ 2048 then d - 4096 else d

/-- The four peaks (R91). -/
def peaks : List Peak := [⟨.sine, true⟩, ⟨.sine, false⟩, ⟨.cosine, true⟩, ⟨.cosine, false⟩]

/-- The angle of a peak (R91). -/
def Peak.angle (p : Peak) : Nat :=
  match p.chan, p.positive with
  | .sine, true => 1024
  | .sine, false => 3072
  | .cosine, true => 0
  | .cosine, false => 2048

/-- Whether a raw angle lies in the window of a peak (R91). -/
def Peak.window (p : Peak) (raw : Nat) : Bool := -256 ≤ angleDiff raw p.angle ∧ angleDiff raw p.angle ≤ 256

/-- The peak whose window holds a raw angle. -/
def peakAt (raw : Nat) : Option Peak := peaks.find? (·.window raw)

/-- The offset limit (05 section 5.1). -/
def offsetLimit (nominal : Nat) : Nat := nominal * 12 / 100

/-- Divide rounding towards zero (R91). -/
def towardZero (a b : Int) : Int := a.tdiv b

/-- The gain a tracker update computes, in thousandths; with equal peaks the manual states none (R91, log
entry 9). -/
def computedGain (nominal : Nat) (pos neg : Int) : Int :=
  if pos = neg then Config.gainOfEqualPeaks nominal
  else towardZero (2 * Int.ofNat nominal * 1000) (pos - neg)

/-- A tracker after an update (R91, R92). -/
def Tracker.update (t : Tracker) (nominal : Nat) : Tracker :=
  let off := towardZero (t.posPeak + t.negPeak) 2
  let lim : Int := Int.ofNat (offsetLimit nominal)
  let g := computedGain nominal t.posPeak t.negPeak
  { t with
    offset := max (-lim) (min lim off), offsetMark := off < -lim || lim < off,
    gain := (max 600 (min 1400 g)).toNat, gainMark := g < 600 || 1400 < g }

/-- A tracker with a learned peak value. -/
def Tracker.learn (t : Tracker) (positive : Bool) (v : Int) : Tracker :=
  if positive then { t with posPeak := v } else { t with negPeak := v }

/-- The hinge has passed a peak (R91). -/
def passPeak (c : Collection) (h : Hsi) : Hsi :=
  match c.peak.chan with
  | .sine => { h with sin := (h.sin.learn c.peak.positive c.extreme).update h.nominal, collection := none }
  | .cosine => { h with cos := (h.cos.learn c.peak.positive c.extreme).update h.nominal, collection := none }

/-- The uncorrected reading of the channel of a peak. -/
def Peak.reading (p : Peak) (sin cos : Int) : Int :=
  match p.chan with
  | .sine => sin
  | .cosine => cos

/-- The extreme after one more reading (R91). -/
def Collection.add (c : Collection) (v : Int) : Collection :=
  { c with extreme := if c.peak.positive then max c.extreme v else min c.extreme v }

/-- A window is entered from the raw angle before (R91). -/
def enterWindow (before raw : Nat) (sin cos : Int) (h : Hsi) : Hsi :=
  match peakAt raw with
  | none => h
  | some p =>
    if p.window before then h
    else
      { h with
        collection := some { peak := p, fromLow := angleDiff before p.angle < 0, extreme := p.reading sin cos } }

/-- An accepted sample moves the collection of a peak (R91). A window is entered and left by the side on the
shorter way round from its peak, half a turn being the lower side (log entry 48). -/
def collect (before raw : Nat) (sin cos : Int) (h : Hsi) : Hsi :=
  match h.collection with
  | none => enterWindow before raw sin cos h
  | some c =>
    if c.peak.window raw then { h with collection := some (c.add (c.peak.reading sin cos)) }
    else if decide (angleDiff raw c.peak.angle < 0) = c.fromLow then
      enterWindow before raw sin cos { h with collection := none }
    else enterWindow before raw sin cos (passPeak c h)

/-! ## Samples (R89, R90, R93) -/

/-- The corrected value of a reading, in thousandths of a count (R89). -/
def Tracker.correct (t : Tracker) (v : Int) : Int := (v - t.offset) * Int.ofNat t.gain

/-- A reading at converter full scale (R89). -/
def fullScale (v : Int) : Bool := v = -2048 || v = 2047

/-- The square of the vector magnitude, in millionths (R89). -/
def Hsi.square (h : Hsi) (sin cos : Int) : Nat :=
  (h.sin.correct sin * h.sin.correct sin + h.cos.correct cos * h.cos.correct cos).toNat

/-- The magnitude is below 30 % of the nominal amplitude, rounded down (R89). -/
def Hsi.low (h : Hsi) (sin cos : Int) : Bool :=
  h.square sin cos < (h.nominal * 30 / 100 * 1000) * (h.nominal * 30 / 100 * 1000)

/-- The speed formed at a sample, where one is formed (R90). -/
def speedOf (history : List (Option Nat)) (raw : Nat) : Option Nat :=
  match history[7]? with
  | some (some old) => some ((angleDiff raw old).natAbs * 125)
  | _ => none

/-- The shorter way round between two angles (R93). -/
def angleGap (a b : Nat) : Nat := (angleDiff a b).natAbs

/-- The reported angle at an accepted sample (R93). -/
def Hsi.report (h : Hsi) (raw : Nat) : Hsi :=
  let new := (raw + 4096 - h.closedRef) % 4096
  if h.awaitFirst || h.hysteresis < angleGap new h.reported then { h with reported := new, awaitFirst := false }
  else h

/-- A rejected sample pair (R89). -/
def Hsi.reject (h : Hsi) (sin cos : Int) : Hsi :=
  { h with
    magnitude := sqrtBits (h.square sin cos / 1000000) 13 0, rejected := true,
    history := (none :: h.history).take 8 }

/-- An accepted sample pair: raw angle, speed, trackers and reported angle (R90, R91, R93). -/
def Hsi.accept (h : Hsi) (sin cos : Int) : Hsi :=
  let raw := direction (h.cos.correct cos) (h.sin.correct sin)
  let h1 :=
    { h with
      magnitude := sqrtBits (h.square sin cos / 1000000) 13 0, rejected := false, raw := raw,
      speed := (speedOf h.history raw).getD h.speed, history := (some raw :: h.history).take 8 }
  (if h.awaitFirst then h1 else collect h.raw raw sin cos h1).report raw

/-- The SPIN condition at an accepted sample (05 section 5.5). -/
def Hsi.spinning (h : Hsi) (sin cos : Int) : Bool :=
  match speedOf h.history (direction (h.cos.correct cos) (h.sin.correct sin)) with
  | some v => 8192 < v
  | none => false

/-- A sample pair is taken while the HINGE job is RUN (R89). -/
def takeSample (sin cos : Int) (s : State) : State :=
  let clip := fullScale sin || fullScale cos
  let low := s.hsi.low sin cos
  if clip || low then evaluateAll low clip false (s.setHsi (s.hsi.reject sin cos))
  else evaluateAll false false (s.hsi.spinning sin cos) (s.setHsi (s.hsi.accept sin cos))

/-! ## The closed reference (R97) -/

/-- A debounced assertion of LID_HALL_N stores the closed reference (R97). -/
def storeReference (s : State) : State :=
  if s.running .hinge ∧ s.hsi.validity ≠ .failed then
    receiveHinge (s.setHsi { s.hsi with closedRef := s.hsi.raw, reported := 0, validity := .referenced })
  else s

/-! ## The calibration (R98) -/

/-- A tracker as a load of the calibration sets it (R91, R98). -/
def Tracker.load (nominal gain : Nat) (offset : Int) : Tracker :=
  { posPeak := offset + Int.ofNat (nominal * 1000 / gain), negPeak := offset - Int.ofNat (nominal * 1000 / gain),
    gain := gain, offset := offset, gainMark := false, offsetMark := false }

/-- A monitor source as a load sets it: its flag clear (R98), and its condition false until it is evaluated (log
entry 49). -/
def Monitor.load (e : Enables) : Monitor := { cond := false, flag := false, monitor := e.monitor, latch := e.latch }

/-- The working values a load of the calibration sets from the stored copy (R98). -/
def Hsi.load (h : Hsi) : Hsi :=
  let c := h.stored
  { h with
    nominal := c.nominal, closedRef := c.closedRef, hysteresis := c.hysteresis,
    sin := .load c.nominal c.gainSin c.offsetSin, cos := .load c.nominal c.gainCos c.offsetCos,
    collection := none, awaitFirst := true, history := [],
    monitors :=
      { vectorLow := .load c.vectorLow, clip := .load c.clip, spin := .load c.spin,
        calInvalid := .load { monitor := true, latch := true }, gainLimit := .load c.gainLimit,
        offsetLimit := .load c.offsetLimit }
    persistence := ⟨0, 0, 0, 0⟩, validity := .referenced }

/-- A load of the calibration (R98): from a stand-in copy CAL_INVALID sets at once and the validity
starts FAILED. -/
def loadCalibration (s : State) : State :=
  let s1 := s.setHsi s.hsi.load
  if s.hsi.standIn then
    let s2 := evaluateSource .calInvalid true s1
    s2.setHsi { s2.hsi with validity := .failed }
  else s1

/-- The record SAVE CALIBRATION forms from the working values (R99). -/
def Hsi.record (h : Hsi) : Calibration :=
  let e := fun (m : Monitor) => ({ monitor := m.monitor, latch := m.latch } : Enables)
  { nominal := h.nominal, gainSin := h.sin.gain, gainCos := h.cos.gain, offsetSin := h.sin.offset,
    offsetCos := h.cos.offset, closedRef := h.closedRef, hysteresis := h.hysteresis,
    vectorLow := e h.monitors.vectorLow, clip := e h.monitors.clip, spin := e h.monitors.spin,
    gainLimit := e h.monitors.gainLimit, offsetLimit := e h.monitors.offsetLimit }

/-! ## The HINGE job (R102, R114) -/

/-- HSI at a quiesce (R102). -/
def Hsi.quiesce (h : Hsi) : Hsi :=
  { h with collection := none, history := [], persistence := ⟨0, 0, 0, 0⟩ }

/-- HSI and PSM are told to quiesce (R102, R114). -/
def quiesceHinge (s : State) : State :=
  let s1 := memberDone .hinge .hsi (s.setHsi s.hsi.quiesce)
  memberDone .hinge .psm (evaluatePosture false (deriveBand true s1))

/-- HSI and PSM are told of their job's return to RUN (R102, R114). -/
def returnHinge (fromOff : Bool) (s : State) : State :=
  let s1 :=
    if fromOff then
      loadCalibration (setLevel .captureWaiting false (s.setHsi { s.hsi with captures := [], lost := false }))
    else s
  evaluatePosture false
    (deriveBand true (s1.setPsm { s1.psm with angle := s1.hsi.reported, validity := s1.hsi.validity }))

/-! ## The switches (R107, R108) -/

/-- A hinge switch line. -/
def Psm.line (p : Psm) : HingeSwitch → SwitchLine
  | .lid => p.lid
  | .tablet => p.tablet

/-- Replace a hinge switch line. -/
def Psm.setLine (p : Psm) (x : HingeSwitch) (l : SwitchLine) : Psm :=
  match x with
  | .lid => { p with lid := l }
  | .tablet => { p with tablet := l }

/-- The conflict record follows the debounced levels; its start raises HINGE_ERROR with SWITCH_CONFLICT,
the number after the six sources (R108, R117). -/
def deriveConflict (s : State) : State :=
  let c := s.psm.lid.debounced && s.psm.tablet.debounced
  let s1 := s.setPsm { s.psm with conflict := c }
  if c && !s.psm.conflict && s.psm.evaluated then raise .hingeError (det [6]) s1 else s1

/-- A debounced edge is handed to HSI (R97, R100). -/
def edgeToHinge (x : HingeSwitch) (asserted : Bool) (s : State) : State :=
  match x with
  | .lid => takeCapture .lidSwitch (if asserted then storeReference s else s)
  | .tablet => takeCapture .tabletSwitch s

/-- A line has kept its new level for 20 ms (R107). A conflict is reported before HSI acts on the edge (log
entry 4). -/
def debouncedEdge (x : HingeSwitch) (s : State) : State :=
  let l := s.psm.line x
  let s1 := s.setPsm (s.psm.setLine x { l with debounced := l.level, count := none })
  evaluatePosture (x = .lid && l.level) (edgeToHinge x l.level (deriveConflict s1))

end Sys2Proof.Machine
end

