-- ==== Sys2Proof/Machine/JobOps.lean ====
section
/-! DEFINITION. The operations that reach across blocks: readings of the temperature inputs (08), the
members of a job told to quiesce or to run (10), and the outcomes of pack-link transactions (04). -/

namespace Sys2Proof.Machine

/-! ## Readings (R137, R145 to R147) -/

/-- A change of the derate level is handed to CHC (R147). -/
def handDerate (before : Derate) (s : State) : State := if s.thc.derate = before then s else regrant s

/-- The trip check at a reading of TS0, TS1 or DIE (R146). -/
def tripCheck (i : ThermalInput) (s : State) : State :=
  let r := s.input i
  if i = .hostrep then s
  else if s.thc.trip ≤ r.value then
    if 2 ≤ r.tripRun + 1 then
      forcedOff .thermalTrip
        (occur .thermalTrip [some (Int.ofNat i.num), some r.value] (s.setInput i { r with tripRun := 0 }))
    else s.setInput i { r with tripRun := r.tripRun + 1 }
  else s.setInput i { r with tripRun := 0 }

/-- The derate level at a reading of TS1, by its validity before (R147). -/
def derateAtReading (wasValid : Bool) (s : State) : State :=
  setDerate
    (if !s.running .thermal then .zero
     else derateFrom (if wasValid then s.thc.derate else .none) s.thc.inputs.ts1.value)
    s

/-- A reading of an input (R137): value, time and validity, then fans, warning, trip and derate. -/
def takeReading (i : ThermalInput) (v : Int) (s : State) : State :=
  let r := s.input i
  let s1 := deriveFans (s.setInput i { r with value := v, valid := true, time := some s.time })
  let s2 := tripCheck i (warnCheck i s1)
  if i = .ts1 then handDerate s2.thc.derate (derateAtReading r.valid s2) else s2

/-- An input becomes invalid, and a change of the derate level is handed on (R137, R147). -/
def dropInput (i : ThermalInput) (s : State) : State := handDerate s.thc.derate (loseInput i s)

/-! ## The LINK job (R83, R85) -/

/-- A setpoint write in progress is reported to CHC as cut short (R83). -/
def cutWrite (s : State) : State :=
  match s.plc.write with
  | some _ => writeCutShort (s.setPlc { s.plc with write := none, chargerSlot := none })
  | none => s

/-- The pollers' work is ended (R83): an identity read is held again, the rest is discarded. -/
def Plc.endPolls (k : Plc) : Plc :=
  { k with
    asked := (match k.work with
      | some (.identity p) => p :: k.asked
      | _ => k.asked),
    work := none, packSlot := none, reading := none, sensorSlot := none }

/-- A pass-through outstanding is saved in the catch record (R83). -/
def Plc.savePass (k : Plc) : Plc :=
  match k.pass with
  | some p => { k with pass := none, passSlot := none, caught := some { p with reps := 0 } }
  | none => { k with passSlot := none }

/-- With the link IDLE, PLC ends its clients' work and reports its quiesce complete (R83). -/
def finishLink (s : State) : State :=
  let s1 := cutWrite s
  memberDone .link .plc (s1.setPlc s1.plc.endPolls.savePass)

/-- PLC is told to quiesce: the transaction on the wire is let end first (R83). -/
def quiesceLink (s : State) : State := if s.plc.link = .idle then finishLink s else s

/-- A saved transfer is outstanding again, its saved segment placed (R85). -/
def resumePass (s : State) : State :=
  match s.plc.caught with
  | some p => placeSegment p (s.setPlc { s.plc with caught := none })
  | none => s

/-- A polled pack's snapshot falls due at once. -/
def pollAtOnce (p : PackId) (s : State) : State :=
  if s.polled p then s.setPoll p ((s.poll p).atOnce s.time) else s

/-- Both sensors and every polled pack have a read due at once (R85, R88). -/
def allDue (s : State) : State :=
  let s1 := pollAtOnce .B (pollAtOnce .A s)
  s1.setPlc { s1.plc with pollTs0 := s1.plc.pollTs0.atOnce s1.time, pollTs1 := s1.plc.pollTs1.atOnce s1.time }

/-- PLC at its initial state, with the result record and the identity reads kept (R85). -/
def Plc.restart (k : Plc) : Plc :=
  { k with
    chargerSlot := none, passSlot := none, packSlot := none, sensorSlot := none, write := none, work := none,
    reading := none, pass := none, caught := none, runTs0 := 0, runTs1 := 0, alternation := .sensorPoll,
    devices := k.devices.map LinkDevice.clean }

/-- PLC is told of its job's return to RUN (R85): CHC is told that charger writes are taken, and the
arbiter acts. -/
def returnLink (fromOff : Bool) (s : State) : State :=
  settleAgain s (if fromOff then allDue (s.setPlc s.plc.restart) else resumePass s)

/-! ## Jobs (R172, R175) -/

/-- The members of a job are told to quiesce (R172). THC reports its quiesce complete before the derate ZERO is
handed to CHC (log entry 4). -/
def tellQuiesce (j : Job) (s : State) : State :=
  match j with
  | .power => pathAtRest (quiesceBudget (quiesceCharge s))
  | .link => quiesceLink s
  | .hinge => quiesceHinge s
  | .keys => quiesceKeys s
  | .thermal => handDerate s.thc.derate (quiesceThermal s)

/-- The members of a job are told of its return to RUN, and JOB_STATE is raised (R175). At the return of POWER, CHC
acts before the selection of PTH; what CHC, no member of either, does at the return of LINK and of THERMAL comes
before JOB_STATE (log entry 4). -/
def tellRun (j : Job) (fromOff : Bool) (s : State) : State :=
  raiseJobState j .run restartCause
    (match j with
      | .power => select false (returnCharge fromOff s)
      | .link => returnLink fromOff s
      | .hinge => returnHinge fromOff s
      | .keys => returnKeys fromOff s
      | .thermal => handDerate s.thc.derate (returnThermal fromOff s))

/-- Occurrences of one fault, in the order of their details (R170, R171). -/
def occurEach (c : FaultCode) : List Detail → State → State
  | [], s => s
  | d :: ds, s => occurEach c ds (occur c d s)

/-- Occurrences of one fault that fall together: each is counted, and the members of the job are told to
quiesce once when they take it out of RUN (R170 to R172). -/
def raiseEach (c : FaultCode) (ds : List Detail) (s : State) : State :=
  let s1 := occurEach c ds s
  if s.running c.job && !s1.running c.job then tellQuiesce c.job s1 else s1

/-- A fault occurrence, with its members told to quiesce when it takes its job out of RUN (R170 to R172). -/
def raiseFault (c : FaultCode) (d : Detail) (s : State) : State := raiseEach c [d] s

/-! ## Outcomes of transactions (R70, R74 to R79) -/

/-- A charger write fails (R41). -/
def chargerFails (s : State) : State :=
  let s1 := writeFailed s
  if s.running .power && !s1.running .power then tellQuiesce .power s1 else chargeAtRest s1

/-- A transaction of the setpoint write has ended (R74, R75). It follows the abort policy it was started with,
and its repetitions are compared with the entry's retry limit as it stands (R69). While the LINK job quiesces,
only a last transaction that ended DONE is reported (R83). -/
def chargerEnd (w : WriteWork) (q : LinkPolicy) (o : TxOutcome) (s : State) : State :=
  match o with
  | .done _ =>
    if 2 ≤ w.stage then writeComplete (s.setPlc { s.plc with write := none })
    else if s.running .link then placeStage { w with stage := w.stage + 1, reps := 0 } s
    else s
  | _ =>
    if !s.running .link then s
    else if q.abort = .retry ∧ w.reps < (s.device 2).policy.retryLimit then placeStage { w with reps := w.reps + 1 } s
    else chargerFails (s.setPlc { s.plc with write := none })

/-- The identity in the eight bytes read (12 section 12.6). -/
def parseIdentity (b : List Byte) : Identity :=
  let mask := BitVec.ofNat 16 (ofLeBytes ((b.drop 6).take 2))
  { serial := ofLeBytes (b.take 2), chemistry := ofLeBytes ((b.drop 2).take 1),
    cells := ofLeBytes ((b.drop 3).take 1), capacity := ofLeBytes ((b.drop 4).take 2),
    reqVoltage := mask.getLsbD 0, reqCurrent := mask.getLsbD 1, cycles := mask.getLsbD 2 }

/-- A snapshot with one more item (R76). -/
def Snapshot.put (x : Snapshot) (i : SnapItem) (b : List Byte) : Snapshot :=
  let v := ofLeBytes b
  let w := BitVec.ofNat 16 v
  match i with
  | .voltage => { x with voltage := v }
  | .current => { x with current := w.toInt }
  | .temperature => { x with temp := Int.ofNat v - 2731 }
  | .remaining => { x with remaining := v }
  | .full => { x with full := v }
  | .status =>
    { x with
      overTemp := w.getLsbD 0, overCharge := w.getLsbD 1, terminate := w.getLsbD 2,
      fullyCharged := w.getLsbD 3, fullyDischarged := w.getLsbD 4 }
  | .reqVoltage => { x with reqVoltage := some v }
  | .reqCurrent => { x with reqCurrent := some v }
  | .cycles => { x with cycles := some v }

/-- The pack poller's transaction has ended (R76, R77). -/
def pollEnd (w : PollWork) (o : TxOutcome) (s : State) : State :=
  let s1 := s.setPlc { s.plc with work := none }
  match w, o with
  | .identity p, .done b => identityRead p (parseIdentity b) s1
  | .identity p, _ => identityFailed p s1
  | .snapshot p (i :: rest) got, .done b =>
    match rest with
    | [] => publish p { got.put i b with time := s.time } s1
    | _ => placeItem p rest (got.put i b) s1
  | .snapshot p _ _, _ => snapshotFailed p s1

/-- A sensor reading in tenths of a degree (R79). -/
def sensorTenths (b : List Byte) : Int := (BitVec.ofNat 16 (ofLeBytes b)).toInt * 10 / 16

/-- A sensor's read has failed (R79). -/
def sensorFails (x : Sensor) (s : State) : State :=
  let n := s.sensorRun x
  let s1 := s.setSensorRun x (min 3 (n + 1))
  if n = 2 then dropInput x.input (raiseFault .sensorSilent (det [x.input.num]) s1) else s1

/-- The sensor poller's transaction has ended (R79). -/
def sensorEnd (x : Sensor) (o : TxOutcome) (s : State) : State :=
  let s1 := s.setPlc { s.plc with reading := none }
  match o with
  | .done b => takeReading x.input (sensorTenths b) (s1.setSensorRun x 0)
  | _ => sensorFails x s1

/-- An outcome other than NO_DEVICE and STUCK is handed to its client. While the LINK job quiesces, the
pollers' work is left for its end (R83). -/
def handOver (w : OnWire) (o : TxOutcome) (s : State) : State :=
  match w.client with
  | .charger =>
    match s.plc.write with
    | some x => chargerEnd x w.policy o s
    | none => s
  | .pass =>
    match s.plc.pass with
    | some p => segmentEnd p w.policy o s
    | none => s
  | .packPoll =>
    match s.running .link, s.plc.work with
    | true, some x => pollEnd x o s
    | _, _ => s
  | .sensorPoll =>
    match s.running .link, s.plc.reading with
    | true, some x => sensorEnd x o s
    | _, _ => s

/-- The link is IDLE after an outcome: a quiescing PLC ends its clients' work, and otherwise the arbiter
acts (R73, R83). -/
def afterOutcome (s : State) : State :=
  if (s.job .link).state = .quiescing then
    (if s.plc.link = .idle then finishLink s else s)
  else kick s

/-- The link returns to IDLE with nothing on the wire. -/
def Plc.released (k : Plc) : Plc :=
  { k with link := .idle, wire := none, discard := false, gone := false, holdTime := 0 }

/-- A transaction ends STUCK (R71, R83). -/
def endStuck (entry : Nat) (s : State) : State :=
  let s1 := occur .linkStuck (det [entry]) s
  afterOutcome s1

/-- A transaction ends with an outcome (R70): one cut off by a soft reset is dropped (R88), one to a removed
pack has been handed over at the removal (R72), and STUCK raises LINK_STUCK for it all the same (log entry 24). -/
def endTransaction (w : OnWire) (o : TxOutcome) (s : State) : State :=
  let s1 := s.setPlc s.plc.released
  if s.plc.discard then afterOutcome s1
  else if o = .stuck then endStuck w.item.entry s1
  else if s.plc.gone then afterOutcome s1
  else afterOutcome (handOver w o (stick w.item.entry o s1))

/-- The check byte of a read item: over the bytes sent and the data read (04 section 4.2). -/
def OnWire.readCheck (w : OnWire) (data : List Byte) : Byte := crc8 (w.sent ++ data)

/-- The bytes a read item of length n takes from the bytes the bus gave. -/
def readData (n : Nat) (data : List Byte) : List Byte := (data ++ List.replicate n 0xFF).take n

/-- The outcome of a transaction that was let run to its end (R70). -/
def OnWire.outcome (w : OnWire) (bus : BusEnd) : TxOutcome :=
  let data := readData w.item.len bus.data
  if !bus.ack then .noack
  else if w.item.write then .done []
  else if w.policy.check && w.readCheck data ≠ bus.check then .badCheck
  else .done data

/-- A client whose transactions a pass-through outstanding to their device holds back (R80). -/
def Client.polls (c : Client) : Bool := c = .packPoll || c = .sensorPoll

/-- The link recovery ends with both lines high (R71): a transaction that had not been started is started now,
with the entry's settings of the moment (R69) and no new choice of the arbiter (log entry 50), unless it has lost
its purpose. A poll transaction to the device of a transfer accepted meanwhile goes back to its slot (R80). -/
def recovered (started : Bool) (w : OnWire) (s : State) : State :=
  if started then endTransaction w .holdTimeout s
  else if s.plc.discard || s.plc.gone || !s.running .link then afterOutcome (s.setPlc s.plc.released)
  else if w.client.polls && s.deferred w.item.entry then
    afterOutcome (s.setPlc (s.plc.released.putBack w.client w.item))
  else s.setPlc { s.plc with link := .busy, wire := some (s.onWire w.client w.item), holdTime := 0 }

/-- The hold under way has lasted longer than the hold limit (R71). -/
def Plc.heldBeyond (k : Plc) (p : LinkPolicy) : Bool := p.holdLimit < k.holdTime

/-- The settings that govern a recovery: those of the transaction it follows, or of the entry as they stand
where none has been started (R69, R71). -/
def State.recoveryPolicy (s : State) (started : Bool) (w : OnWire) : LinkPolicy :=
  if started then w.policy else (s.device w.item.entry).policy

end Sys2Proof.Machine
end

