-- ==== Sys2Proof/Machine/PowerPath.lean ====
section
/-! DEFINITION. The commands of the Path Controller: its six requests and the events of the adapter, the
packs and the path (01). -/

namespace Sys2Proof.Machine

/-! ## Requests (R19 to R22) -/

/-- A number that is 0 when absent. -/
def orZero (n : Nat) (v : Option Nat) : List Byte := leBytes n (v.getD 0)

/-- The mask of optional items, with the bits of the IDENTITY item (12 section 12.6). -/
def Identity.mask (i : Identity) : Nat := i.reqVoltage.toNat + 2 * i.reqCurrent.toNat + 4 * i.cycles.toNat

/-- A flag of a snapshot that may be absent: 1 when set. -/
def optFlag (f : Option Bool) : List Byte := optU 1 (f.map Bool.toNat)

/-- An identity, or all its fields absent. -/
def identityBytes (i : Option Identity) : List Byte :=
  optU 4 (i.map (·.serial)) ++ optU 1 (i.map (·.chemistry)) ++ optU 1 (i.map (·.cells))
    ++ optU 4 (i.map (·.capacity)) ++ optU 1 (i.map Identity.mask)

/-- A snapshot, or all its fields absent. -/
def snapshotBytes (x : Option Snapshot) : List Byte :=
  optU 4 (x.map (·.voltage)) ++ optS 4 (x.map (·.current)) ++ optS 4 (x.map (·.temp))
    ++ optU 4 (x.map (·.remaining)) ++ optU 4 (x.map (·.full)) ++ optFlag (x.map (·.overTemp))
    ++ optFlag (x.map (·.overCharge)) ++ optFlag (x.map (·.terminate)) ++ optFlag (x.map (·.fullyCharged))
    ++ optFlag (x.map (·.fullyDischarged)) ++ optU 4 (x.bind (·.reqVoltage)) ++ optU 4 (x.bind (·.reqCurrent))
    ++ optU 4 (x.bind (·.cycles)) ++ optTime (x.map (·.time))

/-- The content of READ PACK (R21). -/
def packContent (p : PackId) (s : State) : List Byte :=
  let r := s.pack p
  u8 r.presence.num ++ u8 r.failRun ++ yesNo r.usable ++ orZero 2 r.hold
    ++ (match p with
      | .A => u16 0
      | .B => orZero 2 s.pth.ejectWindow)
    ++ identityBytes r.identity ++ snapshotBytes r.snapshot ++ optU 1 r.relCharge

/-- READ PACK (R21). -/
def answerReadPack (pack : Byte) (s : State) : Reply × State :=
  match readPackId pack with
  | none => refuse .badValue s
  | some p => answer .ok (packContent p s) s

def execReadPack (h : ReqHead) (pack : Byte) (s : State) : Host.Outcome State Fault Refusal :=
  .next (serve 1 h (answerReadPack pack) s)

/-- The content of READ PATH (R21); the last input voltage and the last input current take two bytes each, the model's
choice, as no range is stated for either (log entry 5). -/
def pathContent (s : State) : List Byte :=
  let a := s.adapter
  u8 s.pth.path.num
    ++ optU 1 (match s.pth.path with
      | .switching t => some t.num
      | _ => none)
    ++ flag8 s.pth.swAdp ++ flag8 s.pth.swPa ++ flag8 s.pth.swPb ++ flag8 s.pth.ejectOk
    ++ u8 s.pth.preference.num ++ yesNo a.present ++ yesNo a.qualified ++ yesNo a.overvolt ++ u32 a.rating
    ++ u8 a.ratingSource.num ++ orZero 4 a.hostLimit ++ u16 a.lastMv ++ u16 a.lastMa ++ optU 2 a.hold

/-- READ PATH (R21). -/
def answerReadPath (s : State) : Reply × State := answer .ok (pathContent s) s

def execReadPath (h : ReqHead) (s : State) : Host.Outcome State Fault Refusal :=
  .next (serve 2 h answerReadPath s)

/-- SET SOURCE PREFERENCE (R22). -/
def answerSetSourcePreference (pref : Byte) (s : State) : Reply × State :=
  match readEnum [Preference.auto, .preferA, .preferB] pref with
  | none => refuse .badValue s
  | some p => answer .ok [] (select false (s.setPth { s.pth with preference := p }))

def execSetSourcePreference (h : ReqHead) (pref : Byte) (s : State) : Host.Outcome State Fault Refusal :=
  .next (serve 3 h (answerSetSourcePreference pref) s)

/-- SET ADAPTER LIMIT (R22). -/
def answerSetAdapterLimit (limit : BitVec 32) (s : State) : Reply × State :=
  if limit = 0 then answer .ok [] (s.setAdapter { s.adapter with hostLimit := none })
  else if 10000 ≤ limit.toNat ∧ limit.toNat ≤ 130000 then
    answer .ok [] (s.setAdapter { s.adapter with hostLimit := some limit.toNat })
  else refuse .badValue s

def execSetAdapterLimit (h : ReqHead) (limit : BitVec 32) (s : State) : Host.Outcome State Fault Refusal :=
  .next (serve 4 h (answerSetAdapterLimit limit) s)

/-- PREPARE EJECT is accepted with pack B in use by the path: EJECT_PENDING, and selection runs (R19). -/
def ejectInUse (s : State) : State :=
  select false
    (settleCharge false s
      (endIfActive .B (s.setPth { s.pth with packB := { s.pth.packB with presence := .ejectPending } })))

/-- PREPARE EJECT (R19). -/
def answerPrepareEject (pack : Byte) (s : State) : Reply × State :=
  if readPackId pack ≠ some .B then refuse .badValue s
  else if !s.running .power then refuse .notNow s
  else
    match s.pth.packB.presence with
    | .absent => refuse .noDevice s
    | .present =>
      if s.uses .packB then
        if s.adapterEligible || s.eligible .A then answer .accepted [] (ejectInUse s) else refuse .notNow s
      else answer .accepted [] (select false (enterEjectReady s))
    | _ => refuse .notNow s

def execPrepareEject (h : ReqHead) (pack : Byte) (s : State) : Host.Outcome State Fault Refusal :=
  .next (serve 5 h (answerPrepareEject pack) s)

/-- CANCEL EJECT (R20). -/
def answerCancelEject (s : State) : Reply × State :=
  if s.pth.packB.presence = .ejectPending ∨ s.pth.packB.presence = .ejectReady then
    answer .ok [] (select false (refreshPack .B s (ejectToPresent s)))
  else refuse .notNow s

def execCancelEject (h : ReqHead) (s : State) : Host.Outcome State Fault Refusal :=
  .next (serve 6 h answerCancelEject s)

/-! ## The adapter (R2, R3) -/

/-- ADP_SENSE rises to 11,500 mV or above (R2, R4). -/
def execAdapterPresence (mv idMv : BitVec 16) (s : State) : Host.Outcome State Fault Refusal :=
  .next
    (if s.adapter.present = false ∧ 11500 ≤ mv.toNat then
      s.setAdapter (s.adapter.arrive mv.toNat idMv.toNat)
    else s)

/-- The adapter qualifies (R2): ADAPTER_ATTACHED, SWC, and selection. -/
def qualifyAdapter (s : State) : State :=
  let s1 := s.setAdapter { s.adapter with qualified := true, count := none }
  adapterArrives (adapterGained (raise .adapterAttached (det [s.adapter.rating]) s1))

/-- ADP_SENSE has stayed within range for 20 ms (R2). -/
def execAdapterQualified (s : State) : Host.Outcome State Fault Refusal :=
  .next
    (if s.adapter.present ∧ s.adapter.qualified = false ∧ s.adapter.overvolt = false ∧ s.adapter.count = some 20 then
      qualifyAdapter s
    else s)

/-- ADP_SENSE returns into the range (R2): the 20 ms count starts again, unless the adapter is marked
overvolt (R3). -/
def execAdapterRangeReturn (mv : BitVec 16) (s : State) : Host.Outcome State Fault Refusal :=
  .next
    (if s.adapter.present ∧ s.adapter.qualified = false ∧ s.adapter.count = none ∧ 11500 ≤ mv.toNat
        ∧ mv.toNat ≤ 21000 then
      s.setAdapter { s.adapter with senseMv := mv.toNat, count := if s.adapter.overvolt then none else some 0 }
    else s)

/-- ADP_SENSE rises above 21,000 mV (R2). -/
def execAdapterOutOfRange (mv : BitVec 16) (s : State) : Host.Outcome State Fault Refusal :=
  .next
    (if s.adapter.present ∧ 21000 < mv.toNat then
      loseAdapter .outOfRange (s.setAdapter { s.adapter with senseMv := mv.toNat, count := none })
    else s)

/-- ADP_SENSE falls below 11,500 mV (R2, R3, R14): a removal. -/
def execAdapterRemoval (mv : BitVec 16) (s : State) : Host.Outcome State Fault Refusal :=
  .next
    (if s.adapter.present ∧ mv.toNat < 11500 then
      loseAdapter .removed
        (s.setAdapter
          { s.adapter with
            present := false, overvolt := false, hold := none, count := none, senseMv := mv.toNat,
            rating := 45000, ratingSource := .default })
    else s)

/-- ADP_SENSE rises above 22,000 mV (R3): a second rise while the mark stands raises nothing. -/
def execAdapterOvervolt (mv : BitVec 16) (s : State) : Host.Outcome State Fault Refusal :=
  .next
    (if s.adapter.present ∧ 22000 < mv.toNat then
      if s.adapter.overvolt then s.setAdapter { s.adapter with senseMv := mv.toNat }
      else
        loseAdapter .overvolt
          (raiseFault .adapterOvervolt (det [mv.toNat])
            (s.setAdapter { s.adapter with overvolt := true, count := none, senseMv := mv.toNat }))
    else s)

/-- An unusable hold has run out on a source (R14). -/
def execUnusableHoldEnd (src : Source) (s : State) : Host.Outcome State Fault Refusal :=
  .next
    (match src with
      | .adapter =>
        if s.adapter.hold = some 0 then adapterArrives (s.setAdapter { s.adapter with hold := none }) else s
      | .packA =>
        if s.pth.packA.hold = some 0 then
          select false (refreshPack .A s (s.setPack .A { s.pth.packA with hold := none }))
        else s
      | .packB =>
        if s.pth.packB.hold = some 0 then
          select false (refreshPack .B s (s.setPack .B { s.pth.packB with hold := none }))
        else s)

/-! ## The packs (R7, R8, R10) -/

/-- A presence line is asserted (R7). -/
def execPresenceAsserted (pack : PackId) (s : State) : Host.Outcome State Fault Refusal :=
  .next
    (let r := s.pack pack
     if r.line then s
     else
       s.setPack pack { r with line := true, debounce := if r.presence = .absent then some 0 else r.debounce })

/-- A pack is inserted (R7, R8): PACK_INSERTED is raised before SWC takes PACK_B_INSERT (log entry 4). -/
def insertPack (p : PackId) (s : State) : State :=
  let s1 := raise .packInserted (det [p.num]) (enterDetected p s)
  kick (if p = .B then wake .packBInsert s1 else s1)

/-- A presence line has stayed asserted for 500 ms (R7). -/
def execInsertionDebounceEnd (pack : PackId) (s : State) : Host.Outcome State Fault Refusal :=
  .next (if (s.pack pack).debounce = some 500 then insertPack pack s else s)

/-- A presence line is deasserted (R10). -/
def execPresenceDeasserted (pack : PackId) (s : State) : Host.Outcome State Fault Refusal :=
  .next (if (s.pack pack).line then removePack pack s else s)

/-- 100 ms have passed since a failed identity attempt (R8). -/
def execIdentityRetryDelay (pack : PackId) (s : State) : Host.Outcome State Fault Refusal :=
  .next
    (let r := s.pack pack
     if r.presence = .detected ∧ r.retryWait = some 0 then
       kick (askIdentity pack (s.setPack pack { r with retryWait := none }))
     else s)

/-! ## The path (R13, R14, R20) -/

/-- The path-rail monitor sees a voltage on the path rail within the window: 90 % of the known voltage, rounded
down, confirms (R13). -/
def execPathRailConfirmed (railMv : BitVec 16) (s : State) : Host.Outcome State Fault Refusal :=
  .next
    (match s.pth.path with
      | .switching t => if s.pth.knownMv * 90 / 100 ≤ railMv.toNat then confirmPath t s else s
      | _ => s)

/-- The confirmation window ends unconfirmed (R14). -/
def execSwitchFailure (s : State) : Host.Outcome State Fault Refusal :=
  .next
    (match s.pth.path with
      | .switching t => switchFails t s
      | _ => s)

/-- The eject window expires in EJECT_READY (R20). -/
def execEjectWindowExpired (s : State) : Host.Outcome State Fault Refusal :=
  .next
    (if s.pth.packB.presence = .ejectReady ∧ s.pth.ejectWindow = some 0 then
      select false (refreshPack .B s (raiseEject 1 (ejectToPresent s)))
    else s)

end Sys2Proof.Machine
end

