-- ==== Sys2Proof/Machine/ChargeControl.lean ====
section
/-! DEFINITION. The commands of the Charge Controller: its seven requests, the completion of a profile
commit, and its timers (02). -/

namespace Sys2Proof.Machine

/-! ## READ CHARGE and SET CHARGE (R50, R51) -/

/-- The fields of a charge record that READ CHARGE returns (R50). -/
def chargeBytes (c : Charge) : List Byte :=
  u8 c.state.num ++ optU 1 c.state.reason ++ optU 1 c.entry ++ u32 c.preTime ++ u32 c.fastTime ++ u8 c.taperRun
    ++ yesNo c.doneSince ++ optU 1 c.relAtDone

/-- A setpoint, or its three fields as none. -/
def setpointBytes (p : Option Setpoint) : List Byte :=
  optU 2 (p.map (·.mv)) ++ optU 2 (p.map (·.ma)) ++ optU 1 (p.map fun x => if x.enable then 0 else 1)

/-- The content of READ CHARGE (R50). -/
def chargeContent (s : State) : List Byte :=
  let c := s.chc
  chargeBytes c.a ++ chargeBytes c.b ++ setpointBytes (some c.desired) ++ setpointBytes c.inForce
    ++ setpointBytes c.inFlight ++ setpointBytes c.next ++ flag8 c.chgEn ++ orZero 1 c.deadline
    ++ u8 c.order.num ++ u8 c.threshold ++ yesNo c.a.inhibit ++ yesNo c.b.inhibit
    ++ optU 1 (c.caught.map (·.pack.num)) ++ optU 1 (c.caught.map (·.state.num))

/-- READ CHARGE (R50). -/
def answerReadCharge (s : State) : Reply × State := answer .ok (chargeContent s) s

def execReadCharge (h : ReqHead) (s : State) : Host.Outcome State Fault Refusal :=
  .next (serve 7 h answerReadCharge s)

/-- Apply a value that may be unchanged. -/
def applyTo {α : Type} (f : α → State → State) (v : Option α) (s : State) : State :=
  match v with
  | some x => f x s
  | none => s

/-- SET CHARGE (R51); the inhibit of pack A acts first (log entry 4). -/
def answerSetCharge (inhibitA inhibitB order threshold : Byte) (s : State) : Reply × State :=
  match readKeep [true, false] inhibitA, readKeep [true, false] inhibitB,
    readKeep [ChargeOrder.auto, .firstA, .firstB] order, readRange 50 100 threshold with
  | some a, some b, some o, some t =>
    let s1 := s.setChc { s.chc with order := o.getD s.chc.order, threshold := t.getD s.chc.threshold }
    answer .ok [] (settleCharge false s (applyTo (setInhibit .B) b (applyTo (setInhibit .A) a s1)))
  | _, _, _, _ => refuse .badValue s

def execSetCharge (h : ReqHead) (inhibitA inhibitB order threshold : Byte) (s : State) :
    Host.Outcome State Fault Refusal :=
  .next (serve 8 h (answerSetCharge inhibitA inhibitB order threshold) s)

/-! ## The staged commit (R45 to R48) -/

/-- The store status is BUSY (R194). -/
def State.storeBusy (s : State) : Bool := s.sts.busy.isSome

/-- OPEN PROFILE ROW (R45). -/
def answerOpenProfileRow (row : Byte) (s : State) : Reply × State :=
  if 1 < row.toNat then refuse .badValue s
  else if s.storeBusy then refuse .busy s
  else if s.chc.openRow.isSome then refuse .notNow s
  else answer .ok [] (s.setChc { s.chc with openRow := some row.toNat, latches := List.replicate 8 none })

def execOpenProfileRow (h : ReqHead) (row : Byte) (s : State) : Host.Outcome State Fault Refusal :=
  .next (serve 9 h (answerOpenProfileRow row) s)

/-- The entry a stage carries, unless a field or a constraint is broken (02 section 2.12, R46). -/
def readEntry (e : RawEntry) : Option ProfileEntry :=
  match readYesNo e.valid with
  | none => none
  | some false => some .invalid
  | some true =>
    match readYesNo e.useRequest with
    | none => none
    | some use =>
      if e.chemistry.toNat ≤ 15 ∧ -300 ≤ e.bandLow.toInt ∧ e.bandHigh.toInt ≤ 800 ∧ e.bandLow.toInt < e.bandHigh.toInt
          ∧ 3600 ≤ e.cellMv.toNat ∧ e.cellMv.toNat ≤ 4400 ∧ 128 ≤ e.maxMa.toNat ∧ e.maxMa.toNat ≤ 6000
          ∧ 2000 ≤ e.preCellMv.toNat ∧ e.preCellMv.toNat ≤ 3600 ∧ e.preCellMv.toNat < e.cellMv.toNat
          ∧ 128 ≤ e.preMa.toNat ∧ e.preMa.toNat ≤ e.maxMa.toNat ∧ 64 ≤ e.taperMa.toNat ∧ e.taperMa.toNat ≤ 2000
          ∧ e.taperMa.toNat < e.maxMa.toNat ∧ 1 ≤ e.preMin.toNat ∧ 1 ≤ e.fastMin.toNat
          ∧ e.fastMin.toNat ≤ 1440 then
        some
          { valid := true, chemistry := e.chemistry.toNat, bandLow := e.bandLow.toInt, bandHigh := e.bandHigh.toInt,
            cellMv := e.cellMv.toNat, maxMa := e.maxMa.toNat, useRequest := use,
            preCellMv := e.preCellMv.toNat, preMa := e.preMa.toNat, taperMa := e.taperMa.toNat,
            preMin := e.preMin.toNat, fastMin := e.fastMin.toNat }
      else none

/-- STAGE PROFILE ENTRY (R46). -/
def answerStageProfileEntry (slot : Byte) (entry : RawEntry) (s : State) : Reply × State :=
  if s.chc.openRow.isNone then refuse .notOpen s
  else if s.chc.committing.isSome then refuse .busy s
  else if 7 < slot.toNat then refuse .badValue s
  else
    match readEntry entry with
    | none => refuse .badValue s
    | some e => answer .ok [] (s.setChc { s.chc with latches := s.chc.latches.set slot.toNat (some e) })

def execStageProfileEntry (h : ReqHead) (slot : Byte) (entry : RawEntry) (s : State) :
    Host.Outcome State Fault Refusal :=
  .next (serve 10 h (answerStageProfileEntry slot entry) s)

/-- The row a commit builds: latched entries, and the working copy where no latch is loaded (R47). -/
def builtRow (table : List ProfileEntry) (latches : List (Option ProfileEntry)) (row : Nat) : List ProfileEntry :=
  (List.range 8).map fun k =>
    match latches.getD k none with
    | some e => e
    | none => table.getD (8 * row + k) .invalid

/-- COMMIT PROFILE (R47). -/
def answerCommitProfile (s : State) : Reply × State :=
  match s.chc.openRow with
  | none => refuse .notOpen s
  | some row =>
    if s.chc.latches.all Option.isNone then refuse .empty s
    else if s.storeBusy then refuse .busy s
    else
      let es := builtRow s.chc.table s.chc.latches row
      answer .accepted []
        ((s.setChc { s.chc with committing := some es }).setSts { s.sts with busy := some (.profile row es, 6) })

def execCommitProfile (h : ReqHead) (s : State) : Host.Outcome State Fault Refusal :=
  .next (serve 11 h answerCommitProfile s)

/-- No row is open, and the latches are empty. -/
def Chc.closeRow (c : Chc) : Chc :=
  { c with openRow := none, latches := List.replicate 8 none, committing := none }

/-- CANCEL PROFILE (R48). -/
def answerCancelProfile (s : State) : Reply × State :=
  if s.chc.openRow.isNone then refuse .notOpen s
  else if s.chc.committing.isSome then refuse .busy s
  else answer .ok [] (s.setChc s.chc.closeRow)

def execCancelProfile (h : ReqHead) (s : State) : Host.Outcome State Fault Refusal :=
  .next (serve 12 h answerCancelProfile s)

/-- A profile entry with all its fields (R48). -/
def entryBytes (e : ProfileEntry) : List Byte :=
  yesNo e.valid ++ u8 e.chemistry ++ s16 e.bandLow ++ s16 e.bandHigh ++ u16 e.cellMv ++ u16 e.maxMa
    ++ yesNo e.useRequest ++ u16 e.preCellMv ++ u16 e.preMa ++ u16 e.taperMa ++ u8 e.preMin ++ u16 e.fastMin

/-- A row stands as the built-in default (R44). -/
def Chc.defaultRow (c : Chc) (row : Nat) : Bool := if row = 0 then c.default0 else c.default1

/-- A commit of a row is programming (R47). -/
def Chc.committingRow (c : Chc) (row : Nat) : Bool := c.committing.isSome && c.openRow = some row

/-- READ PROFILE ENTRY (R48). -/
def answerReadProfileEntry (entry : Byte) (s : State) : Reply × State :=
  if 15 < entry.toNat then refuse .badValue s
  else if s.chc.committingRow (entry.toNat / 8) then refuse .busy s
  else answer .ok (entryBytes (s.entry entry.toNat) ++ flag8 (s.chc.defaultRow (entry.toNat / 8))) s

def execReadProfileEntry (h : ReqHead) (entry : Byte) (s : State) : Host.Outcome State Fault Refusal :=
  .next (serve 13 h (answerReadProfileEntry entry) s)

/-- STORE_DONE at the end of a programming, with the row as detail (R47, R99, R195). -/
def storeDone (row : Nat) (s : State) : State := raise .storeDone (det [row]) s

/-- The working copy with a row replaced. -/
def Chc.putRow (c : Chc) (row : Nat) (es : List ProfileEntry) (isDefault : Bool) : Chc :=
  if row = 0 then { c with table := es ++ c.table.drop 8, default0 := isDefault }
  else { c with table := c.table.take 8 ++ es, default1 := isDefault }

/-- A profile row has been programmed (R47, R49). -/
def commitDone (row : Nat) (es : List ProfileEntry) (s : State) : State :=
  let t := { s.sts with busy := none }
  let s1 :=
    s.setSts (if row = 0 then { t with row0 := es, valid0 := true } else { t with row1 := es, valid1 := true })
  commitEffects row (storeDone row (s1.setChc (s1.chc.putRow row es false).closeRow))

def execProfileCommitComplete (s : State) : Host.Outcome State Fault Refusal :=
  .next
    (match s.sts.busy with
      | some (.profile row es, 0) => commitDone row es s
      | _ => s)

/-! ## Timers (R27, R32, R34, R42) -/

/-- The record snapshot of a pack is 5 s old (R27, R32). -/
def execSnapshotStale (pack : PackId) (s : State) : Host.Outcome State Fault Refusal :=
  .next
    (let st := (s.charge pack).state
     if s.stale pack && (st = .qualify || st.phase.isSome) then
       settleCharge false s (enterState pack (.suspended .stale) none s)
     else s)

/-- The precharge time reaches its timeout (R34), tested while it advances (log entry 47). -/
def execPrechargeTimeout (pack : PackId) (s : State) : Host.Outcome State Fault Refusal :=
  .next
    (let c := s.charge pack
     if c.state = .precharge ∧ s.preLimit pack ≤ c.preTime then
       chargeTimerEnd pack .prechargeTimeout .prechargeTimeout s
     else s)

/-- The fast time reaches its timeout (R34), tested while it advances (log entry 47). -/
def execChargeTimeout (pack : PackId) (s : State) : Host.Outcome State Fault Refusal :=
  .next
    (let c := s.charge pack
     if (c.state = .fast ∨ c.state = .topoff) ∧ s.fastLimit pack ≤ c.fastTime then
       chargeTimerEnd pack .chargeTimeout .chargeTimeout s
     else s)

/-- A time that has run out stops. -/
def stopAtEnd (t : Option Nat) : Option Nat := if t = some 0 then none else t

/-- The reduction deadline expires (R42), or the 50 ms after a reduction of the grant end (R43, log entry 42): CHG_EN is
driven without what has run out. -/
def execReductionDeadlineExpired (s : State) : Host.Outcome State Fault Refusal :=
  .next
    (if s.chc.deadline = some 0 ∨ s.bga.cutLeft = some 0 then
      driveEnable
        ((s.setChc { s.chc with deadline := stopAtEnd s.chc.deadline }).setBga
          { s.bga with cutLeft := stopAtEnd s.bga.cutLeft })
     else s)

end Sys2Proof.Machine
end

