-- ==== Sys2Proof/Machine/Budget.lean ====
section
/-! DEFINITION. The commands of the Budget Allocator: its two requests, the input measurement, and the
release of the throttle (03). -/

namespace Sys2Proof.Machine

/-- Whether THROTTLE_N is asserted (03 section 3.5). -/
def Bga.throttleN (b : Bga) : Bool := b.throttle = .asserted || b.throttle = .releasing

/-- The content of READ BUDGET (R64); the input voltage and the input current take two bytes each, the model's choice, as
no range is stated for either (log entry 5). -/
def budgetContent (b : Bga) : List Byte :=
  u8 b.mode.num ++ u16 b.inMv ++ u16 b.inMa ++ u32 b.pIn ++ u32 b.limit ++ u32 b.dChg ++ u16 b.dFan ++ u32 b.sys
    ++ s32 b.allowance ++ optU 1 (b.refPack.map PackId.num) ++ optU 4 b.refMv ++ u16 b.computed
    ++ u16 b.applied ++ u32 b.packPower ++ u8 b.throttle.num ++ optU 1 b.release ++ optTime b.episodeStart
    ++ u32 b.dischargeA ++ u32 b.dischargeB ++ flag8 b.throttleN

/-- READ BUDGET (R64). -/
def answerReadBudget (s : State) : Reply × State := answer .ok (budgetContent s.bga) s

def execReadBudget (h : ReqHead) (s : State) : Host.Outcome State Fault Refusal :=
  .next (serve 14 h answerReadBudget s)

/-- SET DISCHARGE LIMIT (R65). -/
def answerSetDischargeLimit (pack : Byte) (limit : BitVec 32) (s : State) : Reply × State :=
  if 10000 ≤ limit.toNat ∧ limit.toNat ≤ 120000 then
    match readPackId pack with
    | some .A => answer .ok [] (s.setBga { s.bga with dischargeA := limit.toNat })
    | some .B => answer .ok [] (s.setBga { s.bga with dischargeB := limit.toNat })
    | none => refuse .badValue s
  else refuse .badValue s

def execSetDischargeLimit (h : ReqHead) (pack : Byte) (limit : BitVec 32) (s : State) :
    Host.Outcome State Fault Refusal :=
  .next (serve 15 h (answerSetDischargeLimit pack limit) s)

/-- The measured pair is stored in the adapter record and the grant record (R2, R54). -/
def storeMeasurement (mv ma : Nat) (s : State) : State :=
  (s.setAdapter { s.adapter with lastMv := mv, lastMa := ma, senseMv := mv }).setBga
    { s.bga with inMv := mv, inMa := ma, pIn := mv * ma / 1000 }

/-- The reference voltage (R57). -/
def State.referenceMv (s : State) : Option (PackId × Nat) := s.reference.map fun p => (p, max 4000 (s.packMv p))

/-- The budget of a measurement (R55 to R58, R60, R61). -/
def measure (s : State) : State :=
  let limit := adapterLimit s.adapter
  match s.bga.mode with
  | .adapter =>
    let s1 :=
      applyGrant (s.setBga (measuredAdapter s.bga s.chargerDraw s.fanDraw limit s.referenceMv))
    evaluateThrottle .adapter (s1.bga.sys + s1.bga.dFan) s1.bga.limit s1
  | _ => s.setBga (measuredOther s.bga s.fanDraw limit)

/-- An input measurement completes (R54). -/
def execInputMeasurement (mv : BitVec 16) (ma : Int) (s : State) : Host.Outcome State Fault Refusal :=
  .next (measure (storeMeasurement mv.toNat ma.toNat s))

/-- The release timer expires in RELEASING (R61). -/
def execThrottleRelease (s : State) : Host.Outcome State Fault Refusal :=
  .next
    (if s.bga.throttle = .releasing ∧ s.bga.release = some 0 then s.setBga s.bga.released else s)

end Sys2Proof.Machine
end

