-- ==== Sys2Proof/Machine/PackLink.lean ====
section
/-! DEFINITION. The commands of the Pack Link Controller: its four requests and the events of the pack
link (04). -/

namespace Sys2Proof.Machine

/-! ## SET LINK DEVICE (R69) -/

/-- The three definable fields: defined, address and check-byte flag. -/
abbrev Definition := Bool × Option Nat × Bool

/-- The definable fields a request carries, unless one lies outside its values (R69). An entry made undefined takes any
address byte: it keeps one within 0x08 to 0x77 and stores none for another (log entry 55). -/
def readDefinable (d : RawDefinable) : Option Definition :=
  let inside := decide (0x08 ≤ d.address.toNat ∧ d.address.toNat ≤ 0x77)
  match readYesNo d.defined, readYesNo d.check with
  | some true, some c => if inside then some (true, some d.address.toNat, c) else none
  | some false, some c => some (false, if inside then some d.address.toNat else none, c)
  | _, _ => none

/-- Whether another entry than `entry` is defined with an address (R69). -/
def State.addressTaken (s : State) (entry : Nat) (a : Option Nat) : Bool :=
  (List.range 8).any fun k => k ≠ entry && (s.device k).policy.defined && (s.device k).policy.address = a

/-- The definition an entry gets: a fixed entry keeps its own, and a definable entry needs one that is
sound (R69). -/
def State.definition (s : State) (entry : Nat) (d : Option RawDefinable) : Option Definition :=
  let p := (s.device entry).policy
  match d with
  | none => if entry < 5 then some (p.defined, p.address, p.check) else none
  | some raw =>
    if entry < 5 then none
    else
      match readDefinable raw with
      | none => none
      | some x => if x.1 && s.addressTaken entry x.2.1 then none else some x

/-- A pass-through to an entry is outstanding or saved (R69). -/
def State.passTo (s : State) (entry : Nat) : Bool :=
  s.plc.pass.any (fun p => p.entry = entry) || s.plc.caught.any (fun p => p.entry = entry)

/-- The segment lengths (04 section 4.1). -/
def segLens : List Nat := [1, 2, 4, 8, 16, 32]

/-- SET LINK DEVICE (R69). -/
def answerSetLinkDevice (entry segLen abort retry hold : Byte) (d : Option RawDefinable) (s : State) :
    Reply × State :=
  if 7 < entry.toNat then refuse .badValue s
  else if segLens.contains segLen.toNat && retry.toNat ≤ 7 && 1 ≤ hold.toNat && hold.toNat ≤ 50 then
    match readEnum [Abort.discard, .retry] abort, s.definition entry.toNat d with
    | some a, some (df, ad, ch) =>
      if s.passTo entry.toNat then refuse .busy s
      else
        answer .ok []
          (s.setDevice entry.toNat
            { (s.device entry.toNat).clean with
              policy :=
                { defined := df, address := ad, check := ch, segLen := segLen.toNat, abort := a,
                  retryLimit := retry.toNat, holdLimit := hold.toNat } })
    | _, _ => refuse .badValue s
  else refuse .badValue s

def execSetLinkDevice (h : ReqHead) (entry segLen abort retry hold : Byte) (d : Option RawDefinable) (s : State) :
    Host.Outcome State Fault Refusal :=
  .next (serve 16 h (answerSetLinkDevice entry segLen abort retry hold d) s)

/-! ## LINK TRANSFER and LINK RESULT (R80, R82) -/

/-- A transfer as LINK TRANSFER names it, unless a field is outside its values (R80). -/
def readTransfer (s : State) (entry dir cmd len : Byte) (data : List Byte) : Option Pass :=
  match readEnum [false, true] dir with
  | none => none
  | some w =>
    if entry.toNat ≤ 7 ∧ 1 ≤ len.toNat ∧ len.toNat ≤ 48 ∧ cmd.toNat + len.toNat ≤ 256
        ∧ data.length = (if w then len.toNat else 0) ∧ ¬(w = true ∧ entry.toNat = 2) then
      some
        { entry := entry.toNat, write := w, cmd := cmd.toNat, len := len.toNat,
          segLen := (s.device entry.toNat).policy.segLen,
          buf := if w then data else List.replicate len.toNat 0xFF, seg := 0, done := 0, reps := 0,
          failed := false }
    else none

/-- Whether the device of an entry is there to be named (R80). -/
def State.named (s : State) (entry : Nat) : Bool :=
  if entry = 0 then s.polled .A
  else if entry = 1 then s.polled .B
  else (s.device entry).policy.defined

/-- LINK TRANSFER (R80). -/
def answerLinkTransfer (entry dir cmd len : Byte) (data : List Byte) (s : State) : Reply × State :=
  match readTransfer s entry dir cmd len data with
  | none => refuse .badValue s
  | some p =>
    if !s.running .link then refuse .notNow s
    else if s.plc.pass.isSome || s.plc.caught.isSome then refuse .retry s
    else if !s.named p.entry then refuse .noDevice s
    else answer .accepted [] (kick (placeSegment p (s.setPlc { s.plc with result := none })))

def execLinkTransfer (h : ReqHead) (entry dir cmd len : Byte) (data : List Byte) (s : State) :
    Host.Outcome State Fault Refusal :=
  .next (serve 17 h (answerLinkTransfer entry dir cmd len data) s)

/-- The content of a result record (R82). -/
def resultBytes (r : PassResult) : List Byte :=
  u8 r.outcome.num ++ u8 r.entry ++ u8 r.write.toNat ++ u8 r.cmd ++ u8 r.len ++ u8 r.done ++ r.data ++ time32 r.time

/-- A transfer outstanding, in the PASS slot or in the catch record. -/
def Plc.outstanding (k : Plc) : Option Pass := k.pass.or k.caught

/-- LINK RESULT (R82). -/
def answerLinkResult (s : State) : Reply × State :=
  match s.plc.outstanding with
  | some p => answer .busy (u8 p.seg ++ u8 p.done) s
  | none =>
    match s.plc.result with
    | some r => answer .ok (resultBytes r) s
    | none => refuse .empty s

def execLinkResult (h : ReqHead) (s : State) : Host.Outcome State Fault Refusal :=
  .next (serve 18 h answerLinkResult s)

/-! ## READ LINK STATUS (R86) -/

/-- An entry of the Link Device Table with its sticky flags (R86). -/
def deviceBytes (d : LinkDevice) : List Byte :=
  yesNo d.policy.defined ++ optU 1 d.policy.address ++ u8 d.cls.num ++ u8 d.policy.segLen ++ u8 d.policy.abort.num
    ++ u8 d.policy.retryLimit ++ u8 d.policy.holdLimit ++ yesNo d.policy.check ++ setClear d.noack
    ++ setClear d.hold ++ setClear d.badcheck

/-- A client slot: whether it holds a request, and the entry named (R86). -/
def slotBytes (t : Option Txn) : List Byte := flag8 t.isSome ++ optU 1 (t.map (·.entry))

/-- The next due time of a pack's snapshot, or none when it is not polled (R86). -/
def State.nextDue (s : State) (p : PackId) : Option Time :=
  if s.polled p then
    match (s.poll p).due, (s.poll p).started with
    | false, some t => some (t + BitVec.ofNat 32 (s.period p))
    | _, _ => some (s.poll p).dueAt
  else none

/-- The transaction READ LINK STATUS names: the one on the wire while the link is BUSY (04 section 4.2). -/
def Plc.busyWith (k : Plc) : Option OnWire := if k.link = .busy then k.wire else none

/-- The content of READ LINK STATUS (R86). -/
def linkContent (s : State) : List Byte :=
  let k := s.plc
  (k.devices.map deviceBytes).flatten ++ u8 k.link.num ++ optU 1 (k.busyWith.map (·.client.num))
    ++ optU 1 (k.busyWith.map (·.item.entry)) ++ slotBytes k.chargerSlot ++ slotBytes k.passSlot
    ++ slotBytes k.packSlot ++ slotBytes k.sensorSlot ++ u8 k.alternation.num
    ++ optU 1 (k.pass.map (·.entry)) ++ optU 1 (k.pass.map fun p => p.write.toNat)
    ++ optU 1 (k.pass.map (·.seg)) ++ optU 1 (k.pass.map (·.done)) ++ flag8 k.caught.isSome
    ++ u8 k.runTs0 ++ u8 k.runTs1 ++ optTime (s.nextDue .A) ++ optTime (s.nextDue .B)

/-- READ LINK STATUS (R86): the reply is formed before the sticky flags are cleared. -/
def answerReadLinkStatus (clear : Byte) (s : State) : Reply × State :=
  match readYesNo clear with
  | none => refuse .badValue s
  | some true => answer .ok (linkContent s) (s.setPlc { s.plc with devices := s.plc.devices.map LinkDevice.clean })
  | some false => answer .ok (linkContent s) s

def execReadLinkStatus (h : ReqHead) (clear : Byte) (s : State) : Host.Outcome State Fault Refusal :=
  .next (serve 19 h (answerReadLinkStatus clear) s)

/-! ## Events of the pack link (R70, R71, R78, R79) -/

/-- The levels of the two lines as last seen. -/
def setLinkLines (scl sda : Bool) (s : State) : State := s.setPlc { s.plc with sclHigh := scl, sdaHigh := sda }

/-- A transaction on the wire ends (R70). -/
def execTransactionEnd (bus : BusEnd) (s : State) : Host.Outcome State Fault Refusal :=
  .next
    (match s.plc.link, s.plc.wire with
      | .busy, some w => endTransaction w (w.outcome bus) (setLinkLines bus.sclHigh bus.sdaHigh s)
      | _, _ => s)

/-- A device holds PL_SCL low beyond the hold limit of its entry: the link goes to RECOVERY (R71). -/
def execHoldTimeout (s : State) : Host.Outcome State Fault Refusal :=
  .next
    (match s.plc.link, s.plc.wire with
      | .busy, some w =>
        if s.plc.heldBeyond w.policy then s.setPlc { s.plc with link := .recovery true, holdTime := 0 } else s
      | _, _ => s)

/-- The lines at the end of the link recovery (R71): PL_SDA still low, or PL_SCL held low beyond the hold limit, is
STUCK; while PL_SCL is held low within the limit the recovery is not over. -/
def endRecovery (started : Bool) (w : OnWire) (scl sda : Bool) (s : State) : State :=
  let s1 := setLinkLines scl sda s
  if !scl then (if s.plc.heldBeyond (s.recoveryPolicy started w) then endTransaction w .stuck s1 else s)
  else if sda then recovered started w s1
  else endTransaction w .stuck s1

/-- The link recovery ends (R71). -/
def execLinkRecoveryEnd (scl sda : Bool) (s : State) : Host.Outcome State Fault Refusal :=
  .next
    (match s.plc.link, s.plc.wire with
      | .recovery started, some w => endRecovery started w scl sda s
      | _, _ => s)

/-- A pack's snapshot falls due (R78). -/
def execSnapshotDue (pack : PackId) (s : State) : Host.Outcome State Fault Refusal :=
  .next (kick (ripenPack pack s))

/-- A sensor's read falls due (R79). -/
def execSensorReadDue (x : Sensor) (s : State) : Host.Outcome State Fault Refusal :=
  .next (kick (ripenSensor x s))

end Sys2Proof.Machine
end

