-- ==== Sys2Proof/Machine/Hinge.lean ====
section
/-! DEFINITION. The commands of the Hinge Sensor Interface: its six requests, the completion of SAVE
CALIBRATION, sample pairs and persistence timers (05). -/

namespace Sys2Proof.Machine

/-! ## READ ANGLE (R103) -/

/-- The corrections of a channel with their limit marks. -/
def trackerBytes (t : Tracker) : List Byte := u16 t.gain ++ s16 t.offset ++ flag8 t.gainMark ++ flag8 t.offsetMark

/-- A monitor source: condition as last evaluated, flag and enables. -/
def monitorBytes (m : Monitor) : List Byte := flag8 m.cond ++ setClear m.flag ++ yesNo m.monitor ++ yesNo m.latch

/-- The content of READ ANGLE (R103). -/
def angleContent (s : State) : List Byte :=
  let h := s.hsi
  u16 h.reported ++ u8 h.validity.num ++ u16 h.raw ++ u16 h.closedRef ++ u16 h.magnitude ++ flag8 h.rejected
    ++ u32 h.speed ++ trackerBytes h.sin ++ trackerBytes h.cos ++ u16 h.nominal ++ u8 h.hysteresis
    ++ monitorBytes h.monitors.vectorLow ++ monitorBytes h.monitors.clip ++ monitorBytes h.monitors.spin
    ++ monitorBytes h.monitors.calInvalid ++ monitorBytes h.monitors.gainLimit
    ++ monitorBytes h.monitors.offsetLimit ++ u16 h.persistence.vectorLow ++ u16 h.persistence.clip
    ++ u16 h.persistence.spin ++ u16 h.persistence.calInvalid ++ flag8 h.standIn ++ u8 h.captures.length
    ++ flag8 h.lost ++ u8 (s.job .hinge).state.num

/-- READ ANGLE (R103). -/
def answerReadAngle (s : State) : Reply × State := answer .ok (angleContent s) s

def execReadAngle (h : ReqHead) (s : State) : Host.Outcome State Fault Refusal :=
  .next (serve 20 h answerReadAngle s)

/-! ## Captures (R101) -/

/-- CAPTURE ANGLE (R101): the reply says whether the capture was queued (0) or lost (1). -/
def answerCaptureAngle (s : State) : Reply × State :=
  if !s.running .hinge then refuse .notNow s
  else
    answer .ok
      (u16 s.hsi.reported ++ u8 s.hsi.validity.num ++ time32 s.time
        ++ u8 (if s.hsi.captures.length < 2 then 0 else 1))
      (takeCapture .request s)

def execCaptureAngle (h : ReqHead) (s : State) : Host.Outcome State Fault Refusal :=
  .next (serve 21 h answerCaptureAngle s)

/-- The content of READ CAPTURE (12 section 12.6). -/
def captureBytes (angle source : Nat) (v : Validity) (t : Time) (lost : Bool) (left : Nat) : List Byte :=
  u16 angle ++ u8 source ++ u8 v.num ++ time32 t ++ flag8 lost ++ u8 left

/-- READ CAPTURE (R101). -/
def answerReadCapture (s : State) : Reply × State :=
  match s.hsi.captures with
  | [] =>
    answer .ok (captureBytes s.hsi.reported 4 s.hsi.validity s.time s.hsi.lost 0)
      (s.setHsi { s.hsi with lost := false })
  | c :: rest =>
    let s1 := s.setHsi { s.hsi with captures := rest, lost := false }
    answer .ok (captureBytes c.angle c.source.num c.validity c.time s.hsi.lost rest.length)
      (if rest = [] then setLevel .captureWaiting false s1 else s1)

def execReadCapture (h : ReqHead) (s : State) : Host.Outcome State Fault Refusal :=
  .next (serve 22 h answerReadCapture s)

/-! ## SET HINGE MONITOR and CLEAR HINGE ERRORS (R104) -/

/-- The enables of a source a request gives, each perhaps unchanged. -/
def readEnable (r : RawEnable) : Option (Option Bool × Option Bool) :=
  match readKeep [true, false] r.monitor, readKeep [true, false] r.latch with
  | some m, some l => some (m, l)
  | _, _ => none

/-- A source with its enables replaced where given. -/
def Monitor.enables (m : Monitor) (e : Option Bool × Option Bool) : Monitor :=
  { m with monitor := e.1.getD m.monitor, latch := e.2.getD m.latch }

/-- SET HINGE MONITOR (R104). -/
def answerSetHingeMonitor (vl cl sp ci gl ol : RawEnable) (hyst : Byte) (nominal : BitVec 16) (s : State) :
    Reply × State :=
  match readEnable vl, readEnable cl, readEnable sp, readEnable ci, readEnable gl, readEnable ol,
    readRange 0 15 hyst, readRange 200 1800 nominal with
  | some vl, some cl, some sp, some ci, some gl, some ol, some hy, some nom =>
    let h := s.hsi
    let m := h.monitors
    answer .ok []
      (reevaluateAll
        (s.setHsi
          { h with
            hysteresis := hy.getD h.hysteresis, nominal := nom.getD h.nominal,
            monitors :=
              { vectorLow := m.vectorLow.enables vl, clip := m.clip.enables cl, spin := m.spin.enables sp,
                calInvalid := m.calInvalid.enables ci, gainLimit := m.gainLimit.enables gl,
                offsetLimit := m.offsetLimit.enables ol } }))
  | _, _, _, _, _, _, _, _ => refuse .badValue s

def execSetHingeMonitor (h : ReqHead) (vl cl sp ci gl ol : RawEnable) (hyst : Byte) (nominal : BitVec 16)
    (s : State) : Host.Outcome State Fault Refusal :=
  .next (serve 23 h (answerSetHingeMonitor vl cl sp ci gl ol hyst nominal) s)

/-- A set flag whose condition is false is cleared, with its persistence timer (R104). -/
def clearSource (x : HingeSource) (s : State) : State :=
  let m := s.monitor x
  if m.flag && !m.cond then (s.setMonitor x { m with flag := false }).setPersistence x 0 else s

/-- The flags CLEAR HINGE ERRORS leaves, and the validity they give (R104). -/
def clearErrors (s : State) : State :=
  deriveValidity
    (clearSource .offsetLimit (clearSource .gainLimit (clearSource .calInvalid
      (clearSource .spin (clearSource .clip (clearSource .vectorLow s))))))

/-- The six flags. -/
def flagBytes (m : Monitors) : List Byte :=
  setClear m.vectorLow.flag ++ setClear m.clip.flag ++ setClear m.spin.flag ++ setClear m.calInvalid.flag
    ++ setClear m.gainLimit.flag ++ setClear m.offsetLimit.flag

/-- CLEAR HINGE ERRORS (R104). -/
def answerClearHingeErrors (s : State) : Reply × State :=
  let s1 := clearErrors s
  answer .ok (flagBytes s1.hsi.monitors) s1

def execClearHingeErrors (h : ReqHead) (s : State) : Host.Outcome State Fault Refusal :=
  .next (serve 24 h answerClearHingeErrors s)

/-! ## SAVE CALIBRATION (R99) -/

/-- SAVE CALIBRATION (R99). -/
def answerSaveCalibration (s : State) : Reply × State :=
  if !s.running .hinge then refuse .notNow s
  else if s.hsi.validity ≠ .referenced then refuse .notNow s
  else if s.storeBusy then refuse .busy s
  else answer .accepted [] (s.setSts { s.sts with busy := some (.calibration s.hsi.record, 6) })

def execSaveCalibration (h : ReqHead) (s : State) : Host.Outcome State Fault Refusal :=
  .next (serve 25 h answerSaveCalibration s)

/-- Row 3 has been programmed (R99): CAL_INVALID becomes false, and its source is evaluated while the
HINGE job is RUN (R102). -/
def calibrationSaved (c : Calibration) (s : State) : State :=
  let s1 := s.setSts { s.sts with busy := none, row3 := c, valid3 := true }
  let s2 := s1.setHsi { s1.hsi with stored := c, standIn := false }
  storeDone 3
    (if s2.running .hinge then deriveValidity (evaluateSource .calInvalid false s2)
     else s2.setMonitor .calInvalid { s2.hsi.monitors.calInvalid with cond := false })

def execCalibrationSaveComplete (s : State) : Host.Outcome State Fault Refusal :=
  .next
    (match s.sts.busy with
      | some (.calibration c, 0) => calibrationSaved c s
      | _ => s)

/-! ## Samples and persistence (R89, R95) -/

/-- A sample pair (R89). -/
def execSamplePair (sin cos : BitVec 12) (s : State) : Host.Outcome State Fault Refusal :=
  .next (if s.running .hinge then takeSample sin.toInt cos.toInt s else s)

/-- The persistence timer of a source stands at 10 s: an error source whose flag is set (R95). -/
def State.persisted (s : State) (x : HingeSource) : Bool :=
  HingeSource.isError x && (s.monitor x).flag && decide (10000 ≤ s.persistence x)

/-- The sources whose timers reach 10 s with that of `src`: `src` first, the others in their order (R95, log
entry 4). -/
def State.persistedWith (s : State) (src : HingeSource) : List HingeSource :=
  src :: [HingeSource.vectorLow, .clip, .spin, .calInvalid].filter fun x => x ≠ src && s.persisted x

/-- The persistence timer of an error source reaches 10 s (R95). Timers that reach it together raise the fault
each, before the quiesce sets them to 0. -/
def execPersistenceTimerExpired (src : HingeSource) (s : State) : Host.Outcome State Fault Refusal :=
  .next
    (if s.running .hinge && s.persisted src then
      raiseEach .hingeSensor ((s.persistedWith src).map fun x => det [x.num]) s
    else s)

end Sys2Proof.Machine
end

