-- ==== Sys2Proof/Machine/Posture.lean ====
section
/-! DEFINITION. The commands of the Posture Monitor: its two requests, the switches, the dwell and the
first evaluation (06). -/

namespace Sys2Proof.Machine

/-- A hinge switch: its debounced level, listed as asserted or deasserted, and whether its count runs. -/
def switchBytes (l : SwitchLine) : List Byte := u8 (if l.debounced then 0 else 1) ++ flag8 l.count.isSome

/-- The content of READ POSTURE (R115). -/
def postureContent (s : State) : List Byte :=
  let p := s.psm
  u8 p.current.num ++ optTime (p.lastChange.map (·.1)) ++ optU 1 (p.lastChange.map fun x => x.2.num)
    ++ u8 p.candidate.num ++ orZero 2 p.dwell ++ u8 (if s.running .hinge then 0 else 1)
    ++ optU 1 (p.band.map Band.num) ++ u16 p.angle ++ u8 p.validity.num ++ switchBytes p.lid
    ++ switchBytes p.tablet ++ yesNo p.conflict ++ u16 p.settings.standEnter ++ u16 p.settings.standLeave
    ++ u16 p.settings.tabletEnter ++ u16 p.settings.tabletLeave ++ u16 p.settings.dwell

/-- READ POSTURE (R115). -/
def answerReadPosture (s : State) : Reply × State := answer .ok (postureContent s) s

def execReadPosture (h : ReqHead) (s : State) : Host.Outcome State Fault Refusal :=
  .next (serve 26 h answerReadPosture s)

/-- The dwell has run for its setting: the candidate becomes the current posture (R112). -/
def expireDwell (s : State) : State :=
  match s.psm.dwell with
  | some t => if s.psm.settings.dwell ≤ t then changePosture s.psm.candidate s else s
  | none => s

/-- The order of the thresholds (R116). -/
def PostureSettings.ordered (t : PostureSettings) : Bool :=
  t.standLeave < t.standEnter && t.standEnter ≤ t.tabletLeave && t.tabletLeave < t.tabletEnter

/-- SET POSTURE THRESHOLDS (R116). The candidate is evaluated with the new thresholds before a dwell that the
new setting makes overdue ends, so a new candidate starts its dwell afresh (log entry 4). -/
def answerSetPostureThresholds (standEnter standLeave tabletEnter tabletLeave dwell : BitVec 16) (s : State) :
    Reply × State :=
  match readRange 1 4095 standEnter, readRange 1 4095 standLeave, readRange 1 4095 tabletEnter,
    readRange 1 4095 tabletLeave, readRange 50 1000 dwell with
  | some se, some sl, some te, some tl, some dw =>
    let p := s.psm.settings
    let t : PostureSettings :=
      { standEnter := se.getD p.standEnter, standLeave := sl.getD p.standLeave,
        tabletEnter := te.getD p.tabletEnter, tabletLeave := tl.getD p.tabletLeave, dwell := dw.getD p.dwell }
    if t.ordered then
      answer .ok []
        (expireDwell (evaluatePosture false (deriveBand false (s.setPsm { s.psm with settings := t }))))
    else refuse .badValue s
  | _, _, _, _, _ => refuse .badValue s

def execSetPostureThresholds (h : ReqHead) (standEnter standLeave tabletEnter tabletLeave dwell : BitVec 16)
    (s : State) : Host.Outcome State Fault Refusal :=
  .next (serve 27 h (answerSetPostureThresholds standEnter standLeave tabletEnter tabletLeave dwell) s)

/-- A hinge switch line changes its level (R107). -/
def execSwitchLineChange (line : HingeSwitch) (asserted : Bool) (s : State) : Host.Outcome State Fault Refusal :=
  .next
    (let l := s.psm.line line
     let count := if asserted = l.debounced then none else some (l.count.getD 0)
     s.setPsm (s.psm.setLine line { l with level := asserted, count := count }))

/-- The debounced edge of a line that has kept its new level for 20 ms, where there is one (R107). -/
def dueEdge (line : HingeSwitch) (s : State) : State :=
  if (s.psm.line line).count = some 20 then debouncedEdge line s else s

/-- A hinge switch line has kept its new level for 20 ms (R107). -/
def execSwitchDebouncedEdge (line : HingeSwitch) (s : State) : Host.Outcome State Fault Refusal :=
  .next (dueEdge line s)

/-- The candidate has stood for the dwell setting (R112). -/
def execDwellExpired (s : State) : Host.Outcome State Fault Refusal := .next (expireDwell s)

/-- PSM makes its first evaluation, and its candidate becomes current without the dwell (R117). -/
def firstEvaluation (s : State) : State :=
  let s1 := s.setPsm { s.psm with evaluated := true }
  let s2 := if s1.psm.conflict then raise .hingeError (det [6]) s1 else s1
  let s3 := deriveBand true s2
  let s4 := s3.setPsm { s3.psm with candidate := s3.candidateNow }
  if s4.psm.candidate = s4.psm.current then s4 else changePosture s4.psm.candidate s4

/-- 20 ms have passed since power-on (R117): the evaluation follows the debounced edges that fall at that
moment, LID_HALL_N's first (log entry 4). -/
def execFirstEvaluation (s : State) : Host.Outcome State Fault Refusal :=
  .next
    (if s.psm.evaluated = false ∧ 20 ≤ s.psm.sincePower then firstEvaluation (dueEdge .tablet (dueEdge .lid s))
     else s)

end Sys2Proof.Machine
end

