-- ==== Sys2Proof/Machine/Keyboard.lean ====
section
/-! DEFINITION. The commands of the Keyboard Scanner: its three requests, the end of a scan, and the
idle, row and typematic events (07). -/

namespace Sys2Proof.Machine

/-! ## FETCH KEYS (R132) -/

/-- A key entry of three bytes (12 section 12.6). -/
def keyBytes (base : Time) (e : KeyEvent) : List Byte :=
  optU 1 e.key ++ u16 (16384 * e.kind.num + 8192 * e.synthetic.toNat + min 8191 (e.time.age base))

/-- Entries as FETCH KEYS returns them, with the number left in the queue (12 section 12.6). -/
def fetchContent (es : List KeyEvent) (left : Nat) : List Byte :=
  u8 es.length ++ u8 left
    ++ (match es with
      | [] => time32 0
      | e :: _ => time32 e.time)
    ++ (es.map (keyBytes (match es with
      | [] => 0
      | e :: _ => e.time))).flatten

/-- KBS acts on the overflow state after a removal (R124). -/
def settleOverflow (s : State) : State :=
  if s.kbs.overflow then
    let s1 := s.setKbs { s.kbs with overflow := false }
    if (s.kbs.queue.getLast?.map (·.kind)) = some .overflow then s1
    else
      raise .keyOverflow []
        (queueKey { key := none, kind := .overflow, synthetic := false, time := s.time } s1)
  else s

/-- The oldest entries are removed, and the overflow state and KEYS_AVAILABLE follow (R124, R132). -/
def removeKeys (n : Nat) (s : State) : State :=
  let s1 := settleOverflow (s.setKbs { s.kbs with queue := s.kbs.queue.drop n })
  if s1.kbs.queue = [] then setLevel .keysAvailable false s1 else s1

/-- FETCH KEYS (R132). -/
def answerFetchKeys (max : Byte) (s : State) : Reply × State :=
  if 1 ≤ max.toNat ∧ max.toNat ≤ 12 then
    if s.kbs.queue = [] then refuse .empty s
    else
      let s1 := removeKeys max.toNat s
      answer .ok (fetchContent (s.kbs.queue.take max.toNat) s1.kbs.queue.length) s1
  else refuse .badValue s

def execFetchKeys (h : ReqHead) (max : Byte) (s : State) : Host.Outcome State Fault Refusal :=
  .next (serve 28 h (answerFetchKeys max) s)

/-! ## READ KEY MAP and SET KEYBOARD (R133, R134) -/

/-- The content of READ KEY MAP with STATE (R133). -/
def keyStateContent (k : Kbs) : List Byte :=
  (k.keys.map fun e => flag8 e.state.held).flatten ++ u8 k.mode.num ++ flag8 k.burst ++ u8 k.queue.length
    ++ setClear k.overflow ++ optU 1 (k.typematic.map (·.key))
    ++ optU 1 (k.typematic.map fun t => t.repeating.toNat)

/-- The number of MODIFIER keys of a map (R134). -/
def modifiers (m : List KeyAttr) : Nat := m.countP (· = .modifier)

/-- The content of READ KEY MAP with ATTRIBUTES (R133). -/
def keyAttrContent (t : KeySettings) : List Byte :=
  (t.map.map fun a => u8 a.num).flatten ++ u8 (modifiers t.map) ++ u8 t.pressDebounce ++ u8 t.releaseDebounce
    ++ u16 t.delay ++ u16 t.period ++ yesNo t.wakeEnable

/-- READ KEY MAP (R133). -/
def answerReadKeyMap (choice : Byte) (s : State) : Reply × State :=
  match choice.toNat with
  | 0 => answer .ok (keyStateContent s.kbs) s
  | 1 => answer .ok (keyAttrContent s.kbs.settings) s
  | _ => refuse .badValue s

def execReadKeyMap (h : ReqHead) (choice : Byte) (s : State) : Host.Outcome State Fault Refusal :=
  .next (serve 29 h (answerReadKeyMap choice) s)

/-- The attributes a run of bytes names, if it names one at each place. -/
def readAttrs : List Byte → Option (List KeyAttr)
  | [] => some []
  | b :: bs =>
    match readEnum [KeyAttr.normal, .modifier, .platform] b, readAttrs bs with
    | some a, some as => some (a :: as)
    | _, _ => none

/-- The attribute map a request gives: not at all, or whole; 144 times the number after the last
attribute gives it as unchanged (R134, log entry 6). -/
def readMap (m : Option (List Byte)) : Option (Option (List KeyAttr)) :=
  match m with
  | none => some none
  | some bs =>
    if bs = List.replicate 144 3 then some none
    else
      match readAttrs bs with
      | some as => if as.length = 144 ∧ modifiers as ≤ 8 then some (some as) else none
      | none => none

/-- SET KEYBOARD (R134). -/
def answerSetKeyboard (press release : Byte) (delay period : BitVec 16) (wake : Byte) (map : Option (List Byte))
    (s : State) : Reply × State :=
  match readRange 1 7 press, readRange 1 7 release, readRange 250 1000 delay, readRange 33 500 period,
    readKeep [true, false] wake, readMap map with
  | some p, some r, some d, some t, some w, some m =>
    let k := s.kbs.settings
    answer .ok []
      (s.setKbs
        { s.kbs with
          settings :=
            { pressDebounce := p.getD k.pressDebounce, releaseDebounce := r.getD k.releaseDebounce,
              delay := d.getD k.delay, period := t.getD k.period, wakeEnable := w.getD k.wakeEnable,
              map := m.getD k.map } })
  | _, _, _, _, _, _ => refuse .badValue s

def execSetKeyboard (h : ReqHead) (press release : Byte) (delay period : BitVec 16) (wake : Byte)
    (map : Option (List Byte)) (s : State) : Host.Outcome State Fault Refusal :=
  .next (serve 30 h (answerSetKeyboard press release delay period wake map) s)

/-! ## The end of a scan (R120 to R123, R129, R130) -/

/-- The number of the key at a column and a row (07 section 7.1). -/
def keyAt (col row : Nat) : Nat := 8 * col + row

/-- Whether a key is held. -/
def heldKey (keys : List KeyEntry) (k : Nat) : Bool :=
  match keys[k]? with
  | some e => e.state.held
  | none => false

/-- Whether a key would complete a rectangle of three held keys (R122). -/
def ghost (keys : List KeyEntry) (k : Nat) : Bool :=
  (List.range 8).any fun r =>
    r ≠ k % 8 && heldKey keys (keyAt (k / 8) r)
      && (List.range 18).any fun c => c ≠ k / 8 && heldKey keys (keyAt c (k % 8)) && heldKey keys (keyAt c r)

/-- A key in a state with a debounce count. -/
def KeyEntry.to (e : KeyEntry) (st : KeyState) (n : Nat) : KeyEntry := { e with state := st, count := n }

/-- A key reaches DOWN, pressed as the map says (R123). -/
def KeyEntry.pressed (a : KeyAttr) : KeyEntry := { state := .down, count := 0, pressedAs := a }

/-- The state of a key after a scan (R121, R122). -/
def nextKey (t : KeySettings) (keys : List KeyEntry) (k : Nat) (e : KeyEntry) (sensed : Bool) : KeyEntry :=
  let attr := t.map.getD k .normal
  match e.state, sensed with
  | .up, false => e.to .up 0
  | .up, true =>
    if ghost keys k then e.to .blocked 0
    else if t.pressDebounce ≤ 1 then .pressed attr else e.to .pressPending 1
  | .pressPending, false => e.to .up 0
  | .pressPending, true =>
    if ghost keys k then e.to .blocked 0
    else if t.pressDebounce ≤ e.count + 1 then .pressed attr else e.to .pressPending (e.count + 1)
  | .down, true => e
  | .down, false => if t.releaseDebounce ≤ 1 then .released else e.to .releasePending 1
  | .releasePending, true => e.to .down 0
  | .releasePending, false =>
    if t.releaseDebounce ≤ e.count + 1 then .released else e.to .releasePending (e.count + 1)
  | .blocked, true => if ghost keys k then e else e.to .pressPending 1
  | .blocked, false => if ghost keys k then e else e.to .up 0

/-- The Key State Table after a scan, every key by the states before it (R121). -/
def nextKeys (t : KeySettings) (keys : List KeyEntry) (sensed : List Key) : List KeyEntry :=
  (List.range 144).map fun k => nextKey t keys k (keys.getD k .released) (sensed.any (·.val = k))

/-- Whether every row of a column is sensed (R130). -/
def fullColumn (sensed : List Key) (col : Nat) : Bool :=
  (List.range 8).all fun r => sensed.any (·.val = keyAt col r)

/-- The short runs after a scan (R130). -/
def nextRuns (runs : List Nat) (sensed : List Key) : List Nat :=
  (List.range 18).map fun c => if fullColumn sensed c then min 3 (runs.getD c 0 + 1) else 0

/-- The columns whose run has reached 3 (R130). -/
def shortColumns (runs : List Nat) : List Nat := (List.range 18).filter fun c => 3 ≤ runs.getD c 0

/-- MATRIX_SHORT once for each column, in ascending order (log entry 4), and then the quiesce of the KEYS job
(R130, R131). -/
def raiseShorts (cols : List Nat) (s : State) : State := raiseEach .matrixShort (cols.map fun c => det [c]) s

/-- A debounced press (R123, R126, R129); `asleep` is the group at the end of the scan. Each key is queued or
reported before it wakes the platform, and before the next key (log entry 4). -/
def keyPressed (asleep : Bool) (k : Nat) (a : KeyAttr) (s : State) : State :=
  let e : KeyEvent := { key := some k, kind := .press, synthetic := false, time := s.time }
  let s1 :=
    match a with
    | .platform => raise .platformKey (det [k]) s
    | .modifier => queueKey e s
    | .normal =>
      let s2 := queueKey e s
      if asleep then s2
      else s2.setKbs { s2.kbs with typematic := some { key := k, repeating := false, left := s2.kbs.settings.delay } }
  if s1.kbs.settings.wakeEnable && s1.running .keys then wake .key s1 else s1

/-- A debounced release (R123, R126). -/
def keyReleased (k : Nat) (a : KeyAttr) (s : State) : State :=
  let s1 :=
    if a = .platform then s
    else queueKey { key := some k, kind := .release, synthetic := false, time := s.time } s
  if (s1.kbs.typematic.map (·.key)) = some k then s1.setKbs { s1.kbs with typematic := none } else s1

/-- The events of a scan in key-number order, from the states before and after it (R121, R123). -/
def keyEvents (asleep : Bool) : List KeyEntry → List KeyEntry → Nat → State → State
  | b :: bs, a :: as, k, s =>
    keyEvents asleep bs as (k + 1)
      (if !b.state.held && a.state.held then keyPressed asleep k a.pressedAs s
       else if b.state.held && !a.state.held then keyReleased k b.pressedAs s
       else s)
  | _, _, _, s => s

/-- The idle timer is 0 while a key is not UP, and a wake burst ends when every key is UP (R120, R129). -/
def settleScan (s : State) : State :=
  if !s.kbs.allUp then s.setKbs { s.kbs with idleTimer := 0 }
  else if s.kbs.mode = .active && s.kbs.burst then s.setKbs s.kbs.toIdle
  else s

/-- A full scan completes in ACTIVE (R120). -/
def endScan (sensed : List Key) (s : State) : State :=
  let runs := nextRuns s.kbs.shortRuns sensed
  let s1 := s.setKbs { s.kbs with shortRuns := runs }
  match shortColumns runs with
  | [] =>
    let before := s.kbs.keys
    let after := nextKeys s.kbs.settings before sensed
    settleScan (keyEvents s.swc.platform.asleep before after 0 (s1.setKbs { s1.kbs with keys := after }))
  | cols => raiseShorts cols s1

/-- A full scan completes (R120). -/
def execScanEnd (sensed : List Key) (s : State) : Host.Outcome State Fault Refusal :=
  .next (if s.kbs.mode = .active then endScan sensed s else s)

/-! ## Idle, row and typematic (R120, R126) -/

/-- The idle timer reaches 64 ms in the awake group (R120). -/
def execIdleTimerExpired (s : State) : Host.Outcome State Fault Refusal :=
  .next
    (if s.kbs.mode = .active ∧ 64 ≤ s.kbs.idleTimer ∧ s.swc.platform.asleep = false
        ∧ s.swc.platform.down = false then
      s.setKbs s.kbs.toIdle
    else s)

/-- A row is found pulled low in IDLE_DETECT (R120, R129). -/
def execRowDetected (s : State) : Host.Outcome State Fault Refusal :=
  .next
    (if s.kbs.mode = .idleDetect then
      s.setKbs { s.kbs with mode := .active, idleTimer := 0, burst := s.swc.platform.asleep }
    else s)

/-- A REPEAT of a key, unless the key is not DOWN or the queue holds 24 entries (R125, R126). -/
def handRepeat (k : Nat) (s : State) : State :=
  if (s.kbs.keys.getD k .released).state = .down ∧ s.kbs.queue.length < 24 then
    queueKey { key := some k, kind := .again, synthetic := false, time := s.time } s
  else s

/-- The typematic delay or period has run (R126). -/
def execTypematicExpiry (s : State) : Host.Outcome State Fault Refusal :=
  .next
    (match s.kbs.typematic with
      | some t =>
        if t.left = 0 then
          handRepeat t.key
            (s.setKbs { s.kbs with typematic := some { t with repeating := true, left := s.kbs.settings.period } })
        else s
      | none => s)

end Sys2Proof.Machine
end

