-- ==== Sys2Proof/Machine/Thermal.lean ====
section
/-! DEFINITION. The commands of the Thermal Controller: its six requests, conversions and ages, the
expiry of holds, tachometers and stalls (08). -/

namespace Sys2Proof.Machine

/-! ## READ THERMAL (R149) -/

/-- The age of an input's latest reading, or none with no reading. -/
def Input.age (i : Input) (now : Time) : Option Nat := i.time.map now.age

/-- An input: value, valid flag, time, age and warning mark, armed or fired. -/
def inputBytes (now : Time) (i : Input) : List Byte :=
  s16 i.value ++ flag8 i.valid ++ optTime i.time ++ optU 4 (i.age now) ++ u8 i.fired.toNat

/-- A fan record (08 section 8.1). -/
def fanBytes (r : FanRec) : List Byte :=
  optS 2 r.governing ++ optS 2 r.curveInput ++ u8 r.curveDuty ++ u8 r.duty ++ u8 r.origin.num ++ u16 r.speed
    ++ optTime r.lastPulse ++ u16 r.stallTimer ++ setClear r.stalled

/-- The content of READ THERMAL with STATUS (R149). -/
def thermalContent (s : State) : List Byte :=
  let i := s.thc.inputs
  inputBytes s.time i.ts0 ++ u8 i.ts0.tripRun ++ inputBytes s.time i.ts1 ++ u8 i.ts1.tripRun
    ++ inputBytes s.time i.die ++ u8 i.die.tripRun ++ inputBytes s.time i.hostrep ++ fanBytes s.thc.fan0
    ++ fanBytes s.thc.fan1 ++ u8 s.tabletSet.toNat ++ u8 s.thc.holds.length ++ u8 s.thc.derate.num
    ++ s16 s.thc.floor ++ s16 s.thc.trip ++ u8 (s.job .thermal).state.num

/-- The points of a curve. -/
def curveBytes (c : List CurvePoint) : List Byte := (c.map fun p => s16 p.temp ++ u8 p.duty).flatten

/-- The content of READ THERMAL with CURVES (R149). -/
def curvesContent (t : Thc) : List Byte :=
  curveBytes t.curves.fan0Normal ++ curveBytes t.curves.fan0Tablet ++ curveBytes t.curves.fan1Normal
    ++ curveBytes t.curves.fan1Tablet ++ s16 t.floor ++ s16 t.trip

/-- READ THERMAL (R149). -/
def answerReadThermal (choice : Byte) (s : State) : Reply × State :=
  match choice.toNat with
  | 0 => answer .ok (thermalContent s) s
  | 1 => answer .ok (curvesContent s.thc) s
  | _ => refuse .badValue s

def execReadThermal (h : ReqHead) (choice : Byte) (s : State) : Host.Outcome State Fault Refusal :=
  .next (serve 31 h (answerReadThermal choice) s)

/-! ## REPORT TEMPERATURE (R150) -/

/-- REPORT TEMPERATURE (R150). NONE is the most negative value plus one (12 section 12.6). -/
def answerReportTemperature (temp : BitVec 16) (s : State) : Reply × State :=
  if temp.toInt = -32767 then answer .ok [] (dropInput .hostrep s)
  else if -300 ≤ temp.toInt ∧ temp.toInt ≤ 1250 then answer .ok [] (takeReading .hostrep temp.toInt s)
  else refuse .badValue s

def execReportTemperature (h : ReqHead) (temp : BitVec 16) (s : State) : Host.Outcome State Fault Refusal :=
  .next (serve 32 h (answerReportTemperature temp) s)

/-! ## SET FAN CURVE POINT (R151) -/

/-- Replace the curve of a fan in a curve set. -/
def Curves.set (c : Curves) (f : Fan) (tablet : Bool) (l : List CurvePoint) : Curves :=
  match f, tablet with
  | .fan0, false => { c with fan0Normal := l }
  | .fan0, true => { c with fan0Tablet := l }
  | .fan1, false => { c with fan1Normal := l }
  | .fan1, true => { c with fan1Tablet := l }

/-- Whether one point may stand before another (R139). -/
def CurvePoint.before (p q : CurvePoint) : Bool := p.temp < q.temp && p.duty ≤ q.duty

/-- Whether a new point keeps the order with its neighbours on a curve (R151). -/
def fits (l : List CurvePoint) (k : Nat) (p : CurvePoint) : Bool :=
  (k = 0 || (match l[k - 1]? with
    | some q => q.before p
    | none => true))
    && (match l[k + 1]? with
      | some q => p.before q
      | none => true)

/-- A new curve point (R151). -/
def setCurvePoint (fan set point : Byte) (temp : BitVec 16) (duty : Byte) (s : State) : Reply × State :=
  match readEnum [Fan.fan0, .fan1] fan, readEnum [false, true] set with
  | some f, some tablet =>
    let p : CurvePoint := { temp := temp.toInt, duty := duty.toNat }
    let l := s.thc.curves.of tablet f
    if point.toNat ≤ 5 ∧ -300 ≤ temp.toInt ∧ temp.toInt ≤ 1250 ∧ duty.toNat ≤ 100 ∧ fits l point.toNat p then
      answer .ok []
        (deriveFans (s.setThc { s.thc with curves := s.thc.curves.set f tablet (l.set point.toNat p) }))
    else refuse .badValue s
  | _, _ => refuse .badValue s

/-- The trip runs of the inputs that take part in the trip set to 0 (R151). -/
def Inputs.clearRuns (i : Inputs) : Inputs :=
  { i with
    ts0 := { i.ts0 with tripRun := 0 }
    ts1 := { i.ts1 with tripRun := 0 }
    die := { i.die with tripRun := 0 } }

/-- New limits (R151), signed as every temperature is (00, Quantities and units): a new trip temperature sets the trip runs to 0, and a new floor acts at once. -/
def setLimits (floor trip : BitVec 16) (s : State) : Reply × State :=
  match readSigned 400 950 floor, readSigned 800 1050 trip with
  | some f, some t =>
    let fl := f.getD s.thc.floor
    let tr := t.getD s.thc.trip
    if fl + 100 ≤ tr then
      answer .ok []
        (deriveFans
          (s.setThc
            { s.thc with
              floor := fl, trip := tr,
              inputs := if t.isSome then s.thc.inputs.clearRuns else s.thc.inputs }))
    else refuse .badValue s
  | _, _ => refuse .badValue s

/-- SET FAN CURVE POINT (R151). -/
def answerSetFanCurvePoint (what : RawCurve) (s : State) : Reply × State :=
  match what with
  | .point fan set point temp duty => setCurvePoint fan set point temp duty s
  | .limits floor trip => setLimits floor trip s

def execSetFanCurvePoint (h : ReqHead) (what : RawCurve) (s : State) : Host.Outcome State Fault Refusal :=
  .next (serve 33 h (answerSetFanCurvePoint what) s)

/-! ## The Hold Stack (R141, R142) -/

/-- A fan value of a hold: a duty, or CURVE, all ones less one (12 section 12.6). -/
def readHoldValue (b : Byte) : Option (Option Nat) :=
  if b = 0xFE#8 then some none else if b.toNat ≤ 100 then some (some b.toNat) else none

/-- A hold pushed on the stack: the bottom hold of a full stack is removed first, and its owner named
(R141). -/
def pushHold (x : Hold) (s : State) : State :=
  if s.thc.holds.length < 6 then deriveFans (s.setThc { s.thc with holds := x :: s.thc.holds })
  else
    let s1 :=
      match s.thc.holds.getLast? with
      | some lost => raise .fanHoldLost (det [lost.owner.num]) s
      | none => s
    deriveFans (s1.setThc { s1.thc with holds := x :: s1.thc.holds.take 5 })

/-- PUSH HOLD (R141): the reply gives the number of holds after the push, and whether one was lost. -/
def answerPushHold (owner : Channel) (fan0 fan1 : Byte) (expiry : BitVec 16) (s : State) : Reply × State :=
  match readHoldValue fan0, readHoldValue fan1 with
  | some a, some b =>
    let x : Hold :=
      { fan0 := a, fan1 := b, expiry := if expiry = 0 then none else some expiry.toNat, owner := owner,
        pushed := s.time }
    let s1 := pushHold x s
    answer .ok (u8 s1.thc.holds.length ++ flag8 (6 ≤ s.thc.holds.length)) s1
  | _, _ => refuse .badValue s

def execPushHold (h : ReqHead) (fan0 fan1 : Byte) (expiry : BitVec 16) (s : State) :
    Host.Outcome State Fault Refusal :=
  .next (serve 34 h (answerPushHold h.chan fan0 fan1 expiry) s)

/-- The milliseconds left to a hold's expiry time, or none. -/
def Hold.left (x : Hold) (now : Time) : Option Nat := x.expiry.map fun e => e * 1000 - now.age x.pushed

/-- A hold as READ HOLDS lists it (R142). -/
def holdBytes (now : Time) (x : Hold) : List Byte :=
  u8 x.owner.num ++ u8 (x.fan0.getD 0xFE) ++ u8 (x.fan1.getD 0xFE) ++ time32 x.pushed ++ optU 4 (x.left now)

/-- POP HOLD (R142). -/
def answerPopHold (s : State) : Reply × State :=
  match s.thc.holds with
  | [] => refuse .empty s
  | x :: rest => answer .ok (holdBytes s.time x) (deriveFans (s.setThc { s.thc with holds := rest }))

def execPopHold (h : ReqHead) (s : State) : Host.Outcome State Fault Refusal :=
  .next (serve 35 h answerPopHold s)

/-- READ HOLDS (R142): the holds top first, after their number in one byte (log entry 5). -/
def answerReadHolds (s : State) : Reply × State :=
  answer .ok (u8 s.thc.holds.length ++ (s.thc.holds.map (holdBytes s.time)).flatten) s

def execReadHolds (h : ReqHead) (s : State) : Host.Outcome State Fault Refusal :=
  .next (serve 36 h answerReadHolds s)

/-- Whether a hold's expiry time is reached. -/
def Hold.expired (x : Hold) (now : Time) : Bool := x.left now = some 0

/-- A hold reaches its expiry time and is removed wherever it stands, with no event (R142). -/
def execHoldExpired (s : State) : Host.Outcome State Fault Refusal :=
  .next
    (if s.thc.holds.any (·.expired s.time) then
      deriveFans (s.setThc { s.thc with holds := s.thc.holds.filter (fun x => !x.expired s.time) })
    else s)

/-! ## Inputs (R137) -/

/-- THC converts its own temperature (R137). -/
def execDieConversion (tenths : Int) (s : State) : Host.Outcome State Fault Refusal :=
  .next (takeReading .die tenths s)

/-- The age an input's reading may reach (R137). -/
def ageLimit (slow : Bool) : ThermalInput → Nat
  | .hostrep => 5000
  | _ => if slow then 15000 else 3000

/-- Whether an input has lost its validity by age (R137): not in the 3,000 ms after SLEEP or OFF was
left, but for HOSTREP. -/
def State.aged (s : State) (i : ThermalInput) : Bool :=
  (s.input i).valid && (i = .hostrep || s.thc.grace = 0)
    && (match (s.input i).age s.time with
      | some a => ageLimit s.swc.platform.slow i < a
      | none => false)

/-- An input's reading ages past its limit (R137). -/
def execInputAgeExpired (input : ThermalInput) (s : State) : Host.Outcome State Fault Refusal :=
  .next (if s.aged input then dropInput input s else s)

/-! ## Tachometers and stall (R143, R144) -/

/-- A fan at a new speed, its stall timer and flag following while the THERMAL job is RUN (R144). -/
def State.withSpeed (s : State) (r : FanRec) (rpm : Nat) : FanRec :=
  if s.running .thermal then { r with speed := rpm }.settleStall else { r with speed := rpm }

/-- A tachometer pulse (R143). `intervalUs` is the time since the last accepted pulse, in microseconds. -/
def execTachPulse (fan : Fan) (intervalUs : Nat) (s : State) : Host.Outcome State Fault Refusal :=
  .next
    (let r := s.fan fan
     match r.lastPulse with
     | none => s.setFan fan { r with lastPulse := some s.time }
     | some _ =>
       if intervalUs < 1000 then s
       else s.setFan fan (s.withSpeed { r with lastPulse := some s.time } (30000000 / intervalUs)))

/-- 200 ms have passed with no accepted pulse (R143). -/
def execTachTimeout (fan : Fan) (s : State) : Host.Outcome State Fault Refusal :=
  .next
    (let r := s.fan fan
     match r.lastPulse with
     | none => s
     | some t => if 200 ≤ s.time.age t then s.setFan fan (s.withSpeed { r with lastPulse := none } 0) else s)

/-- Whether a fan's stall timer runs (R144). -/
def FanRec.slowing (r : FanRec) : Bool := 20 ≤ r.duty && r.speed < 300

/-- The stall timer reaches 3,000 ms with the stall flag clear (R144). -/
def execStallTimerExpired (fan : Fan) (s : State) : Host.Outcome State Fault Refusal :=
  .next
    (let r := s.fan fan
     if s.running .thermal ∧ r.slowing ∧ 3000 ≤ r.stallTimer ∧ r.stalled = false then
       raiseFault .fanStall (det [fan.num]) (s.setFan fan { r with stalled := true })
     else s)

end Sys2Proof.Machine
end

