-- ==== Sys2Proof/Machine/Platform.lean ====
section
/-! DEFINITION. The commands of the Sleep and Wake Controller: its five requests, the settle, rail and
power-good events, the power button, and the grace and wake timers (09). -/

namespace Sys2Proof.Machine

/-! ## Requests (R155, R163, R166, R167) -/

/-- The settle starts towards SLEEP or OFF, and the fired set is emptied (R155, R161). -/
def startSettle (p : Platform) (s : State) : State :=
  setPlatform p (s.setSwc { s.swc with settle := some 100, fired := .empty })

/-- ENTER STATE (R155): SLEEP is 0 and OFF is 1, by R155's own list (log entry 5). -/
def answerEnterState (target : Byte) (s : State) : Reply × State :=
  match readEnum [Platform.enteringSleep, .shuttingDown] target with
  | none => refuse .badValue s
  | some p => if s.swc.platform = .on then answer .accepted [] (startSettle p s) else refuse .notNow s

def execEnterState (h : ReqHead) (target : Byte) (s : State) : Host.Outcome State Fault Refusal :=
  .next (serve 37 h (answerEnterState target) s)

/-- A mask that may be given as unchanged (log entry 5). -/
def readMask (b : Byte) : Option (Option WakeSet) :=
  if b = 0xFF#8 then some none else (WakeSet.ofByte b).map some

/-- The rules a new set of wake settings keeps (R167). -/
def WakeSettings.sound (w : WakeSettings) : Bool :=
  !w.offMask.key && !w.offMask.lidOpen && w.shutdown ≤ w.critical && w.critical ≤ w.low

/-- SET WAKE (R167). -/
def answerSetWake (sleepMask offMask low critical shutdown autoOn : Byte) (s : State) : Reply × State :=
  match readMask sleepMask, readMask offMask, readRange 0 50 low, readRange 0 50 critical,
    readRange 0 50 shutdown, readKeep [true, false] autoOn with
  | some sm, some om, some lo, some cr, some sh, some au =>
    let w := s.swc.settings
    let n : WakeSettings :=
      { sleepMask := sm.getD w.sleepMask, offMask := om.getD w.offMask, low := lo.getD w.low,
        critical := cr.getD w.critical, shutdown := sh.getD w.shutdown, autoOn := au.getD w.autoOn }
    if n.sound then answer .ok [] (s.setSwc { s.swc with settings := n }) else refuse .badValue s
  | _, _, _, _, _, _ => refuse .badValue s

def execSetWake (h : ReqHead) (sleepMask offMask low critical shutdown autoOn : Byte) (s : State) :
    Host.Outcome State Fault Refusal :=
  .next (serve 38 h (answerSetWake sleepMask offMask low critical shutdown autoOn) s)

/-- SET WAKE TIMER (R166). The time left is kept in milliseconds. -/
def answerSetWakeTimer (seconds : BitVec 32) (s : State) : Reply × State :=
  if seconds = 0 then answer .ok [] (s.setSwc { s.swc with wakeTimer := none })
  else if seconds.toNat ≤ 86400 then
    answer .ok [] (s.setSwc { s.swc with wakeTimer := some (seconds.toNat * 1000) })
  else refuse .badValue s

def execSetWakeTimer (h : ReqHead) (seconds : BitVec 32) (s : State) : Host.Outcome State Fault Refusal :=
  .next (serve 39 h (answerSetWakeTimer seconds) s)

/-- The time left on the settle timer or the power-good timer, 0 when neither runs. -/
def Swc.waitLeft (w : Swc) : Nat := (w.settle.or w.powerGood).getD 0

/-- The time left on the wake timer in seconds, a part of a second counted whole (log entry 12). -/
def Swc.wakeLeft (w : Swc) : Nat := (w.wakeTimer.getD 0 + 999) / 1000

/-- The content of READ WAKE (R167); the combined relative charge takes four bytes, with no cap (log entry 5). -/
def wakeContent (s : State) : List Byte :=
  let w := s.swc
  u8 w.platform.num ++ flag8 w.railSlp ++ flag8 w.railMain ++ flag8 w.mainPg ++ u8 w.waitLeft
    ++ optU 1 (w.primary.map WakeSource.num) ++ u8 w.fired.byte ++ optTime w.wakeTime ++ u8 w.lastOff.num
    ++ u8 w.settings.sleepMask.byte ++ u8 w.settings.offMask.byte ++ yesNo w.settings.autoOn
    ++ flag8 w.debounced ++ u16 (min 4000 (w.pressTime.getD 0)) ++ u8 w.presses ++ u8 w.settings.low
    ++ u8 w.settings.critical ++ u8 w.settings.shutdown ++ optU 4 s.combined ++ u8 w.band.num
    ++ orZero 2 w.grace ++ u32 w.wakeLeft

/-- READ WAKE (R167). -/
def answerReadWake (s : State) : Reply × State := answer .ok (wakeContent s) s

def execReadWake (h : ReqHead) (s : State) : Host.Outcome State Fault Refusal :=
  .next (serve 40 h answerReadWake s)

/-- The press count takes a value, and BUTTON_PRESS_PENDING follows it (R163). -/
def setPresses (n : Nat) (s : State) : State :=
  setLevel .buttonPressPending (0 < n) (s.setSwc { s.swc with presses := n })

/-- TAKE PRESS (R163). -/
def answerTakePress (s : State) : Reply × State :=
  if s.swc.presses = 0 then refuse .empty s
  else answer .ok (u8 (s.swc.presses - 1)) (setPresses (s.swc.presses - 1) s)

def execTakePress (h : ReqHead) (s : State) : Host.Outcome State Fault Refusal :=
  .next (serve 41 h answerTakePress s)

/-! ## Settle, rails and power-good (R156 to R158) -/

/-- The sleep settle ends (R156, R165). -/
def fallAsleep (s : State) : State :=
  let s1 := setPlatform .sleep (s.setSwc { s.swc with railMain := false, settle := none })
  if s1.swc.grace.isSome then forcedOff .batteryShutdown s1 else s1

/-- The settle timer expires (R156). -/
def execSettleTimerExpired (s : State) : Host.Outcome State Fault Refusal :=
  .next
    (if s.swc.settle = some 0 then
      match s.swc.platform with
      | .enteringSleep => fallAsleep s
      | .shuttingDown => goOff .request s
      | _ => s
    else s)

/-- RAIL_MAIN_EN is due 10 ms into POWERING_UP (R157). -/
def execMainRailDelayExpired (s : State) : Host.Outcome State Fault Refusal :=
  .next
    (if s.swc.platform = .poweringUp ∧ s.swc.mainDelay = some 0 then
      if s.pth.path = .noSource then s.setSwc { s.swc with mainDelay := none, mainWaits := true }
      else startPowerGood s
    else s)

/-- MAIN_PG is asserted (R157). -/
def execMainPgAsserted (s : State) : Host.Outcome State Fault Refusal :=
  .next
    (let s1 := s.setSwc { s.swc with mainPg := true }
     if (s.swc.platform = .waking ∨ s.swc.platform = .poweringUp) ∧ s.swc.powerGood.isSome then reachOn s1 else s1)

/-- RAIL_FAIL's detail: WAKING 0, POWERING_UP 1, LOST 2 (09 section 9.9). -/
def railDetail (p : Platform) : Nat := if p = .waking then 0 else if p = .poweringUp then 1 else 2

/-- The power-good timer expires with MAIN_PG deasserted (R157). -/
def execPowerGoodTimeout (s : State) : Host.Outcome State Fault Refusal :=
  .next
    (if (s.swc.platform = .waking ∨ s.swc.platform = .poweringUp) ∧ s.swc.powerGood = some 0
        ∧ s.swc.mainPg = false then
      goOff .railFail (raiseFault .railFail (det [railDetail s.swc.platform]) s)
    else s)

/-- MAIN_PG is deasserted (R158): watched in ON and ENTERING_SLEEP only. RAIL_FAIL is recorded before the forced
OFF (log entry 4). -/
def execMainPgLost (s : State) : Host.Outcome State Fault Refusal :=
  .next
    (let s1 := s.setSwc { s.swc with mainPg := false }
     if s.swc.platform = .on ∨ s.swc.platform = .enteringSleep then
       forcedOff .railFail (raiseFault .railFail (det [railDetail s.swc.platform]) s1)
     else s1)

/-! ## The power button (R162, R163) -/

/-- PWRBTN_N changes its level (R162). -/
def execPowerButtonChange (asserted : Bool) (s : State) : Host.Outcome State Fault Refusal :=
  .next
    (let count := if asserted = s.swc.debounced then none else some (s.swc.count.getD 0)
     s.setSwc { s.swc with button := asserted, count := count })

/-- A debounced press (R162, R163): counted in ON, timed in any state but OFF, and a wake source. -/
def pressButton (s : State) : State :=
  let s1 := if s.swc.platform = .on then setPresses (min 15 (s.swc.presses + 1)) s else s
  let s2 := if s1.swc.platform = .off then s1 else s1.setSwc { s1.swc with pressTime := some 0 }
  wake .powerButton s2

/-- PWRBTN_N has kept a new level for 30 ms (R162). A long-press time stopped by the release reads 0 afterwards
(log entry 12). -/
def execPowerButtonDebounced (s : State) : Host.Outcome State Fault Refusal :=
  .next
    (if s.swc.count = some 30 then
      let s1 := s.setSwc { s.swc with debounced := s.swc.button, count := none, pressTime := none }
      if s.swc.button then pressButton s1 else s1
    else s)

/-- The long-press time reaches 4,000 ms (R162). It does so once in a press: the count stands past it
afterwards and reads as 4,000. -/
def execLongPress (s : State) : Host.Outcome State Fault Refusal :=
  .next
    (if s.swc.pressTime = some 4000 then
      forcedOff .longPress (s.setSwc { s.swc with pressTime := some 4001 })
    else s)

/-! ## Grace and wake timers (R165, R166) -/

/-- The grace timer expires (R165). -/
def execGraceTimerExpired (s : State) : Host.Outcome State Fault Refusal :=
  .next
    (if s.swc.grace = some 0 then forcedOff .batteryShutdown (s.setSwc { s.swc with grace := none }) else s)

/-- The wake timer reaches 0, disarms and fires TIMER (R166). -/
def execWakeTimerExpired (s : State) : Host.Outcome State Fault Refusal :=
  .next (if s.swc.wakeTimer = some 0 then wake .timer (s.setSwc { s.swc with wakeTimer := none }) else s)

end Sys2Proof.Machine
end

