-- ==== Sys2Proof/Machine/Faults.lean ====
section
/-! DEFINITION. The five requests of the Fault Supervisor (10). -/

namespace Sys2Proof.Machine

/-! ## FETCH FAULT (R178) -/

/-- A destination or a cause of a job record, or none. -/
def jobBytes (r : JobRec) : List Byte :=
  u8 r.state.num ++ optU 1 (r.dest.map Destination.num) ++ optU 1 (r.cause.map Cause.num) ++ time32 r.since
    ++ u8 r.recovery.num

/-- The five job records. -/
def jobsBytes (s : State) : List Byte :=
  jobBytes (s.job .power) ++ jobBytes (s.job .link) ++ jobBytes (s.job .hinge) ++ jobBytes (s.job .keys)
    ++ jobBytes (s.job .thermal)

/-- A fault code in a reply: the codes are numbered from 0 in the order of section 10.2 (log entry 5). -/
def codeByte (c : FaultCode) : List Byte := u8 (c.num - 1)

/-- The count, the times and the detail of a record. -/
def faultBytes (r : FaultRec) : List Byte := u8 r.count ++ optTime r.first ++ optTime r.last ++ Detail.bytes r.detail

/-- The ACTIVE record of lowest precedence number (R178). -/
def State.firstActive (s : State) : Option FaultCode :=
  FaultCode.all.find? fun c => decide ((s.faultRec c).state = .active)

/-- The number of ACTIVE records. -/
def State.activeCount (s : State) : Nat := s.fsu.table.countP (·.state = .active)

/-- A record in a new state, and the condition of FAULT_ACTIVE after it (R170, R178, R179). -/
def markFault (c : FaultCode) (st : FaultState) (s : State) : State :=
  let s1 := s.setFaultRec c { s.faultRec c with state := st }
  setLevel .faultActive s1.anyActive s1

/-- FETCH FAULT (R178): both replies give the five job records. -/
def answerFetchFault (s : State) : Reply × State :=
  match s.firstActive with
  | none => answer .empty (jobsBytes s) s
  | some c =>
    let s1 := markFault c .reported s
    answer .ok
      (codeByte c ++ u8 c.job.num ++ faultBytes (s.faultRec c) ++ u8 s1.activeCount ++ jobsBytes s) s1

def execFetchFault (h : ReqHead) (s : State) : Host.Outcome State Fault Refusal :=
  .next (serve 42 h answerFetchFault s)

/-! ## CLEAR FAULT (R179) -/

/-- What the owner of the state a fault left behind does at the clear (R179); of two packs, pack A's identity read is
asked for first (log entry 4). -/
def clearOwner (c : FaultCode) (s : State) : State :=
  match c with
  | .packSilent => kick (unfault .B (unfault .A s))
  | .chargeTimeout => clearChargeFault .chargeTimeout s
  | .prechargeTimeout => clearChargeFault .prechargeTimeout s
  | _ => s

/-- CLEAR FAULT (R179): the record as it stands after the clear. -/
def answerClearFault (code : Byte) (s : State) : Reply × State :=
  match readEnum FaultCode.all code with
  | none => refuse .badValue s
  | some c =>
    let s1 := markFault c .cleared s
    answer .ok (u8 FaultState.cleared.num ++ faultBytes (s1.faultRec c)) (clearOwner c s1)

def execClearFault (h : ReqHead) (code : Byte) (s : State) : Host.Outcome State Fault Refusal :=
  .next (serve 43 h (answerClearFault code) s)

/-! ## RESTART JOB and HALT JOB (R174 to R176) -/

/-- A record of a code of a job is ACTIVE or REPORTED (R174). -/
def State.uncleared (s : State) (j : Job) : Bool :=
  FaultCode.all.any fun c => decide (c.job = j) && decide ((s.faultRec c).state ≠ .cleared)

/-- The job returns to RUN (R175). -/
def restart (j : Job) (fromOff : Bool) (s : State) : Reply × State :=
  answer .ok (u8 JobState.run.num) (tellRun j fromOff (enterRun j s))

/-- RESTART JOB (R174). -/
def answerRestartJob (job : Byte) (s : State) : Reply × State :=
  match readJob job with
  | none => refuse .badValue s
  | some j =>
    match (s.job j).state with
    | .run => refuse .notNow s
    | .quiescing => refuse .busy s
    | .halted => if s.uncleared j then refuse .faultActive s else restart j false s
    | .off => if s.uncleared j then refuse .faultActive s else restart j true s

def execRestartJob (h : ReqHead) (job : Byte) (s : State) : Host.Outcome State Fault Refusal :=
  .next (serve 44 h (answerRestartJob job) s)

/-- HALT JOB (R176). -/
def answerHaltJob (job dest : Byte) (s : State) : Reply × State :=
  match readJob job, readEnum [Destination.halted, .off] dest with
  | some j, some d =>
    match (s.job j).state, d with
    | .run, _ => answer .accepted [] (tellQuiesce j (enterQuiescing j d .request s))
    | .quiescing, _ => refuse .busy s
    | .halted, .off => answer .ok [] (haltedToOff j .request s)
    | .halted, .halted => refuse .notNow s
    | .off, _ => refuse .notNow s
  | _, _ => refuse .badValue s

def execHaltJob (h : ReqHead) (job dest : Byte) (s : State) : Host.Outcome State Fault Refusal :=
  .next (serve 45 h (answerHaltJob job dest) s)

/-! ## SET RECOVERY (R177) -/

/-- A recovery that may be given as unchanged. -/
def readRecovery (b : Byte) : Option (Option Recovery) := readKeep [Recovery.halt, .stop] b

/-- The recovery of a job, replaced where one is given (R177). -/
def setRecovery (j : Job) (r : Option Recovery) (s : State) : State :=
  s.setJob j { s.job j with recovery := r.getD (s.job j).recovery }

/-- SET RECOVERY (R177). -/
def answerSetRecovery (power link hinge keys thermal : Byte) (s : State) : Reply × State :=
  match readRecovery power, readRecovery link, readRecovery hinge, readRecovery keys, readRecovery thermal with
  | some p, some l, some h, some k, some t =>
    answer .ok []
      (setRecovery .thermal t (setRecovery .keys k (setRecovery .hinge h (setRecovery .link l (setRecovery .power p s)))))
  | _, _, _, _, _ => refuse .badValue s

def execSetRecovery (h : ReqHead) (power link hinge keys thermal : Byte) (s : State) :
    Host.Outcome State Fault Refusal :=
  .next (serve 46 h (answerSetRecovery power link hinge keys thermal) s)

end Sys2Proof.Machine
end

