-- ==== Sys2Proof/Machine/Events.lean ====
section
/-! DEFINITION. The two requests of the Event Router (11). -/

namespace Sys2Proof.Machine

/-! ## FETCH EVENTS (R185) -/

/-- An entry of a pending list: source, count and detail; a LEVEL entry has count 0 and no detail (12
section 12.6). -/
def pendingBytes (p : Pending) : List Byte := u8 p.src.num ++ u8 p.count ++ Detail.bytes p.detail

/-- The list after a fetch: the EDGE entries among those returned are removed (R185). -/
def afterFetch (n : Nat) (l : List Pending) : List Pending :=
  (l.take n).filter (fun p => p.src.level) ++ l.drop n

/-- FETCH EVENTS (R185), on the list of the channel the request came on. -/
def answerFetchEvents (c : Channel) (max : Byte) (s : State) : Reply × State :=
  if 1 ≤ max.toNat ∧ max.toNat ≤ 6 then
    let l := s.list c
    if l = [] then refuse .empty s
    else
      let got := l.take max.toNat
      let after := afterFetch max.toNat l
      answer .ok
        (u8 got.length ++ u8 after.length ++ flag8 (max.toNat < l.length) ++ (got.map pendingBytes).flatten)
        (s.setList c after)
  else refuse .badValue s

def execFetchEvents (h : ReqHead) (max : Byte) (s : State) : Host.Outcome State Fault Refusal :=
  .next (serve 47 h (answerFetchEvents h.chan max) s)

/-! ## SET ROUTE (R186) -/

/-- What a change of route does to a channel's list (R186). -/
def rerouteOn (c : Channel) (e : EvSource) (before after : Route) (s : State) : State :=
  match before.names c, after.names c with
  | true, false => leaveList c e s
  | false, true => if e.level && s.condition e then joinLevel c e s else s
  | _, _ => s

/-- The route of a source is replaced, and both lists follow in the same step (R186). -/
def reroute (e : EvSource) (r : Route) (s : State) : State :=
  let before := s.route e
  let s1 := s.setEvr { s.evr with routes := s.evr.routes.set e.num r }
  rerouteOn .P e before r (rerouteOn .S e before r s1)

/-- SET ROUTE (R186): the reply gives the source with its new route. -/
def answerSetRoute (source route : Byte) (s : State) : Reply × State :=
  match readEnum EvSource.all source, readEnum [Route.none, .S, .P, .both] route with
  | some e, some r =>
    if e.exclusive && r = .both then refuse .exclusive s
    else answer .ok (u8 e.num ++ u8 r.num) (reroute e r s)
  | _, _ => refuse .badValue s

def execSetRoute (h : ReqHead) (source route : Byte) (s : State) : Host.Outcome State Fault Refusal :=
  .next (serve 48 h (answerSetRoute source route) s)

end Sys2Proof.Machine
end

