-- ==== Sys2Proof/Machine/SoftReset.lean ====
section
/-! DEFINITION. The loads of the settings and the store rows, the state at power-on, and the soft reset
of every block (R194, R196, and each chapter's reset rules). -/

namespace Sys2Proof.Machine

/-! ## Loads (R194) -/

/-- A route read from the store: BOTH for an exclusive source is taken as S (R186). -/
def loadRoute (e : EvSource) (r : Route) : Route := if e.exclusive && r = .both then .S else r

/-- The routes of a settings record, one for each source. -/
def loadRoutes (rs : List Route) : List Route := EvSource.all.map fun e => loadRoute e (rs.getD e.num .none)

/-- The settings record as a load finds it: the factory defaults stand for an invalid row 2. -/
def Sts.loaded (t : Sts) : Settings := if t.valid2 then t.row2 else .factory

/-- CHC's settings (R52, R53): both packs outside a session. -/
def Chc.setSettings (c : Chc) (r : Settings) : Chc :=
  { c with a := .initial r.inhibitA, b := .initial r.inhibitB, order := r.order, threshold := r.threshold }

/-- CHC's working copy from the store rows, with the built-in default in the place of an invalid one (R44). -/
def Chc.loadRows (c : Chc) (t : Sts) : Chc :=
  (c.putRow 0 (if t.valid0 then t.row0 else Sys2Proof.Machine.defaultRow 0) (!t.valid0)).putRow 1
    (if t.valid1 then t.row1 else Sys2Proof.Machine.defaultRow 1) (!t.valid1)

/-- FSU's recovery settings. -/
def Fsu.setRecoveries (f : Fsu) (r : Recoveries) : Fsu :=
  { f with
    power := { f.power with recovery := r.power }, link := { f.link with recovery := r.link },
    hinge := { f.hinge with recovery := r.hinge }, keys := { f.keys with recovery := r.keys },
    thermal := { f.thermal with recovery := r.thermal } }

/-- THC's settings: a changed trip temperature sets the trip runs to 0 (R151, R153). -/
def Thc.setSettings (t : Thc) (r : Settings) : Thc :=
  { t with
    curves := r.curves, floor := r.floor, trip := r.trip,
    inputs := if t.trip = r.trip then t.inputs else t.inputs.clearRuns }

/-- Every owner takes its settings from the settings record. -/
def loadSettings (s : State) : State :=
  let r := s.sts.loaded
  { s with
    pth := { s.pth with preference := r.preference, adapter := { s.pth.adapter with hostLimit := r.hostLimit } }
    chc := (s.chc.setSettings r).loadRows s.sts
    bga := { s.bga with dischargeA := r.dischargeA, dischargeB := r.dischargeB }
    plc := { s.plc with devices := loadDevices r.link }
    psm := { s.psm with settings := r.posture }
    kbs := { s.kbs with settings := r.keys }
    thc := s.thc.setSettings r
    swc := { s.swc with settings := r.wake }
    fsu := s.fsu.setRecoveries r.recovery
    evr := { s.evr with routes := loadRoutes r.routes } }

/-- STORE_DONE with ROW_INVALID, 0, and the row for a row found invalid (R44, R194). -/
def reportRow (row : Nat) (valid : Bool) (s : State) : State := if valid then s else raise .storeDone (det [0, row]) s

/-- The three rows both resets read (R194). -/
def reportRows (s : State) : State :=
  reportRow 2 s.sts.valid2 (reportRow 1 s.sts.valid1 (reportRow 0 s.sts.valid0 s))

/-! ## Power-on (R196) -/

/-- The store after the supply was lost: a row that was being programmed is INVALID (R195). -/
def Sts.afterLoss (t : Sts) : Sts :=
  match t.busy with
  | some (.profile row _, _) =>
    if row = 0 then { t with busy := none, valid0 := false } else { t with busy := none, valid1 := false }
  | some (.calibration _, _) => { t with busy := none, valid3 := false }
  | some (.settings _, _) => { t with busy := none, valid2 := false }
  | none => t

/-- HSI's stored-calibration copy (R98): an invalid row 3 gives the stand-in. -/
def Hsi.readRow (h : Hsi) (t : Sts) : Hsi :=
  { h with stored := if t.valid3 then t.row3 else .default, standIn := !t.valid3 }

/-- A pack's presence line at power-on (R23). -/
def Pack.start (line : Bool) : Pack := { Pack.empty line with debounce := if line then some 0 else none }

/-- A hinge switch line at power-on (R117). -/
def SwitchLine.start (level : Bool) : SwitchLine :=
  { level := level, debounced := false, count := if level then some 0 else none }

/-- The adapter's pins at power-on (R23): an input already present starts as ADAPTER_PRESENCE gives. -/
def Adapter.start (a : Adapter) (l : Lines) : Adapter :=
  if 11500 ≤ l.senseMv.toNat then a.arrive l.senseMv.toNat l.idMv.toNat
  else { a with senseMv := l.senseMv.toNat, idMv := l.idMv.toNat }

/-- The blocks read their input lines (R196, R87, R105, R117, R168). -/
def readLines (l : Lines) (s : State) : State :=
  { s with
    pth :=
      { s.pth with
        adapter := s.pth.adapter.start l, packA := .start l.packADet, packB := .start l.packBDet }
    plc := { s.plc with sclHigh := l.sclHigh, sdaHigh := l.sdaHigh }
    psm := { s.psm with lid := .start l.lid, tablet := .start l.tablet }
    swc :=
      { s.swc with button := l.button, count := if l.button then some 0 else none, mainPg := l.mainPg } }

/-- HSI's and PSM's records after the calibration was loaded: PSM holds the angle and validity HSI has. -/
def shareHinge (s : State) : State :=
  { s with psm := { s.psm with angle := s.hsi.reported, validity := s.hsi.validity } }

/-- The part at power-on (R196), with the store and the commands waiting kept. The load of the calibration raises
HINGE_ERROR before any row raises STORE_DONE (log entry 34). -/
def powerOn (l : Lines) (s : State) : State :=
  let s0 : State :=
    { State.reset with
      sts := s.sts.afterLoss, pending := s.pending, plc := { Plc.reset with looks := s.plc.looks } }
  let s1 := readLines l (loadSettings s0)
  let s2 := loadCalibration { s1 with hsi := s1.hsi.readRow s1.sts }
  reportRow 3 s2.sts.valid3 (reportRows (shareHinge s2))

/-! ## Soft reset (R193) -/

/-- HLK at a soft reset (R193); HL_TXD has just fallen free. -/
def Hlk.softReset (h : Hlk) : Hlk :=
  { h with
    rx := .hunting, series := none, queue := [], held := [], wire := none, qfull := none,
    noticeS := none, noticeP := none, resetPending := false }

/-- EVR at a soft reset (R188): every owner's reset leaves its condition false. -/
def Evr.softReset (e : Evr) : Evr :=
  { e with listS := [], listP := [], button := false, keys := false, capture := false, fault := false }

/-- FSU at a soft reset (R181). -/
def Fsu.softReset (f : Fsu) (now : Time) : Fsu :=
  { table := List.replicate 13 .empty, power := .running f.power.recovery now,
    link := .running f.link.recovery now, hinge := .running f.hinge.recovery now,
    keys := .running f.keys.recovery now, thermal := .running f.thermal.recovery now }

/-- SWC at a soft reset (R169). -/
def Swc.softReset (w : Swc) : Swc :=
  { w with presses := 0, wakeTimer := none, grace := none, band := .aboveLow }

/-- HSI at a soft reset (R106). -/
def Hsi.softReset (h : Hsi) : Hsi :=
  { h with captures := [], lost := false, collection := none, persistence := ⟨0, 0, 0, 0⟩ }

/-- PSM at a soft reset (R118), before it derives the band and evaluates. -/
def Psm.softReset (p : Psm) : Psm := { p with candidate := p.current, dwell := none }

/-- KBS at a soft reset (R136), before it derives its mode: from SUPPRESSED, so that the mode is the one
R119 gives with the idle timer at 0. -/
def Kbs.softReset (k : Kbs) : Kbs := { k.cleared with mode := .suppressed, queue := [], overflow := false }

/-- A fan at a soft reset (R153): its curve input starts afresh from the governing temperature. -/
def FanRec.softReset (r : FanRec) : FanRec := { r with curveInput := none, stallTimer := 0, stalled := false }

/-- THC at a soft reset (R153), before it derives duties and derate. -/
def Thc.softReset (t : Thc) : Thc :=
  { t with
    holds := [], inputs := { t.inputs with hostrep := { t.inputs.hostrep with valid := false } },
    fan0 := t.fan0.softReset, fan1 := t.fan1.softReset }

/-- BGA at a soft reset (R67). The mode, the power fields and, with them, the reference pack and voltage are kept
(log entry 28). -/
def Bga.softReset (b : Bga) : Bga := { b.released with computed := 0, applied := 0, cutLeft := none }

/-- CHC at a soft reset (R53); its settings and rows are loaded beside it. -/
def Chc.softReset (c : Chc) : Chc :=
  { c.closeRow with
    inForce := none, inFlight := none, flightVoid := false, next := none, chgEn := false,
    deadline := none, caught := none }

/-- The identity read in progress at a soft reset, and whether its transaction has been started (R24, R88). -/
def Plc.identityWork (k : Plc) : Option (PackId × Bool) :=
  match k.work with
  | some (.identity p) => some (p, k.packSlot.isNone && k.link ≠ .recovery false)
  | _ => none

/-- The identity reads PLC keeps through a soft reset (R88). -/
def Plc.keptAsked (k : Plc) : List PackId :=
  match k.identityWork with
  | some (p, false) => p :: k.asked
  | _ => k.asked

/-- PLC at a soft reset (R88), before the reads fall due: the transaction on the wire is let end, and its
outcome will be discarded. -/
def Plc.softReset (k : Plc) : Plc :=
  { k.restart with asked := k.keptAsked, result := none, discard := k.wire.isSome }

/-- A pack record at a soft reset (R24): a discarded identity attempt is followed by a new one 100 ms
later. -/
def Pack.softReset (r : Pack) (discarded : Bool) : Pack :=
  if discarded && r.presence = .detected then { r with retryWait := some 100 } else r

/-- Pack B's record leaves an eject at a soft reset (R24). -/
def Pack.endEject (r : Pack) : Pack :=
  if r.presence = .ejectPending ∨ r.presence = .ejectReady then { r with presence := .present } else r

/-- PTH at a soft reset (R24), with the identity attempt PLC discards. -/
def Pth.softReset (p : Pth) (discarded : Option PackId) : Pth :=
  { p with
    packA := p.packA.softReset (discarded = some .A),
    packB := (p.packB.softReset (discarded = some .B)).endEject, ejectOk := false, ejectWindow := none }

/-- The pack whose identity attempt is discarded. -/
def Plc.discardedIdentity (k : Plc) : Option PackId :=
  match k.identityWork with
  | some (p, true) => some p
  | _ => none

/-- Every block at its soft-reset state, with no event (R193). -/
def resetBlocks (s : State) : State :=
  { s with
    pth := s.pth.softReset s.plc.discardedIdentity, chc := s.chc.softReset, bga := s.bga.softReset,
    plc := s.plc.softReset, hsi := s.hsi.softReset, psm := s.psm.softReset, kbs := s.kbs.softReset,
    thc := s.thc.softReset, swc := s.swc.softReset, fsu := s.fsu.softReset s.time,
    evr := s.evr.softReset, hlk := s.hlk.softReset }

/-- What THC, PSM and KBS derive from their soft-reset states (R118, R136, R153). -/
def rederive (s : State) : State :=
  let s1 := deriveFans s
  let s2 := evaluatePosture false (deriveBand true (shareHinge (setDerate s1.derateFresh s1)))
  deriveScanMode s2

/-- What follows the reset (R24, R53, R88): reads fall due, CHC writes the disable setpoint and may start
a session, and PTH runs one selection. -/
def resumeWork (s : State) : State :=
  let s1 := settleCharge true s (allDue s)
  select false (refreshPack .B s1 s1)

/-- The soft reset (R193). -/
def softReset (s : State) : State := resumeWork (rederive (reportRows (loadSettings (resetBlocks s))))

end Sys2Proof.Machine
end

