-- ==== Sys2Proof/Machine/HostLink.lean ====
section
/-! DEFINITION. The commands of the Host Link and the Settings Store: power-on, the receiver and its
requests, the transmitter and the soft reset, and the four requests of chapter 12. -/

namespace Sys2Proof.Machine

/-! ## Power-on -/

/-- Power-on (R196). -/
def execPowerOn (lines : Lines) (s : State) : Host.Outcome State Fault Refusal := .next (powerOn lines s)

/-! ## IDENTIFY, READ STORE STATUS, RESET PART, SAVE SETTINGS (R193 to R195) -/

/-- The row and the operation of a programming (R194). -/
def StoreOp.row : StoreOp → Nat
  | .profile row _ => row
  | .settings _ => 2
  | .calibration _ => 3

def StoreOp.num : StoreOp → Nat
  | .profile _ _ => 0
  | .calibration _ => 1
  | .settings _ => 2

/-- The store status: IDLE, or BUSY with the row, the operation and the time left (R194). -/
def storeBytes (t : Sts) : List Byte :=
  u8 (if t.busy.isSome then 1 else 0) ++ optU 1 (t.busy.map (·.1.row)) ++ optU 1 (t.busy.map (·.1.num))
    ++ optU 1 (t.busy.map (·.2))

/-- The validity flag of a row: VALID or INVALID. -/
def validByte (v : Bool) : List Byte := u8 (if v then 0 else 1)

/-- IDENTIFY (R193): vendor 0xE5, part 4210, revision 1.3 and the store status. -/
def answerIdentify (s : State) : Reply × State :=
  answer .ok (u8 0xE5 ++ u16 4210 ++ u8 1 ++ u8 3 ++ storeBytes s.sts) s

def execIdentify (h : ReqHead) (s : State) : Host.Outcome State Fault Refusal :=
  .next (serve 49 h answerIdentify s)

/-- RESET PART (R193). -/
def answerResetPart (s : State) : Reply × State :=
  if s.storeBusy then refuse .busy s
  else answer .ok [] (s.setHlk { s.hlk with resetPending := true })

def execResetPart (h : ReqHead) (s : State) : Host.Outcome State Fault Refusal :=
  .next (serve 50 h answerResetPart s)

/-- READ STORE STATUS (R194). -/
def answerReadStoreStatus (s : State) : Reply × State :=
  answer .ok
    (storeBytes s.sts ++ validByte s.sts.valid0 ++ validByte s.sts.valid1 ++ validByte s.sts.valid2
      ++ validByte s.sts.valid3) s

def execReadStoreStatus (h : ReqHead) (s : State) : Host.Outcome State Fault Refusal :=
  .next (serve 51 h answerReadStoreStatus s)

/-- The settings record gathered from the owners (R195, 12 section 12.3). -/
def State.gather (s : State) : Settings :=
  { preference := s.pth.preference, hostLimit := s.adapter.hostLimit, order := s.chc.order,
    inhibitA := s.chc.a.inhibit, inhibitB := s.chc.b.inhibit, threshold := s.chc.threshold,
    dischargeA := s.bga.dischargeA, dischargeB := s.bga.dischargeB, wake := s.swc.settings,
    routes := s.evr.routes,
    recovery :=
      { power := s.fsu.power.recovery, link := s.fsu.link.recovery, hinge := s.fsu.hinge.recovery,
        keys := s.fsu.keys.recovery, thermal := s.fsu.thermal.recovery }
    posture := s.psm.settings, keys := s.kbs.settings, curves := s.thc.curves, floor := s.thc.floor,
    trip := s.thc.trip, link := s.plc.devices.map (·.policy) }

/-- SAVE SETTINGS (R195). -/
def answerSaveSettings (s : State) : Reply × State :=
  if s.storeBusy then refuse .busy s
  else answer .accepted [] (s.setSts { s.sts with busy := some (.settings s.gather, 6) })

def execSaveSettings (h : ReqHead) (s : State) : Host.Outcome State Fault Refusal :=
  .next (serve 52 h answerSaveSettings s)

/-- Row 2 has been programmed (R195). -/
def execSettingsSaveComplete (s : State) : Host.Outcome State Fault Refusal :=
  .next
    (match s.sts.busy with
      | some (.settings r, 0) =>
        storeDone 2 (s.setSts { s.sts with busy := none, row2 := r, valid2 := true })
      | _ => s)

/-! ## Fields of a request (R191, 12 section 12.6) -/

/-- What a block does with a request it is handed. -/
abbrev Owner := State → Reply × State

/-- Fields too few or too many. -/
def badFields : Owner := refuse .badValue

/-- A word of two bytes, least significant byte first. -/
def word (lo hi : Byte) : BitVec 16 := hi ++ lo

/-- A word of four bytes, least significant byte first. -/
def dword (a b c d : Byte) : BitVec 32 := d ++ c ++ b ++ a

/-- A request with no fields. -/
def fields0 (o : Owner) : List Byte → Owner
  | [] => o
  | _ => badFields

/-- A request with one byte. -/
def fields1 (o : Byte → Owner) : List Byte → Owner
  | [a] => o a
  | _ => badFields

/-- A request with two bytes. -/
def fields2 (o : Byte → Byte → Owner) : List Byte → Owner
  | [a, b] => o a b
  | _ => badFields

/-- A request with four bytes. -/
def fields4 (o : Byte → Byte → Byte → Byte → Owner) : List Byte → Owner
  | [a, b, c, d] => o a b c d
  | _ => badFields

/-- The fields of STAGE PROFILE ENTRY. -/
def fieldsStage : List Byte → Owner
  | [slot, v, ch, l0, l1, h0, h1, c0, c1, m0, m1, u, p0, p1, q0, q1, t0, t1, pm, f0, f1] =>
    answerStageProfileEntry slot
      { valid := v, chemistry := ch, bandLow := word l0 l1, bandHigh := word h0 h1, cellMv := word c0 c1,
        maxMa := word m0 m1, useRequest := u, preCellMv := word p0 p1, preMa := word q0 q1,
        taperMa := word t0 t1, preMin := pm, fastMin := word f0 f1 }
  | _ => badFields

/-- The fields of SET LINK DEVICE: three more for a definable entry. -/
def fieldsDevice : List Byte → Owner
  | [e, sl, ab, rl, hl] => answerSetLinkDevice e sl ab rl hl none
  | [e, sl, ab, rl, hl, df, ad, ck] => answerSetLinkDevice e sl ab rl hl (some ⟨df, ad, ck⟩)
  | _ => badFields

/-- The fields of LINK TRANSFER: the data of a write follow. -/
def fieldsTransfer : List Byte → Owner
  | e :: d :: c :: l :: data => answerLinkTransfer e d c l data
  | _ => badFields

/-- The fields of SET HINGE MONITOR. -/
def fieldsMonitor : List Byte → Owner
  | [a, b, c, d, e, f, g, h, i, j, k, l, hy, n0, n1] =>
    answerSetHingeMonitor ⟨a, b⟩ ⟨c, d⟩ ⟨e, f⟩ ⟨g, h⟩ ⟨i, j⟩ ⟨k, l⟩ hy (word n0 n1)
  | _ => badFields

/-- The fields of SET POSTURE THRESHOLDS. -/
def fieldsThresholds : List Byte → Owner
  | [a, b, c, d, e, f, g, h, i, j] =>
    answerSetPostureThresholds (word a b) (word c d) (word e f) (word g h) (word i j)
  | _ => badFields

/-- The fields of SET KEYBOARD: the map is given whole or not at all (R134). -/
def fieldsKeyboard : List Byte → Owner
  | p :: r :: d0 :: d1 :: t0 :: t1 :: w :: map =>
    if map = [] then answerSetKeyboard p r (word d0 d1) (word t0 t1) w none
    else if map.length = 144 then answerSetKeyboard p r (word d0 d1) (word t0 t1) w (some map)
    else badFields
  | _ => badFields

/-- The fields of SET FAN CURVE POINT: a point or the limits, told apart by their number. -/
def fieldsCurve : List Byte → Owner
  | [f, st, p, t0, t1, d] => answerSetFanCurvePoint (.point f st p (word t0 t1) d)
  | [f0, f1, t0, t1] => answerSetFanCurvePoint (.limits (word f0 f1) (word t0 t1))
  | _ => badFields

/-- The fields of SET WAKE. -/
def fieldsWake : List Byte → Owner
  | [a, b, c, d, e, f] => answerSetWake a b c d e f
  | _ => badFields

/-- The fields of SET RECOVERY. -/
def fieldsRecovery : List Byte → Owner
  | [a, b, c, d, e] => answerSetRecovery a b c d e
  | _ => badFields

/-- The fields of SET DISCHARGE LIMIT. -/
def fieldsDischarge : List Byte → Owner
  | [p, a, b, c, d] => answerSetDischargeLimit p (dword a b c d)
  | _ => badFields

/-- The owners of the requests of chapters 1 to 4 (12 section 12.5). -/
def powerOwner (kind : Nat) (f : List Byte) : Owner :=
  match kind with
  | 1 => fields1 answerReadPack f
  | 2 => fields0 answerReadPath f
  | 3 => fields1 answerSetSourcePreference f
  | 4 => fields4 (fun a b c d => answerSetAdapterLimit (dword a b c d)) f
  | 5 => fields1 answerPrepareEject f
  | 6 => fields0 answerCancelEject f
  | 7 => fields0 answerReadCharge f
  | 8 => fields4 answerSetCharge f
  | 9 => fields1 answerOpenProfileRow f
  | 10 => fieldsStage f
  | 11 => fields0 answerCommitProfile f
  | 12 => fields0 answerCancelProfile f
  | 13 => fields1 answerReadProfileEntry f
  | 14 => fields0 answerReadBudget f
  | 15 => fieldsDischarge f
  | 16 => fieldsDevice f
  | 17 => fieldsTransfer f
  | 18 => fields0 answerLinkResult f
  | 19 => fields1 answerReadLinkStatus f
  | _ => refuse .unknownKind

/-- The owners of the requests of chapters 5 to 8. -/
def bodyOwner (kind : Nat) (c : Channel) (f : List Byte) : Owner :=
  match kind with
  | 20 => fields0 answerReadAngle f
  | 21 => fields0 answerCaptureAngle f
  | 22 => fields0 answerReadCapture f
  | 23 => fieldsMonitor f
  | 24 => fields0 answerClearHingeErrors f
  | 25 => fields0 answerSaveCalibration f
  | 26 => fields0 answerReadPosture f
  | 27 => fieldsThresholds f
  | 28 => fields1 answerFetchKeys f
  | 29 => fields1 answerReadKeyMap f
  | 30 => fieldsKeyboard f
  | 31 => fields1 answerReadThermal f
  | 32 => fields2 (fun a b => answerReportTemperature (word a b)) f
  | 33 => fieldsCurve f
  | 34 => fields4 (fun a b e0 e1 => answerPushHold c a b (word e0 e1)) f
  | 35 => fields0 answerPopHold f
  | 36 => fields0 answerReadHolds f
  | _ => refuse .unknownKind

/-- The owners of the requests of chapters 9 to 12. -/
def systemOwner (kind : Nat) (c : Channel) (f : List Byte) : Owner :=
  match kind with
  | 37 => fields1 answerEnterState f
  | 38 => fieldsWake f
  | 39 => fields4 (fun a b c d => answerSetWakeTimer (dword a b c d)) f
  | 40 => fields0 answerReadWake f
  | 41 => fields0 answerTakePress f
  | 42 => fields0 answerFetchFault f
  | 43 => fields1 answerClearFault f
  | 44 => fields1 answerRestartJob f
  | 45 => fields2 answerHaltJob f
  | 46 => fieldsRecovery f
  | 47 => fields1 (answerFetchEvents c) f
  | 48 => fields2 answerSetRoute f
  | 49 => fields0 answerIdentify f
  | 50 => fields0 answerResetPart f
  | 51 => fields0 answerReadStoreStatus f
  | 52 => fields0 answerSaveSettings f
  | _ => refuse .unknownKind

/-- The number of parts a request's fields need (R190). -/
def neededParts (f : List Byte) : Nat := max 1 ((f.length + 46) / 47)

/-- The owner of a complete request by its kind (12 section 12.5); a part count greater than the fields
need is refused (R191). -/
def ownerOf (kind : Nat) (c : Channel) (parts : Nat) (f : List Byte) : Owner :=
  if 1 ≤ kind ∧ kind ≤ 52 ∧ neededParts f < parts then badFields
  else if kind ≤ 19 then powerOwner kind f
  else if kind ≤ 36 then bodyOwner kind c f
  else systemOwner kind c f

/-! ## The receiver (R189, R190) -/

/-- The channel of a channel-and-kind byte. -/
def ckChannel (ck : Byte) : Channel := if ck.getLsbD 7 then .P else .S

/-- The kind of a channel-and-kind byte. -/
def ckKind (ck : Byte) : Nat := ck.toNat % 128

/-- A complete request (R190, R191). -/
def requestComplete (ck tag : Byte) (parts : Nat) (fields : List Byte) (s : State) : State :=
  serve (ckKind ck) ⟨ckChannel ck, tag⟩ (ownerOf (ckKind ck) (ckChannel ck) parts fields)
    (s.setHlk { s.hlk with series := none })

/-- A later part that follows the series in assembly (R190). -/
def addPart (x : Series) (data : List Byte) (s : State) : State :=
  if x.last + 2 = x.count then requestComplete x.ck x.tag x.count (x.fields ++ data) s
  else s.setHlk { s.hlk with series := some { x with last := x.last + 1, fields := x.fields ++ data } }

/-- Whether a part follows the series in assembly. -/
def Series.follows (x : Series) (ck tag : Byte) (count index : Nat) : Bool :=
  x.ck = ck && x.tag = tag && x.count = count && x.last + 1 = index

/-- The series, if any, is abandoned and the frame discarded. -/
def abandonSeries (s : State) : State := s.setHlk { s.hlk with series := none }

/-- A part of a request, by its count and index (R190). -/
def takePart (ck tag : Byte) (count index : Nat) (data : List Byte) (s : State) : State :=
  if 4 < count ∨ count ≤ index then abandonSeries s
  else if index = 0 then
    if count = 1 then requestComplete ck tag 1 data s
    else s.setHlk { s.hlk with series := some { ck := ck, tag := tag, count := count, last := 0, fields := data } }
  else
    match s.hlk.series with
    | some x => if x.follows ck tag count index then addPart x data s else abandonSeries s
    | none => abandonSeries s

/-- A complete frame goes to part assembly (R190); a payload of length 0 is one part with no fields. -/
def frameComplete (ck tag : Byte) (payload : List Byte) (s : State) : State :=
  match payload with
  | [] => takePart ck tag 1 0 [] s
  | b :: data => takePart ck tag (b.toNat / 16 + 1) (b.toNat % 16) data s

/-- The receiver's state. -/
def setRx (r : RxState) (s : State) : State := s.setHlk { s.hlk with rx := r }

/-- The bytes after the start byte make a whole frame: its CRC is checked (R189). -/
def checkFrame (bytes : List Byte) (s : State) : State :=
  let body := bytes.dropLast
  if bytes.getLast? = some (crc8 body) then
    match body with
    | _ :: ck :: tag :: payload => frameComplete ck tag payload (setRx .hunting s)
    | _ => setRx .hunting s
  else setRx .hunting s

/-- A byte inside a frame (R189). -/
def frameByte (bytes : List Byte) (b : Byte) (s : State) : State :=
  let now := bytes ++ [b]
  match now with
  | len :: _ =>
    if 48 < len.toNat then setRx .hunting s
    else if now.length = len.toNat + 4 then checkFrame now s
    else setRx (.inFrame now 0) s
  | [] => s

/-- A byte at a HUNTING receiver (R189). -/
def huntByte (b : RxByte) (s : State) : State :=
  if b.stop && b.data = 0xA5#8 then setRx (.inFrame [] 0) s else s

/-- HL_RXD receives a byte: one that comes more than 2 ms after the last of its frame finds the frame discarded and
the receiver HUNTING (R189). -/
def receiveByte (s : State) (b : RxByte) : State :=
  match s.hlk.rx with
  | .hunting => huntByte b s
  | .inFrame bytes gap =>
    if 2 < gap then huntByte b (setRx .hunting s)
    else if b.stop then frameByte bytes b.data s
    else setRx .hunting s

/-- Bytes arrive on HL_RXD with no time between them (R189 to R191). -/
def execHostFrameReceived (bytes : List RxByte) (s : State) : Host.Outcome State Fault Refusal :=
  .next (bytes.foldl receiveByte s)

/-- More than 2 ms have passed since the last byte of a frame (R189). -/
def execFrameGapTimeout (s : State) : Host.Outcome State Fault Refusal :=
  .next
    (match s.hlk.rx with
      | .inFrame _ gap => if 2 < gap then setRx .hunting s else s
      | .hunting => s)

/-! ## The transmitter (R192, R193) -/

/-- A reply that leaves HL_TXD whole brings on the soft reset: the OK of RESET PART (R193). -/
def Queued.resets (q : Queued) : Bool := q.kind = 50 && q.reply.status = .ok

/-- The last part of the oldest reply has left HL_TXD: the request leaves its place (R191). -/
def replySent (q : Queued) (rest : List Queued) (s : State) : State :=
  let s1 := s.setHlk { s.hlk with wire := none, queue := rest }
  if q.resets && s.hlk.resetPending then softReset s1 else txChoose s1

/-- A part of the oldest reply has left HL_TXD: its next part follows at once (R192). -/
def partSent (part parts : Nat) (s : State) : State :=
  match s.hlk.queue with
  | [] => txChoose (s.setHlk { s.hlk with wire := none })
  | q :: rest =>
    if part + 1 < parts then s.setHlk { s.hlk with wire := some (q.frame (part + 1)) } else replySent q rest s

/-- The last byte of a frame leaves HL_TXD (R192). -/
def execFrameSent (s : State) : Host.Outcome State Fault Refusal :=
  .next
    (match s.hlk.wire with
      | none => s
      | some f =>
        match f.kind with
        | .reply part parts => partSent part parts s
        | .qfull => txChoose (s.setHlk { s.hlk with wire := none })
        | .notice _ => txChoose (s.setHlk { s.hlk with wire := none }))

end Sys2Proof.Machine
end

