-- ==== Sys2Proof/Machine/Clock.lean ====
section
/-! DEFINITION. The passing of 1 ms: platform time counts, and every timer and count that runs moves by
one. What happens when a timer runs out is a command of its own (log entry 2). -/

namespace Sys2Proof.Machine

/-- A timer that runs down to 0. -/
def runDown (t : Option Nat) : Option Nat := t.map (· - 1)

/-- A count that runs up to a limit. -/
def runUp (limit : Nat) (t : Option Nat) : Option Nat := t.map fun n => if n < limit then n + 1 else n

/-- The adapter's 20 ms count (R2) and its unusable hold (R14). -/
def Adapter.tick (a : Adapter) : Adapter := { a with count := runUp 20 a.count, hold := runDown a.hold }

/-- A pack's insertion debounce (R7), retry delay (R8) and unusable hold (R14). -/
def Pack.tick (r : Pack) : Pack :=
  { r with debounce := runUp 500 r.debounce, retryWait := runDown r.retryWait, hold := runDown r.hold }

/-- The timers of PTH, the eject window among them (R19). -/
def Pth.tick (p : Pth) : Pth :=
  { p with
    adapter := p.adapter.tick, packA := p.packA.tick, packB := p.packB.tick,
    ejectWindow := runDown p.ejectWindow }

/-- The phase times of a pack (R34). -/
def Charge.tick (c : Charge) : Charge :=
  match c.state with
  | .precharge => { c with preTime := c.preTime + 1 }
  | .fast => { c with fastTime := c.fastTime + 1 }
  | .topoff => { c with fastTime := c.fastTime + 1 }
  | _ => c

/-- The phase times and the reduction deadline (R34, R42). -/
def Chc.tick (c : Chc) : Chc := { c with a := c.a.tick, b := c.b.tick, deadline := runDown c.deadline }

/-- The release timer (R61), and what is left of the 50 ms after a reduction of the grant (R43). -/
def Bga.tick (b : Bga) : Bga := { b with release := runDown b.release, cutLeft := runDown b.cutLeft }

/-- The time of a clock hold, while a transaction or a recovery is under way (R71): 1 ms more where PLC finds PL_SCL
still low, and 0 where it finds the line high. No row of the table tells which it finds, so the level is a free
value (log entry 22). -/
def Plc.tick (k : Plc) : Plc :=
  if k.link = .idle then k
  else
    { k with
      looks := k.looks + 1,
      holdTime := if Config.sclHeldLow k.looks then min 51 (k.holdTime + 1) else 0 }

/-- A persistence timer runs while its flag is set (R95). -/
def persist (m : Monitor) (n : Nat) : Nat := if m.flag && decide (n < 10000) then n + 1 else n

/-- The persistence timers, while the HINGE job is RUN (R95). -/
def Hsi.tick (run : Bool) (h : Hsi) : Hsi :=
  if run then
    { h with
      persistence :=
        { vectorLow := persist h.monitors.vectorLow h.persistence.vectorLow,
          clip := persist h.monitors.clip h.persistence.clip,
          spin := persist h.monitors.spin h.persistence.spin,
          calInvalid := persist h.monitors.calInvalid h.persistence.calInvalid } }
  else h

/-- A switch's debounce count (R107). -/
def SwitchLine.tick (l : SwitchLine) : SwitchLine := { l with count := runUp 20 l.count }

/-- The debounce counts, the dwell and the 20 ms to the first evaluation (R107, R112, R117). -/
def Psm.tick (p : Psm) : Psm :=
  { p with
    lid := p.lid.tick, tablet := p.tablet.tick, dwell := runUp 1000 p.dwell,
    sincePower := min 20 (p.sincePower + 1) }

/-- The idle timer and the typematic time (R120, R126). -/
def Kbs.tick (k : Kbs) : Kbs :=
  { k with
    idleTimer := if k.mode = .active && k.allUp then min 64 (k.idleTimer + 1) else k.idleTimer,
    typematic := k.typematic.map fun t => { t with left := t.left - 1 } }

/-- A fan's stall timer, while the THERMAL job is RUN (R144). -/
def FanRec.tick (run : Bool) (r : FanRec) : FanRec :=
  if run && r.slowing then { r with stallTimer := min 3000 (r.stallTimer + 1) } else r

/-- The stall timers and the grace of the input ages (R137, R144). -/
def Thc.tick (run : Bool) (t : Thc) : Thc :=
  { t with fan0 := t.fan0.tick run, fan1 := t.fan1.tick run, grace := t.grace - 1 }

/-- The timers of SWC (R155, R157, R162, R165, R166). -/
def Swc.tick (w : Swc) : Swc :=
  { w with
    settle := runDown w.settle, powerGood := runDown w.powerGood, mainDelay := runDown w.mainDelay,
    count := runUp 30 w.count, pressTime := runUp 4000 w.pressTime, grace := runDown w.grace,
    wakeTimer := runDown w.wakeTimer }

/-- The time left of a programming (R194). -/
def Sts.tick (t : Sts) : Sts := { t with busy := t.busy.map fun b => (b.1, b.2 - 1) }

/-- The time since the last byte of a frame in progress, up to the 3 ms that are more than 2 (R189). -/
def RxState.tick : RxState → RxState
  | .hunting => .hunting
  | .inFrame bytes gap => .inFrame bytes (min 3 (gap + 1))

/-- The gap of the receiver (R189). -/
def Hlk.tick (h : Hlk) : Hlk := { h with rx := h.rx.tick }

/-- 1 ms passes. -/
def tick (s : State) : State :=
  { s with
    time := s.time + 1, pth := s.pth.tick, chc := s.chc.tick, bga := s.bga.tick, plc := s.plc.tick,
    hsi := s.hsi.tick (s.running .hinge), psm := s.psm.tick, kbs := s.kbs.tick,
    thc := s.thc.tick (s.running .thermal), swc := s.swc.tick, hlk := s.hlk.tick, sts := s.sts.tick }

end Sys2Proof.Machine
end

