-- ==== Sys2Proof/Machine/Dispatch.lean ====
section
/-! DEFINITION. One arm for each command. -/

namespace Sys2Proof.Machine

def exec (i : Instr) (s : State) : Host.Outcome State Fault Refusal :=
  match i with
  | .powerOn lines => Sys2Proof.Machine.execPowerOn lines s
  | .hostFrameReceived bytes => Sys2Proof.Machine.execHostFrameReceived bytes s
  | .frameGapTimeout => Sys2Proof.Machine.execFrameGapTimeout s
  | .frameSent => Sys2Proof.Machine.execFrameSent s
  | .readPack h pack => Sys2Proof.Machine.execReadPack h pack s
  | .readPath h => Sys2Proof.Machine.execReadPath h s
  | .setSourcePreference h pref => Sys2Proof.Machine.execSetSourcePreference h pref s
  | .setAdapterLimit h limit => Sys2Proof.Machine.execSetAdapterLimit h limit s
  | .prepareEject h pack => Sys2Proof.Machine.execPrepareEject h pack s
  | .cancelEject h => Sys2Proof.Machine.execCancelEject h s
  | .readCharge h => Sys2Proof.Machine.execReadCharge h s
  | .setCharge h inhibitA inhibitB order threshold => Sys2Proof.Machine.execSetCharge h inhibitA inhibitB order threshold s
  | .openProfileRow h row => Sys2Proof.Machine.execOpenProfileRow h row s
  | .stageProfileEntry h slot entry => Sys2Proof.Machine.execStageProfileEntry h slot entry s
  | .commitProfile h => Sys2Proof.Machine.execCommitProfile h s
  | .cancelProfile h => Sys2Proof.Machine.execCancelProfile h s
  | .readProfileEntry h entry => Sys2Proof.Machine.execReadProfileEntry h entry s
  | .readBudget h => Sys2Proof.Machine.execReadBudget h s
  | .setDischargeLimit h pack limit => Sys2Proof.Machine.execSetDischargeLimit h pack limit s
  | .setLinkDevice h entry segLen abort retry hold definable => Sys2Proof.Machine.execSetLinkDevice h entry segLen abort retry hold definable s
  | .linkTransfer h entry dir cmd len data => Sys2Proof.Machine.execLinkTransfer h entry dir cmd len data s
  | .linkResult h => Sys2Proof.Machine.execLinkResult h s
  | .readLinkStatus h clear => Sys2Proof.Machine.execReadLinkStatus h clear s
  | .readAngle h => Sys2Proof.Machine.execReadAngle h s
  | .captureAngle h => Sys2Proof.Machine.execCaptureAngle h s
  | .readCapture h => Sys2Proof.Machine.execReadCapture h s
  | .setHingeMonitor h vl cl sp ci gl ol hyst nominal => Sys2Proof.Machine.execSetHingeMonitor h vl cl sp ci gl ol hyst nominal s
  | .clearHingeErrors h => Sys2Proof.Machine.execClearHingeErrors h s
  | .saveCalibration h => Sys2Proof.Machine.execSaveCalibration h s
  | .readPosture h => Sys2Proof.Machine.execReadPosture h s
  | .setPostureThresholds h standEnter standLeave tabletEnter tabletLeave dwell => Sys2Proof.Machine.execSetPostureThresholds h standEnter standLeave tabletEnter tabletLeave dwell s
  | .fetchKeys h max => Sys2Proof.Machine.execFetchKeys h max s
  | .readKeyMap h choice => Sys2Proof.Machine.execReadKeyMap h choice s
  | .setKeyboard h press release delay period wake map => Sys2Proof.Machine.execSetKeyboard h press release delay period wake map s
  | .readThermal h choice => Sys2Proof.Machine.execReadThermal h choice s
  | .reportTemperature h temp => Sys2Proof.Machine.execReportTemperature h temp s
  | .setFanCurvePoint h what => Sys2Proof.Machine.execSetFanCurvePoint h what s
  | .pushHold h fan0 fan1 expiry => Sys2Proof.Machine.execPushHold h fan0 fan1 expiry s
  | .popHold h => Sys2Proof.Machine.execPopHold h s
  | .readHolds h => Sys2Proof.Machine.execReadHolds h s
  | .enterState h target => Sys2Proof.Machine.execEnterState h target s
  | .setWake h sleepMask offMask low critical shutdown autoOn => Sys2Proof.Machine.execSetWake h sleepMask offMask low critical shutdown autoOn s
  | .setWakeTimer h seconds => Sys2Proof.Machine.execSetWakeTimer h seconds s
  | .readWake h => Sys2Proof.Machine.execReadWake h s
  | .takePress h => Sys2Proof.Machine.execTakePress h s
  | .fetchFault h => Sys2Proof.Machine.execFetchFault h s
  | .clearFault h code => Sys2Proof.Machine.execClearFault h code s
  | .restartJob h job => Sys2Proof.Machine.execRestartJob h job s
  | .haltJob h job dest => Sys2Proof.Machine.execHaltJob h job dest s
  | .setRecovery h power link hinge keys thermal => Sys2Proof.Machine.execSetRecovery h power link hinge keys thermal s
  | .fetchEvents h max => Sys2Proof.Machine.execFetchEvents h max s
  | .setRoute h source route => Sys2Proof.Machine.execSetRoute h source route s
  | .identify h => Sys2Proof.Machine.execIdentify h s
  | .resetPart h => Sys2Proof.Machine.execResetPart h s
  | .readStoreStatus h => Sys2Proof.Machine.execReadStoreStatus h s
  | .saveSettings h => Sys2Proof.Machine.execSaveSettings h s
  | .profileCommitComplete => Sys2Proof.Machine.execProfileCommitComplete s
  | .calibrationSaveComplete => Sys2Proof.Machine.execCalibrationSaveComplete s
  | .settingsSaveComplete => Sys2Proof.Machine.execSettingsSaveComplete s
  | .adapterPresence mv idMv => Sys2Proof.Machine.execAdapterPresence mv idMv s
  | .adapterQualified => Sys2Proof.Machine.execAdapterQualified s
  | .adapterRangeReturn mv => Sys2Proof.Machine.execAdapterRangeReturn mv s
  | .adapterOutOfRange mv => Sys2Proof.Machine.execAdapterOutOfRange mv s
  | .adapterRemoval mv => Sys2Proof.Machine.execAdapterRemoval mv s
  | .adapterOvervolt mv => Sys2Proof.Machine.execAdapterOvervolt mv s
  | .unusableHoldEnd src => Sys2Proof.Machine.execUnusableHoldEnd src s
  | .presenceAsserted pack => Sys2Proof.Machine.execPresenceAsserted pack s
  | .insertionDebounceEnd pack => Sys2Proof.Machine.execInsertionDebounceEnd pack s
  | .presenceDeasserted pack => Sys2Proof.Machine.execPresenceDeasserted pack s
  | .identityRetryDelay pack => Sys2Proof.Machine.execIdentityRetryDelay pack s
  | .pathRailConfirmed railMv => Sys2Proof.Machine.execPathRailConfirmed railMv s
  | .switchFailure => Sys2Proof.Machine.execSwitchFailure s
  | .ejectWindowExpired => Sys2Proof.Machine.execEjectWindowExpired s
  | .snapshotStale pack => Sys2Proof.Machine.execSnapshotStale pack s
  | .prechargeTimeout pack => Sys2Proof.Machine.execPrechargeTimeout pack s
  | .chargeTimeout pack => Sys2Proof.Machine.execChargeTimeout pack s
  | .reductionDeadlineExpired => Sys2Proof.Machine.execReductionDeadlineExpired s
  | .inputMeasurement mv ma => Sys2Proof.Machine.execInputMeasurement mv ma s
  | .throttleRelease => Sys2Proof.Machine.execThrottleRelease s
  | .transactionEnd bus => Sys2Proof.Machine.execTransactionEnd bus s
  | .holdTimeout => Sys2Proof.Machine.execHoldTimeout s
  | .linkRecoveryEnd sclHigh sdaHigh => Sys2Proof.Machine.execLinkRecoveryEnd sclHigh sdaHigh s
  | .snapshotDue pack => Sys2Proof.Machine.execSnapshotDue pack s
  | .sensorReadDue sensor => Sys2Proof.Machine.execSensorReadDue sensor s
  | .samplePair sin cos => Sys2Proof.Machine.execSamplePair sin cos s
  | .persistenceTimerExpired src => Sys2Proof.Machine.execPersistenceTimerExpired src s
  | .switchLineChange line asserted => Sys2Proof.Machine.execSwitchLineChange line asserted s
  | .switchDebouncedEdge line => Sys2Proof.Machine.execSwitchDebouncedEdge line s
  | .dwellExpired => Sys2Proof.Machine.execDwellExpired s
  | .firstEvaluation => Sys2Proof.Machine.execFirstEvaluation s
  | .scanEnd sensed => Sys2Proof.Machine.execScanEnd sensed s
  | .idleTimerExpired => Sys2Proof.Machine.execIdleTimerExpired s
  | .rowDetected => Sys2Proof.Machine.execRowDetected s
  | .typematicExpiry => Sys2Proof.Machine.execTypematicExpiry s
  | .dieConversion tenths => Sys2Proof.Machine.execDieConversion tenths s
  | .inputAgeExpired input => Sys2Proof.Machine.execInputAgeExpired input s
  | .holdExpired => Sys2Proof.Machine.execHoldExpired s
  | .tachPulse fan intervalUs => Sys2Proof.Machine.execTachPulse fan intervalUs s
  | .tachTimeout fan => Sys2Proof.Machine.execTachTimeout fan s
  | .stallTimerExpired fan => Sys2Proof.Machine.execStallTimerExpired fan s
  | .settleTimerExpired => Sys2Proof.Machine.execSettleTimerExpired s
  | .mainRailDelayExpired => Sys2Proof.Machine.execMainRailDelayExpired s
  | .mainPgAsserted => Sys2Proof.Machine.execMainPgAsserted s
  | .powerGoodTimeout => Sys2Proof.Machine.execPowerGoodTimeout s
  | .mainPgLost => Sys2Proof.Machine.execMainPgLost s
  | .powerButtonChange asserted => Sys2Proof.Machine.execPowerButtonChange asserted s
  | .powerButtonDebounced => Sys2Proof.Machine.execPowerButtonDebounced s
  | .longPress => Sys2Proof.Machine.execLongPress s
  | .graceTimerExpired => Sys2Proof.Machine.execGraceTimerExpired s
  | .wakeTimerExpired => Sys2Proof.Machine.execWakeTimerExpired s

end Sys2Proof.Machine
end

