-- ==== Sys2Proof/Machine/Wire.lean ====
section
/-! DEFINITION. The requests as the host link carries them: the kind and head of each, its fields as bytes
in the order of its rule, and the one-part frame that carries it (12 sections 12.5 and 12.6). -/

namespace Sys2Proof

/-- The two bytes of a 16-bit field, least significant first. -/
def wire16 (w : BitVec 16) : List Byte := [w.extractLsb' 0 8, w.extractLsb' 8 8]

/-- The four bytes of a 32-bit field, least significant first. -/
def wire32 (w : BitVec 32) : List Byte :=
  [w.extractLsb' 0 8, w.extractLsb' 8 8, w.extractLsb' 16 8, w.extractLsb' 24 8]

/-- The kind (12 section 12.5) and the head of a command that is a request. -/
def Instr.request : Instr → Option (Nat × ReqHead)
  | .readPack h _ => some (1, h)
  | .readPath h => some (2, h)
  | .setSourcePreference h _ => some (3, h)
  | .setAdapterLimit h _ => some (4, h)
  | .prepareEject h _ => some (5, h)
  | .cancelEject h => some (6, h)
  | .readCharge h => some (7, h)
  | .setCharge h _ _ _ _ => some (8, h)
  | .openProfileRow h _ => some (9, h)
  | .stageProfileEntry h _ _ => some (10, h)
  | .commitProfile h => some (11, h)
  | .cancelProfile h => some (12, h)
  | .readProfileEntry h _ => some (13, h)
  | .readBudget h => some (14, h)
  | .setDischargeLimit h _ _ => some (15, h)
  | .setLinkDevice h _ _ _ _ _ _ => some (16, h)
  | .linkTransfer h _ _ _ _ _ => some (17, h)
  | .linkResult h => some (18, h)
  | .readLinkStatus h _ => some (19, h)
  | .readAngle h => some (20, h)
  | .captureAngle h => some (21, h)
  | .readCapture h => some (22, h)
  | .setHingeMonitor h _ _ _ _ _ _ _ _ => some (23, h)
  | .clearHingeErrors h => some (24, h)
  | .saveCalibration h => some (25, h)
  | .readPosture h => some (26, h)
  | .setPostureThresholds h _ _ _ _ _ => some (27, h)
  | .fetchKeys h _ => some (28, h)
  | .readKeyMap h _ => some (29, h)
  | .setKeyboard h _ _ _ _ _ _ => some (30, h)
  | .readThermal h _ => some (31, h)
  | .reportTemperature h _ => some (32, h)
  | .setFanCurvePoint h _ => some (33, h)
  | .pushHold h _ _ _ => some (34, h)
  | .popHold h => some (35, h)
  | .readHolds h => some (36, h)
  | .enterState h _ => some (37, h)
  | .setWake h _ _ _ _ _ _ => some (38, h)
  | .setWakeTimer h _ => some (39, h)
  | .readWake h => some (40, h)
  | .takePress h => some (41, h)
  | .fetchFault h => some (42, h)
  | .clearFault h _ => some (43, h)
  | .restartJob h _ => some (44, h)
  | .haltJob h _ _ => some (45, h)
  | .setRecovery h _ _ _ _ _ => some (46, h)
  | .fetchEvents h _ => some (47, h)
  | .setRoute h _ _ => some (48, h)
  | .identify h => some (49, h)
  | .resetPart h => some (50, h)
  | .readStoreStatus h => some (51, h)
  | .saveSettings h => some (52, h)
  | _ => none

/-- The fields of STAGE PROFILE ENTRY after the slot. -/
def RawEntry.wire (e : RawEntry) : List Byte :=
  [e.valid, e.chemistry] ++ wire16 e.bandLow ++ wire16 e.bandHigh ++ wire16 e.cellMv ++ wire16 e.maxMa
    ++ [e.useRequest] ++ wire16 e.preCellMv ++ wire16 e.preMa ++ wire16 e.taperMa ++ [e.preMin] ++ wire16 e.fastMin

/-- The two forms of SET FAN CURVE POINT (R151). -/
def RawCurve.wire : RawCurve → List Byte
  | .point f cs k temp duty => [f, cs, k] ++ wire16 temp ++ [duty]
  | .limits floor trip => wire16 floor ++ wire16 trip

/-- The fields of a request as bytes, in the order of its rule. -/
def Instr.fields : Instr → List Byte
  | .readPack _ pack => [pack]
  | .setSourcePreference _ pref => [pref]
  | .setAdapterLimit _ limit => wire32 limit
  | .prepareEject _ pack => [pack]
  | .setCharge _ a b o t => [a, b, o, t]
  | .openProfileRow _ row => [row]
  | .stageProfileEntry _ slot e => slot :: e.wire
  | .readProfileEntry _ entry => [entry]
  | .setDischargeLimit _ pack limit => pack :: wire32 limit
  | .setLinkDevice _ e sl ab rl hl none => [e, sl, ab, rl, hl]
  | .setLinkDevice _ e sl ab rl hl (some d) => [e, sl, ab, rl, hl, d.defined, d.address, d.check]
  | .linkTransfer _ e d c l data => [e, d, c, l] ++ data
  | .readLinkStatus _ clear => [clear]
  | .setHingeMonitor _ vl cl sp ci gl ol hyst nominal =>
    [vl.monitor, vl.latch, cl.monitor, cl.latch, sp.monitor, sp.latch, ci.monitor, ci.latch, gl.monitor,
      gl.latch, ol.monitor, ol.latch, hyst] ++ wire16 nominal
  | .setPostureThresholds _ se sl te tl dw => wire16 se ++ wire16 sl ++ wire16 te ++ wire16 tl ++ wire16 dw
  | .fetchKeys _ max => [max]
  | .readKeyMap _ choice => [choice]
  | .setKeyboard _ p r d t w map => [p, r] ++ wire16 d ++ wire16 t ++ [w] ++ map.getD []
  | .readThermal _ choice => [choice]
  | .reportTemperature _ temp => wire16 temp
  | .setFanCurvePoint _ what => what.wire
  | .pushHold _ a b expiry => [a, b] ++ wire16 expiry
  | .enterState _ target => [target]
  | .setWake _ a b c d e f => [a, b, c, d, e, f]
  | .setWakeTimer _ seconds => wire32 seconds
  | .clearFault _ code => [code]
  | .restartJob _ job => [job]
  | .haltJob _ job dest => [job, dest]
  | .setRecovery _ p l h k t => [p, l, h, k, t]
  | .fetchEvents _ max => [max]
  | .setRoute _ source route => [source, route]
  | _ => []

namespace Machine

/-- The numbers of bytes the fields of a kind can have (12 sections 12.5 and 12.6). SET LINK DEVICE, SET KEYBOARD and
SET FAN CURVE POINT have two forms, and LINK TRANSFER carries its data after four bytes (log entry 6). -/
def takesBytes (kind n : Nat) : Bool :=
  match kind with
  | 1 | 3 | 5 | 9 | 13 | 19 | 28 | 29 | 31 | 37 | 43 | 44 | 47 => n = 1
  | 32 | 45 | 48 => n = 2
  | 4 | 8 | 34 | 39 => n = 4
  | 15 | 46 => n = 5
  | 38 => n = 6
  | 27 => n = 10
  | 23 => n = 15
  | 10 => n = 21
  | 16 => n = 5 || n = 8
  | 17 => 4 ≤ n
  | 30 => n = 7 || n = 151
  | 33 => n = 4 || n = 6
  | _ => n = 0

/-- The payload of a request of one part: nothing for no fields, else the part byte and the fields. -/
def onePart (fields : List Byte) : List Byte := if fields = [] then [] else 0 :: fields

/-- The bytes of a request frame (12 section 12.6). -/
def requestFrame (kind : Nat) (h : ReqHead) (payload : List Byte) : List Byte :=
  let body := BitVec.ofNat 8 payload.length :: ckByte h.chan kind :: h.tag :: payload
  0xA5#8 :: body ++ [crc8 body]

/-- The frame of part `index` of `count` of a request, with the bytes of fields it carries (R190). -/
def partFrame (kind : Nat) (h : ReqHead) (count index : Nat) (data : List Byte) : List Byte :=
  requestFrame kind h (BitVec.ofNat 8 (16 * (count - 1) + index) :: data)

/-- Bytes as HL_RXD receives them, each with its stop bit high. -/
def onLine (bytes : List Byte) : List RxByte := bytes.map fun b => ⟨b, true⟩

end Machine

end Sys2Proof
end

