-- ==== Sys2Proof/Safety.lean ====
section
/-! DEFINITION. What statements about the part are made of: a request that is taken and its reply, an event
that is raised, and the laws of the manual that hold in every state the part reaches, each a predicate on a
state, with what it is for every step to keep one. -/

namespace Sys2Proof.Machine

/-! ## Requests and their replies (R191) -/

/-- A complete request that arrives now takes a place in the queue (R191). -/
abbrev State.takes (s : State) : Prop := s.hlk.resetPending = false ∧ s.hlk.queue.length < 4

/-- A request is answered: running it gives a next state, the one in which its owner left `t` and the
reply stands in the queue. -/
def Replies (c : Instr) (s : State) (status : Status) (content : List Byte) (t : State) : Prop :=
  ∃ kind h, c.request = some (kind, h) ∧ exec c s = .next (enqueue kind h (⟨status, content⟩, t))

/-- Two states that differ in nothing but the Host Link. -/
def SameButHlk (s t : State) : Prop := t = s.setHlk t.hlk

/-- An event stands in the pending list of each channel its source was routed to, with a detail. -/
def Raised (e : EvSource) (d : Detail) (s t : State) : Prop :=
  ∀ c : Channel, (s.route e).names c = true → ∃ p ∈ t.list c, p.src = e ∧ p.detail = d

/-- An event source stands in the pending list of each channel it was routed to. -/
def Listed (e : EvSource) (s t : State) : Prop :=
  ∀ c : Channel, (s.route e).names c = true → ∃ p ∈ t.list c, p.src = e

/-- At least two occurrences of an event source stand in the pending list of each channel it was routed to. -/
def ListedTwice (e : EvSource) (s t : State) : Prop :=
  ∀ c : Channel, (s.route e).names c = true → ∃ p ∈ t.list c, p.src = e ∧ 2 ≤ p.count

/-! ## What the rules of several commands share -/

/-- The outcome TRANSACTION_END hands to a client: that of the transaction on a BUSY link, unless a soft reset
or the removal of its pack has taken its purpose from it (R70, R72, R88). -/
def State.handed (s : State) (bus : BusEnd) : Option (Client × TxOutcome) :=
  match s.plc.link, s.plc.wire with
  | .busy, some w => if s.plc.discard || s.plc.gone then none else some (w.client, w.outcome bus)
  | _, _ => none

/-- The snapshot TRANSACTION_END publishes: its last item has been read (R5, R76). -/
def State.published (s : State) (bus : BusEnd) : Option (PackId × Snapshot) :=
  match s.running .link, s.handed bus, s.plc.work with
  | true, some (.packPoll, .done b), some (.snapshot p [i] got) => some (p, { got.put i b with time := s.time })
  | _, _, _ => none

/-- Where the path stands after a selection made in `s`, outside a switch-over, with the choice of a
publication that was postponed to it (R11, R12, R15, R17, R20). -/
def PathSelected (s t : State) : Prop :=
  (∀ y, s.target s.pth.postponed = some y →
    t.pth.path = if s.pth.path = settledOn y then s.pth.path else .switching y) ∧
    (s.target s.pth.postponed = none →
      t.pth.path =
        if s.pth.packB.presence = .ejectPending ∧ s.pth.packB.usable = true then
          (if s.pth.path = .onPackB then .onPackB else .switching .packB)
        else .noSource)

/-- The state a pack enters on its way to QUALIFY: SUSPENDED(STALE) where its record snapshot is 5 s old (R27). -/
def State.qualifying (s : State) (p : PackId) : ChargeState :=
  if s.stale p = true then .suspended .stale else .qualify

/-- The conditions under which a session may start, but for a candidate (R26). -/
def MayStartSession (s : State) : Prop :=
  (∀ q, s.charging q = false) ∧ s.pth.path = .onAdapter ∧ s.running .power = true ∧ s.running .link = true

/-- The candidate a session starts on: of two, the one the charge order decides (R26). -/
def SessionGoesTo (p : PackId) (s : State) : Prop :=
  s.candidate p = true ∧
    ∀ q, q ≠ p → s.candidate q = true →
      (s.chc.order = .firstA → p = .A) ∧ (s.chc.order = .firstB → p = .B) ∧
        (s.chc.order = .auto → s.rel p < s.rel q ∨ (s.rel p = s.rel q ∧ p = .A))

/-- The charge records after the test of R26 that is made in `s`. -/
def SessionsTried (s t : State) : Prop :=
  (∀ p, MayStartSession s → SessionGoesTo p s →
    t.charge p =
        { s.charge p with
          state := s.qualifying p, phase := none, entry := none, preTime := 0, fastTime := 0, taperRun := 0,
          relAtDone := none } ∧
      ∀ q, q ≠ p → t.charge q = s.charge q) ∧
    ((¬MayStartSession s ∨ ∀ p, s.candidate p = false) → ∀ q, t.charge q = s.charge q)

/-- How the throttle meets a draw against a limit, `s` before and `t` after (the tables of R60 to R62). -/
def ThrottleMeets (owner : Source) (draw limit : Nat) (s t : State) : Prop :=
  (s.bga.throttle = .released → limit < draw →
    t.bga.throttle = .asserted ∧ t.bga.episodeStart = some s.time ∧ t.bga.episodeOwner = some owner ∧
      Raised .budgetExceeded [some (Int.ofNat owner.num), some (Int.ofNat (draw - limit))] s t) ∧
    (s.bga.throttle = .released → draw ≤ limit → t.bga.throttle = .released) ∧
    (s.bga.throttle ≠ .released →
      t.bga.episodeStart = s.bga.episodeStart ∧ t.bga.episodeOwner = s.bga.episodeOwner) ∧
    (s.bga.throttle = .asserted → draw < limit * 97 / 100 →
      t.bga.throttle = .releasing ∧ t.bga.release = some 200) ∧
    (s.bga.throttle = .releasing → draw < limit * 97 / 100 →
      t.bga.throttle = .releasing ∧ t.bga.release = s.bga.release) ∧
    (s.bga.throttle = .asserted → limit * 97 / 100 ≤ draw → t.bga.throttle = .asserted) ∧
    (s.bga.throttle = .releasing → limit * 97 / 100 ≤ draw →
      t.bga.throttle = .asserted ∧ t.bga.release = none)

/-- A charging phase entered or gone on in with a computed current: below 128 mA it is the suspension of its
reason (R28, R30). -/
def phaseWith (st : ChargeState) (current : Nat × SuspendReason) : ChargeState :=
  if current.1 < 128 then .suspended current.2 else st

/-- The charge state a published snapshot gives a pack in QUALIFY (R28). -/
def QualifyMoves (p : PackId) (x : Snapshot) (s t : State) : Prop :=
  let alarm := x.overTemp = true ∨ x.overCharge = true
  let full := x.fullyCharged = true ∨ x.terminate = true
  (s.supported p = false → (t.charge p).state = .inhibitedUnsupported) ∧
    (s.supported p = true → s.matchEntry p x.temp = none →
      (t.charge p).state = .suspended .temp ∧ (t.charge p).entry = none) ∧
    ∀ k i, s.supported p = true → s.matchEntry p x.temp = some k → (s.pack p).identity = some i →
      let e := s.entry k
      let current := fun ph => phaseCurrent ph e i x s.bga.applied s.thc.derate
      (alarm → (t.charge p).state = .suspended .packAlarm ∧ (t.charge p).entry = some k) ∧
        (¬alarm → full → (t.charge p).state = .done ∧ (t.charge p).doneSince = true) ∧
        (¬alarm → ¬full → x.voltage < i.cells * e.preCellMv →
          (t.charge p).state = phaseWith .precharge (current .precharge) ∧ (t.charge p).entry = some k) ∧
        (¬alarm → ¬full → i.cells * e.preCellMv ≤ x.voltage →
          (t.charge p).state = phaseWith .fast (current .fast) ∧ (t.charge p).entry = some k)

/-- The charge state a published snapshot gives a pack in a charging phase under entry `k` (R30 to R32): the successor
of a phase is entered, and R30 then suspends from it where its current is below 128 mA. -/
def PhaseMoves (p : PackId) (x : Snapshot) (k : Nat) (i : Identity) (s t : State) : Prop :=
  let e := s.entry k
  let current := fun ph => phaseCurrent ph e i x s.bga.applied s.thc.derate
  let alarm := x.overTemp = true ∨ x.overCharge = true
  let full := x.fullyCharged = true ∨ x.terminate = true
  let inside := e.bandLow ≤ x.temp ∧ x.temp ≤ e.bandHigh
  let through := (current .fast).1 < 128 → (t.charge p).phase = some .fast ∧ ListedTwice .chargePhase s t
  (alarm → (t.charge p).state = .suspended .packAlarm) ∧
    (¬alarm → ¬inside → (t.charge p).state = .qualify) ∧
    (¬alarm → inside → full → (t.charge p).state = .done) ∧
    (¬alarm → inside → ¬full →
      ((s.charge p).state = .precharge → x.voltage < i.cells * e.preCellMv →
        (t.charge p).state = phaseWith .precharge (current .precharge)) ∧
        ((s.charge p).state = .precharge → i.cells * e.preCellMv ≤ x.voltage →
          (t.charge p).state = phaseWith .fast (current .fast) ∧ through) ∧
        ((s.charge p).state = .fast → x.voltage + 16 * i.cells < phaseVoltage e i x →
          (t.charge p).state = phaseWith .fast (current .fast)) ∧
        ((s.charge p).state = .fast → phaseVoltage e i x ≤ x.voltage + 16 * i.cells →
          (t.charge p).state = phaseWith .topoff (current .fast) ∧ (t.charge p).taperRun = 0 ∧ through) ∧
        ((s.charge p).state = .topoff →
          let tapers := x.current ≤ Int.ofNat e.taperMa ∧ e.taperMa < (s.chc.inForce.map (·.ma)).getD 0
          (tapers → 2 ≤ (s.charge p).taperRun → (t.charge p).state = .done) ∧
            (tapers → (s.charge p).taperRun < 2 →
              (t.charge p).state = phaseWith .topoff (current .fast) ∧
                (t.charge p).taperRun = (s.charge p).taperRun + 1) ∧
            (¬tapers →
              (t.charge p).state = phaseWith .topoff (current .fast) ∧
                (t.charge p).taperRun =
                  if x.current ≤ Int.ofNat e.taperMa then (s.charge p).taperRun else 0)))

/-- The charge state a published snapshot gives a suspended pack (R33). -/
def SuspendedMoves (p : PackId) (x : Snapshot) (r : SuspendReason) (s t : State) : Prop :=
  let alarm := x.overTemp = true ∨ x.overCharge = true
  let next := (t.charge p).state
  (r = .temp → next = if (s.matchEntry p x.temp).isSome = true then .qualify else .suspended .temp) ∧
    (r = .stale → next = .qualify) ∧
    (r = .packAlarm → (s.charge p).phase = none → next = if alarm then .suspended .packAlarm else .qualify) ∧
    ∀ ph k i, (s.charge p).phase = some ph → (s.charge p).entry = some k → (s.pack p).identity = some i →
      let low := (phaseCurrent ph (s.entry k) i x s.bga.applied s.thc.derate).1 < 128
      (r = .packAlarm → next = if alarm ∨ low then .suspended .packAlarm else .qualify) ∧
        (r = .thermal ∨ r = .budget → next = if low then .suspended r else .qualify)

/-- What the publication of a snapshot of a pack does to its charge state (R28, R30 to R33, R35). -/
def PublicationMoves (p : PackId) (x : Snapshot) (s t : State) : Prop :=
  ((s.charge p).state = .qualify → QualifyMoves p x s t) ∧
    (∀ k i, (s.charge p).state.phase.isSome = true → (s.charge p).entry = some k → (s.pack p).identity = some i →
      PhaseMoves p x k i s t) ∧
    (∀ r, (s.charge p).state = .suspended r → SuspendedMoves p x r s t) ∧
    (∀ n, (s.charge p).state = .done → (s.charge p).relAtDone = some n →
      ((t.charge p).state = .done ↔ ¬(x.relative < s.chc.threshold ∧ x.relative < n))) ∧
    (∀ r, (s.charge p).state = .fault r → (t.charge p).state = .fault r) ∧
    ((s.charge p).state = .inhibitedHost → (t.charge p).state = .inhibitedHost)

/-- A tracker updated from its two peak values (R91, R92), where they differ: both results rounded towards zero, set to
the nearest limit, and marked outside it. -/
def TrackerUpdated (nominal : Nat) (k t : Tracker) : Prop :=
  let offset := (k.posPeak + k.negPeak).tdiv 2
  let limit := Int.ofNat (nominal * 12 / 100)
  t.posPeak = k.posPeak ∧ t.negPeak = k.negPeak ∧ t.offset = max (-limit) (min limit offset) ∧
    (t.offsetMark = true ↔ offset < -limit ∨ limit < offset) ∧
    (k.posPeak ≠ k.negPeak →
      let gain := (2 * Int.ofNat nominal * 1000).tdiv (k.posPeak - k.negPeak)
      Int.ofNat t.gain = max 600 (min 1400 gain) ∧ (t.gainMark = true ↔ gain < 600 ∨ 1400 < gain))

/-- The collection and the trackers at an accepted sample of raw angle `raw` (R91), `old` the raw angle in force before:
a window is entered and left by the side on the shorter way round from its peak (log entry 48). -/
def TrackersFollow (old raw : Nat) (sin cos : Int) (h t : Hsi) : Prop :=
  let reading := fun (k : Peak) => if k.chan = .sine then sin else cos
  let inside := fun (k : Peak) (a : Nat) => angleGap a k.angle ≤ 256
  let entered :=
    (∀ k ∈ peaks, inside k raw → ¬inside k old →
      t.collection = some { peak := k, fromLow := decide (angleDiff old k.angle < 0), extreme := reading k }) ∧
      ((∀ k ∈ peaks, inside k raw → inside k old) → t.collection = none)
  (h.collection = none → t.sin = h.sin ∧ t.cos = h.cos ∧ entered) ∧
    ∀ c, h.collection = some c →
      (inside c.peak raw →
        t.sin = h.sin ∧ t.cos = h.cos ∧
          t.collection =
            some
              { c with
                extreme :=
                  if c.peak.positive then max c.extreme (reading c.peak) else min c.extreme (reading c.peak) }) ∧
        (¬inside c.peak raw → entered) ∧
        (¬inside c.peak raw → (angleDiff raw c.peak.angle < 0 ↔ c.fromLow = true) →
          t.sin = h.sin ∧ t.cos = h.cos) ∧
        (¬inside c.peak raw → ¬(angleDiff raw c.peak.angle < 0 ↔ c.fromLow = true) →
          (c.peak.chan = .sine →
            t.cos = h.cos ∧ TrackerUpdated h.nominal (h.sin.learn c.peak.positive c.extreme) t.sin) ∧
            (c.peak.chan = .cosine →
              t.sin = h.sin ∧ TrackerUpdated h.nominal (h.cos.learn c.peak.positive c.extreme) t.cos))

/-- The warning mark of an input at a reading, and THERMAL_WARN where it fires (R145). -/
def WarningAt (i : ThermalInput) (v : Int) (s t : State) : Prop :=
  ((s.input i).fired = false →
    (t.input i).fired = decide (s.thc.trip - 50 ≤ v) ∧
      (s.thc.trip - 50 ≤ v → Raised .thermalWarn [some (Int.ofNat i.num), some v] s t)) ∧
    ((s.input i).fired = true → (t.input i).fired = decide (s.thc.trip - 70 ≤ v))

/-- The battery band that a combined relative charge gives, by the band before (the table of R164). -/
def bandAfter (w : WakeSettings) (c : Nat) : BatteryBand → BatteryBand
  | .aboveLow =>
    if w.low ≤ c then .aboveLow
    else if w.critical ≤ c then .low
    else if w.shutdown ≤ c then .critical
    else .shutdown
  | .low =>
    if c < w.critical then (if c < w.shutdown then .shutdown else .critical)
    else if w.low + 2 ≤ c then .aboveLow
    else .low
  | .critical =>
    if c < w.shutdown then .shutdown
    else if c < w.critical + 2 then .critical
    else if c < w.low + 2 then .low
    else .aboveLow
  | .shutdown =>
    if c < w.shutdown + 2 then .shutdown
    else if c < w.critical + 2 then .critical
    else if c < w.low + 2 then .low
    else .aboveLow

/-- Every owner has the settings of a record (R194, 12 section 12.3): an exclusive route BOTH is taken as S (R186), and
the fixed fields of the link entries 0 to 4 are kept (R68). -/
def SettingsLoaded (r : Settings) (t : State) : Prop :=
  t.pth.preference = r.preference ∧ t.adapter.hostLimit = r.hostLimit ∧ t.chc.order = r.order ∧
    t.chc.threshold = r.threshold ∧ t.chc.a.inhibit = r.inhibitA ∧ t.chc.b.inhibit = r.inhibitB ∧
    t.bga.dischargeA = r.dischargeA ∧ t.bga.dischargeB = r.dischargeB ∧ t.psm.settings = r.posture ∧
    t.kbs.settings = r.keys ∧ t.thc.curves = r.curves ∧ t.thc.floor = r.floor ∧ t.thc.trip = r.trip ∧
    t.swc.settings = r.wake ∧
    ((t.job .power).recovery = r.recovery.power ∧ (t.job .link).recovery = r.recovery.link ∧
      (t.job .hinge).recovery = r.recovery.hinge ∧ (t.job .keys).recovery = r.recovery.keys ∧
      (t.job .thermal).recovery = r.recovery.thermal) ∧
    (∀ (e : EvSource) (x : Route), r.routes[e.num]? = some x →
      t.route e = if e.exclusive = true ∧ x = .both then .S else x) ∧
    ∀ (k : Nat) (p : LinkPolicy), k < 8 → r.link[k]? = some p →
      (t.device k).policy =
        if k < 5 then
          { p with defined := true, address := (factoryPolicy k).address, check := (factoryPolicy k).check }
        else p

/-! ## What a command can change -/

/-- The thirteen blocks, but for the clock (00, The blocks). -/
inductive Block where
  | pth
  | chc
  | bga
  | plc
  | hsi
  | psm
  | kbs
  | thc
  | swc
  | fsu
  | evr
  | hlk
  | sts
  deriving DecidableEq, Repr

/-- Two states agree in a block. -/
def SameBlock (b : Block) (s t : State) : Prop :=
  match b with
  | .pth => t.pth = s.pth
  | .chc => t.chc = s.chc
  | .bga => t.bga = s.bga
  | .plc => t.plc = s.plc
  | .hsi => t.hsi = s.hsi
  | .psm => t.psm = s.psm
  | .kbs => t.kbs = s.kbs
  | .thc => t.thc = s.thc
  | .swc => t.swc = s.swc
  | .fsu => t.fsu = s.fsu
  | .evr => t.evr = s.evr
  | .hlk => t.hlk = s.hlk
  | .sts => t.sts = s.sts

/-- The blocks a command can act on, its own and those its rules hand something to. -/
def reachesOf : Instr → List Block
  | .frameGapTimeout | .readPack .. | .readPath .. | .readCharge .. | .readProfileEntry .. | .readBudget ..
  | .linkResult .. | .readAngle .. | .readPosture .. | .readKeyMap .. | .readThermal .. | .readHolds ..
  | .readWake .. | .identify .. | .resetPart .. | .readStoreStatus .. => [.hlk]
  | .adapterPresence .. | .adapterRangeReturn .. | .presenceAsserted .. => [.pth]
  | .reductionDeadlineExpired => [.chc, .bga]
  | .throttleRelease => [.bga]
  | .holdTimeout .. | .snapshotDue .. | .sensorReadDue .. => [.plc]
  | .switchLineChange .. => [.psm]
  | .idleTimerExpired | .rowDetected => [.kbs]
  | .holdExpired | .tachPulse .. | .tachTimeout .. => [.thc]
  | .powerButtonChange .. => [.swc]
  | .setAdapterLimit .. => [.pth, .hlk]
  | .openProfileRow .. | .stageProfileEntry .. | .cancelProfile .. => [.chc, .hlk]
  | .setDischargeLimit .. => [.bga, .hlk]
  | .setLinkDevice .. | .linkTransfer .. | .readLinkStatus .. => [.plc, .hlk]
  | .saveCalibration .. | .saveSettings .. => [.hlk, .sts]
  | .setKeyboard .. => [.kbs, .hlk]
  | .setFanCurvePoint .. | .popHold .. => [.thc, .hlk]
  | .setWake .. | .setWakeTimer .. => [.swc, .hlk]
  | .setRecovery .. => [.fsu, .hlk]
  | .fetchEvents .. | .setRoute .. => [.evr, .hlk]
  | .identityRetryDelay .. => [.pth, .plc]
  | .commitProfile .. => [.chc, .hlk, .sts]
  | .captureAngle .. | .readCapture .. => [.hsi, .evr, .hlk]
  | .fetchKeys .. | .typematicExpiry => [.kbs, .evr, .hlk]
  | .reportTemperature .. | .pushHold .. => [.thc, .evr, .hlk]
  | .takePress .. => [.swc, .evr, .hlk]
  | .fetchFault .. => [.fsu, .evr, .hlk]
  | .settingsSaveComplete => [.evr, .hlk, .sts]
  | .setCharge .. | .snapshotStale .. => [.chc, .plc, .evr, .hlk]
  | .stallTimerExpired .. => [.thc, .fsu, .evr, .hlk]
  | .profileCommitComplete => [.chc, .plc, .evr, .hlk, .sts]
  | .prechargeTimeout .. | .chargeTimeout .. => [.chc, .plc, .fsu, .evr, .hlk]
  | .inputAgeExpired .. => [.chc, .plc, .thc, .evr, .hlk]
  | .enterState .. | .settleTimerExpired | .mainRailDelayExpired | .mainPgAsserted | .powerButtonDebounced
  | .longPress | .graceTimerExpired | .wakeTimerExpired => [.plc, .kbs, .thc, .swc, .evr, .hlk]
  | .clearFault .. => [.pth, .chc, .plc, .fsu, .evr, .hlk]
  | .inputMeasurement .. => [.pth, .chc, .bga, .plc, .evr, .hlk]
  | .insertionDebounceEnd .. => [.pth, .plc, .kbs, .thc, .swc, .evr, .hlk]
  | .scanEnd .. | .dieConversion .. | .powerGoodTimeout | .mainPgLost =>
    [.plc, .kbs, .thc, .swc, .fsu, .evr, .hlk]
  | .setHingeMonitor .. | .clearHingeErrors .. | .setPostureThresholds .. | .samplePair ..
  | .switchDebouncedEdge .. | .dwellExpired | .firstEvaluation =>
    [.plc, .hsi, .psm, .kbs, .thc, .swc, .evr, .hlk]
  | .setSourcePreference .. | .prepareEject .. | .cancelEject .. | .adapterQualified | .unusableHoldEnd ..
  | .ejectWindowExpired => [.pth, .chc, .bga, .plc, .kbs, .thc, .swc, .evr, .hlk]
  | .calibrationSaveComplete => [.plc, .hsi, .psm, .kbs, .thc, .swc, .evr, .hlk, .sts]
  | .persistenceTimerExpired .. => [.plc, .hsi, .psm, .kbs, .thc, .swc, .fsu, .evr, .hlk]
  | .adapterOutOfRange .. | .adapterRemoval .. | .adapterOvervolt .. | .presenceDeasserted ..
  | .pathRailConfirmed .. | .switchFailure => [.pth, .chc, .bga, .plc, .kbs, .thc, .swc, .fsu, .evr, .hlk]
  | .haltJob .. => [.chc, .bga, .plc, .hsi, .psm, .kbs, .thc, .swc, .fsu, .evr, .hlk]
  | .frameSent | .restartJob .. | .transactionEnd .. | .linkRecoveryEnd .. =>
    [.pth, .chc, .bga, .plc, .hsi, .psm, .kbs, .thc, .swc, .fsu, .evr, .hlk]
  | .powerOn .. | .hostFrameReceived .. =>
    [.pth, .chc, .bga, .plc, .hsi, .psm, .kbs, .thc, .swc, .fsu, .evr, .hlk, .sts]

/-! ## Laws -/

/-- Every step that answers a next state keeps a predicate. -/
def KeptByStep (inv : State → Prop) : Prop := ∀ s t, inv s → step s = .next t → inv t

/-- The switches follow the path state: in SWITCHING the target's alone (R1, 01 section 1.1). -/
def SwitchesFollowPath (s : State) : Prop :=
  s.pth.swAdp = decide (s.pth.path.source = some .adapter) ∧
    s.pth.swPa = decide (s.pth.path.source = some .packA) ∧ s.pth.swPb = decide (s.pth.path.source = some .packB)

/-- A qualified adapter is present and not marked overvolt (R2, R3). -/
def QualifiedAdapterSound (s : State) : Prop :=
  s.pth.adapter.qualified = true → s.pth.adapter.present = true ∧ s.pth.adapter.overvolt = false

/-- Off the adapter the setpoint in force is unknown, CHG_EN is deasserted, and a write still in flight
will have no effect (R39, R42). -/
def ChargeNeedsAdapter (s : State) : Prop :=
  s.pth.path ≠ .onAdapter →
    s.chc.inForce = none ∧ s.chc.chgEn = false ∧ (s.chc.inFlight.isSome = true → s.chc.flightVoid = true)

/-- The mode of BGA is the one the path state gives, and outside ADAPTER mode the grants are 0 (R54, R59). -/
def GrantNeedsAdapter (s : State) : Prop :=
  s.bga.mode = modeOf s.pth.path ∧ (s.bga.mode ≠ .adapter → s.bga.applied = 0 ∧ s.bga.computed = 0)

/-- At most one pack is in the active set (R25), and one is there only with the path ON_ADAPTER and the POWER
job RUN, since every session ends with either (R37, R38). -/
def OneSession (s : State) : Prop :=
  ¬(s.charging .A = true ∧ s.charging .B = true) ∧
    ∀ p, s.charging p = true → s.pth.path = .onAdapter ∧ s.running .power = true

/-- Whether a pack is in PRECHARGE, FAST or TOPOFF. -/
def State.inPhase (s : State) (p : PackId) : Bool := (s.charge p).state.phase.isSome

/-- With no pack in a charging phase the desired setpoint is a disable setpoint (R39), and with one there its
current is within the applied grant (R29, R43). -/
def DesiredObeysGrant (s : State) : Prop :=
  ((∀ p, s.inPhase p = false) → s.chc.desired.ma = 0 ∧ s.chc.desired.enable = false) ∧
    ∀ p, s.inPhase p = true → s.chc.desired.ma ≤ s.bga.applied

/-- CHG_EN is asserted while a pack is in a charging phase and the setpoint in force is known, on, and within the
desired one, and only then or with a reduction deadline not yet taken as expired (R42); with the current in force above
the applied grant, only while the end of the 50 ms after a reduction of the grant is not yet taken (R43). -/
def EnableFollowsSetpoint (s : State) : Prop :=
  (s.chc.chgEn = true →
    (s.inPhase .A = true ∨ s.inPhase .B = true) ∧
      ∃ f, s.chc.inForce = some f ∧ f.enable = true ∧
        (f.exceeds s.chc.desired = false ∨ s.chc.deadline.isSome = true) ∧
        (f.ma ≤ s.bga.applied ∨ s.bga.cutLeft.isSome = true)) ∧
    (∀ p f, s.inPhase p = true → s.chc.inForce = some f → f.enable = true → f.exceeds s.chc.desired = false →
      s.chc.chgEn = true)

/-- The setpoint slots (R40): the pending slot is empty while CHC may not write, and while the link takes writes
with none in flight; while CHC may write, the newest desired setpoint is pending, or in flight, or in force. -/
def NewestSetpointOnItsWay (s : State) : Prop :=
  (s.mayWrite = false → s.chc.next = none) ∧
    (s.running .link = true → s.chc.inFlight = none → s.chc.next = none) ∧
    (s.mayWrite = true →
      s.chc.next = some s.chc.desired ∨
        (s.chc.next = none ∧ s.chc.flightVoid = false ∧
          s.chc.inFlight.or s.chc.inForce = some s.chc.desired))

/-- The link is IDLE exactly with nothing on the wire, and at work only while the LINK job is RUN or QUIESCING
(R83); an IDLE link that the job runs leaves no charger item, no segment and no setpoint write waiting (R73); and
the write PLC runs is CHC's in flight, its item in the CHARGER slot or on the wire (R75). -/
def LinkServesItsSlots (s : State) : Prop :=
  (s.plc.link = .idle ↔ s.plc.wire = none) ∧
    (s.plc.link ≠ .idle → (s.job .link).state = .run ∨ (s.job .link).state = .quiescing) ∧
    (s.running .link = true → s.plc.link = .idle →
      s.plc.chargerSlot = none ∧ s.plc.passSlot = none ∧ s.plc.write = none) ∧
    s.plc.write.map (·.setpoint) = s.chc.inFlight ∧
    (s.plc.write.isSome = true →
      s.plc.chargerSlot.isSome = true ∨ s.plc.wire.map (·.client) = some .charger) ∧
    (s.plc.write.isSome = true → (s.job .link).state = .run ∨ (s.job .link).state = .quiescing)

/-- The Capture Queue holds at most 2 captures (R100). -/
def CaptureQueueBounded (s : State) : Prop := s.hsi.captures.length ≤ 2

/-- The validity is FAILED exactly while an error flag is set (R96). -/
def ValidityFollowsFlags (s : State) : Prop :=
  s.hsi.validity = .failed ↔ s.hsi.monitors.anyError = true

/-- PSM has the reported angle and the validity HSI has (R93, R96). -/
def PostureHearsHinge (s : State) : Prop :=
  s.psm.angle = s.hsi.reported ∧ s.psm.validity = s.hsi.validity

/-- The conflict record is yes while both debounced levels are asserted, and no otherwise (R108). -/
def ConflictFollowsSwitches (s : State) : Prop :=
  s.psm.conflict = (s.psm.lid.debounced && s.psm.tablet.debounced)

/-- The angle band is none unless the HINGE job is RUN and the validity REFERENCED (R109). -/
def BandNeedsReference (s : State) : Prop :=
  s.psm.band.isSome = true → s.running .hinge = true ∧ s.psm.validity = .referenced

/-- The Key Event Queue holds at most 32 entries (R124). -/
def KeyQueueBounded (s : State) : Prop := s.kbs.queue.length ≤ 32

/-- No OVERFLOW marker directly follows another in the Key Event Queue (R124). -/
def MarkersStandApart (s : State) : Prop :=
  ∀ i a b, s.kbs.queue[i]? = some a → s.kbs.queue[i + 1]? = some b → ¬(a.kind = .overflow ∧ b.kind = .overflow)

/-- Each fan's governing temperature is the one its inputs give (R138). -/
def GoverningFollowsInputs (s : State) : Prop :=
  ∀ f : Fan, (s.fan f).governing = governing s.thc.inputs f

/-- Each fan's effective duty is 100 % whenever the THERMAL job is not RUN, and at least its curve duty
whenever its governing temperature is at or above the floor temperature (R140). -/
def FanDutyLaw (s : State) : Prop :=
  ∀ f : Fan,
    (s.running .thermal = false → (s.fan f).duty = 100) ∧
      ∀ g, (s.fan f).governing = some g → s.thc.floor ≤ g → s.running .thermal = true →
        (s.fan f).curveDuty ≤ (s.fan f).duty

/-- The Hold Stack holds at most 6 holds (R140). -/
def HoldStackBounded (s : State) : Prop := s.thc.holds.length ≤ 6

/-- The press count lies between 0 and 15 (R163). -/
def PressCountBounded (s : State) : Prop := s.swc.presses ≤ 15

/-- A pending list names no source twice (R182). -/
def ListsNameOnce (s : State) : Prop :=
  (s.evr.listS.map (·.src)).Nodup ∧ (s.evr.listP.map (·.src)).Nodup

/-- No exclusive source is routed to both channels (R182). -/
def ExclusiveRoutesSingle (s : State) : Prop := ∀ e : EvSource, EvSource.exclusive e = true → s.route e ≠ .both

/-- A LEVEL source stands in the list of a channel exactly while it is routed there and its condition is
true (R184). -/
def LevelEntriesFollowConditions (s : State) : Prop :=
  ∀ (c : Channel) (e : EvSource), EvSource.level e = true →
    ((∃ p ∈ s.list c, p.src = e) ↔ (s.route e).names c = true ∧ s.condition e = true)

/-- The conditions of the LEVEL sources are what their owners hold (R125, R100, R163, R170). -/
def ConditionsFollowOwners (s : State) : Prop :=
  s.evr.keys = !s.kbs.queue.isEmpty ∧ s.evr.capture = !s.hsi.captures.isEmpty ∧
    s.evr.button = decide (0 < s.swc.presses) ∧ s.evr.fault = s.anyActive

/-- The request queue holds at most 4 requests (R191). -/
def RequestQueueBounded (s : State) : Prop := s.hlk.queue.length ≤ 4

/-- The reset-pending mark stands only while the OK of RESET PART waits in the queue (R193). -/
def ResetAwaitsReply (s : State) : Prop :=
  s.hlk.resetPending = true → ∃ q ∈ s.hlk.queue, q.resets = true

/-- The tables have the sizes the manual gives them, and so have those of the store: 13 fault records, 29
routes, 8 link devices, 16 profile entries with 8 latches, 144 keys and 18 columns (R45, R68, 07, 10, 11). -/
def TablesWhole (s : State) : Prop :=
  s.fsu.table.length = 13 ∧ s.evr.routes.length = 29 ∧ s.plc.devices.length = 8 ∧ s.chc.table.length = 16 ∧
    s.chc.latches.length = 8 ∧ s.kbs.keys.length = 144 ∧ s.kbs.shortRuns.length = 18 ∧
    (∀ r, s.chc.openRow = some r → r < 2) ∧ s.sts.row0.length = 8 ∧ s.sts.row1.length = 8 ∧
    s.sts.row2.routes.length = 29 ∧ s.sts.row2.link.length = 8 ∧
    (∀ row es n, s.sts.busy = some (.profile row es, n) → row < 2 ∧ es.length = 8) ∧
    ∀ r n, s.sts.busy = some (.settings r, n) → r.routes.length = 29 ∧ r.link.length = 8

/-- RAIL_MAIN_EN is asserted only while the path is not NO_SOURCE and the platform neither SLEEP nor OFF
(R154); with it go what keeps it so: NO_SOURCE only in OFF and POWERING_UP (R159), and the power-good timer
only in WAKING and POWERING_UP with RAIL_MAIN_EN asserted (R157). -/
def MainRailNeedsSource (s : State) : Prop :=
  (s.swc.railMain = true → s.pth.path ≠ .noSource ∧ s.swc.platform ≠ .sleep ∧ s.swc.platform ≠ .off) ∧
    (s.pth.path = .noSource → s.swc.platform = .off ∨ s.swc.platform = .poweringUp) ∧
    (s.swc.powerGood.isSome = true →
      s.swc.railMain = true ∧ (s.swc.platform = .waking ∨ s.swc.platform = .poweringUp))

/-- The scan mode is SUPPRESSED exactly in the cases R119 gives. -/
def SuppressionFollowsItsCauses (s : State) : Prop := s.kbs.mode = .suppressed ↔ s.suppressing = true

/-- In SUPPRESSED every key is UP and no typematic key runs (R127). -/
def SuppressedKeysUp (s : State) : Prop :=
  s.kbs.mode = .suppressed → (∀ e ∈ s.kbs.keys, e.state = .up) ∧ s.kbs.typematic = none

end Sys2Proof.Machine
end

