-- ==== Sys2Proof/Certificates/Slice0/Obligations.lean ====
section
/-! DEFINITION. The statements for the provers. -/

open Sys2Proof Sys2Proof.Machine

/-- A step takes the command at the front of the queue and answers what it answers on the queue's rest. -/
def Obligations.StepRunsFrontCommand : Prop :=
  ∀ (c : Instr) (rest : List Instr) (s : State), s.pending = c :: rest → step s = exec c (s.setPending rest)

/-- With no command waiting 1 ms passes: time counts, and nothing is reported or decided (the model's
choice, log entry 2); the level of PL_SCL in it is a free value (log entry 22). -/
def Obligations.IdleStepPassesOneMillisecond : Prop :=
  ∀ s : State, s.pending = [] →
    ∃ t, step s = .next t ∧ t.time = s.time + 1 ∧ t.pending = [] ∧ t.evr = s.evr ∧
      (s.plc.link = .idle → t.plc = s.plc) ∧
      (s.plc.link ≠ .idle →
        t.plc =
          { s.plc with
            looks := s.plc.looks + 1,
            holdTime := if Config.sclHeldLow s.plc.looks then min 51 (s.plc.holdTime + 1) else 0 }) ∧
      (s.hlk.rx = .hunting → t.hlk = s.hlk) ∧
      (∀ bytes gap, s.hlk.rx = .inFrame bytes gap → t.hlk = { s.hlk with rx := .inFrame bytes (min 3 (gap + 1)) }) ∧
      t.fsu = s.fsu ∧ t.pth.path = s.pth.path ∧ t.pth.swAdp = s.pth.swAdp ∧ t.pth.swPa = s.pth.swPa ∧
      t.pth.swPb = s.pth.swPb ∧ t.swc.platform = s.swc.platform ∧ t.swc.railSlp = s.swc.railSlp ∧
      t.swc.railMain = s.swc.railMain ∧ t.chc.chgEn = s.chc.chgEn ∧ t.bga.throttle = s.bga.throttle ∧
      t.sts.row0 = s.sts.row0 ∧ t.sts.row1 = s.sts.row1 ∧ t.sts.row2 = s.sts.row2 ∧ t.sts.row3 = s.sts.row3

/-- The laws kept by every step hold in the state after reset. -/
def Obligations.LawsHoldAfterReset : Prop :=
  SwitchesFollowPath .reset ∧ QualifiedAdapterSound .reset ∧ ChargeNeedsAdapter .reset ∧ GrantNeedsAdapter .reset ∧
    OneSession .reset ∧ DesiredObeysGrant .reset ∧ EnableFollowsSetpoint .reset ∧ NewestSetpointOnItsWay .reset ∧
    LinkServesItsSlots .reset ∧
    CaptureQueueBounded .reset ∧ ValidityFollowsFlags .reset ∧ PostureHearsHinge .reset ∧
    ConflictFollowsSwitches .reset ∧ BandNeedsReference .reset ∧ KeyQueueBounded .reset ∧
    MarkersStandApart .reset ∧
    GoverningFollowsInputs .reset ∧ FanDutyLaw .reset ∧ HoldStackBounded .reset ∧ PressCountBounded .reset ∧
    ListsNameOnce .reset ∧ ExclusiveRoutesSingle .reset ∧ LevelEntriesFollowConditions .reset ∧
    ConditionsFollowOwners .reset ∧ RequestQueueBounded .reset ∧ ResetAwaitsReply .reset ∧ TablesWhole .reset ∧
    MainRailNeedsSource .reset ∧ SuppressionFollowsItsCauses .reset ∧ SuppressedKeysUp .reset

/-- POWER_ON answers a next state with the starting values of the path, the packs, charging, the grant, the link, the
hinge, the posture, the keys, the fans, the platform, the jobs and HLK, the settings of row 2, the counts that asserted
lines start, and the pending lists with the events of the invalid rows and no other (R196 and each chapter's rule). The
order of these events is log entry 34, and the number of ROW_INVALID, 0, log entry 5. -/
def Obligations.PowerOnStartsThePart : Prop :=
  ∀ (l : Lines) (s : State),
    let st := s.sts.afterLoss
    let r := if st.valid2 then st.row2 else Settings.factory
    let bad :=
      [(0, st.valid0), (1, st.valid1), (2, st.valid2), (3, st.valid3)].filterMap fun x => if x.2 then none else some x.1
    ∃ t, exec (.powerOn l) s = .next t ∧ t.time = 0 ∧ t.pending = s.pending ∧ t.sts = s.sts.afterLoss ∧
      (t.pth.path = .noSource ∧ t.pth.swAdp = false ∧ t.pth.swPa = false ∧ t.pth.swPb = false ∧ t.pth.ejectOk = false) ∧
      (t.pth.adapter.qualified = false ∧ t.pth.adapter.overvolt = false ∧ t.pth.adapter.hold = none ∧
        t.pth.adapter.present = decide (11500 ≤ l.senseMv.toNat)) ∧
      (∀ p, (t.pack p).presence = .absent ∧ (t.pack p).identity = none ∧ (t.pack p).snapshot = none ∧
        (t.pack p).usable = false) ∧
      (t.swc.platform = .off ∧ t.swc.railSlp = false ∧ t.swc.railMain = false ∧ t.swc.presses = 0 ∧
        t.swc.wakeTimer = none ∧ t.swc.grace = none ∧ t.swc.band = .aboveLow) ∧
      ((∀ j, (t.job j).state = .run) ∧ t.fsu.table = List.replicate 13 .empty) ∧
      (t.chc.inForce = none ∧ t.chc.inFlight = none ∧ t.chc.next = none ∧ t.chc.chgEn = false ∧ t.chc.openRow = none ∧
        t.chc.caught = none ∧ ∀ p, (t.charge p).state = if (t.charge p).inhibit then .inhibitedHost else .idle) ∧
      (t.bga.mode = .none ∧ t.bga.applied = 0 ∧ t.bga.throttle = .released) ∧
      (t.plc.link = .idle ∧ t.plc.wire = none ∧ t.plc.pass = none ∧ t.plc.result = none) ∧
      (t.hsi.captures = [] ∧ t.hsi.lost = false ∧
        t.hsi.validity = if s.sts.afterLoss.valid3 then .referenced else .failed) ∧
      (t.psm.current = .unknown ∧ t.psm.band = none ∧ t.psm.evaluated = false ∧ t.psm.lastChange = none) ∧
      (t.kbs.mode = .suppressed ∧ t.kbs.keys = allUp ∧ t.kbs.queue = [] ∧ t.kbs.typematic = none) ∧
      (t.thc.fan0 = .initial ∧ t.thc.fan1 = .initial ∧ t.thc.holds = [] ∧ t.thc.derate = .half) ∧
      t.hlk = .reset ∧
      (t.adapter.count = if 11500 ≤ l.senseMv.toNat ∧ l.senseMv.toNat ≤ 21000 then some 0 else none) ∧
      (t.pth.packA.line = l.packADet ∧ t.pth.packB.line = l.packBDet ∧
        ∀ p, (t.pack p).debounce = if (t.pack p).line then some 0 else none) ∧
      (t.psm.lid = ⟨l.lid, false, if l.lid then some 0 else none⟩ ∧
        t.psm.tablet = ⟨l.tablet, false, if l.tablet then some 0 else none⟩) ∧
      (t.swc.button = l.button ∧ t.swc.count = (if l.button then some 0 else none) ∧ t.swc.mainPg = l.mainPg) ∧
      (t.evr.button = false ∧ t.evr.keys = false ∧ t.evr.capture = false ∧ t.evr.fault = false) ∧
      (∀ c, t.list c =
        (if st.valid3 = false ∧ (t.route .hingeError).names c = true then [⟨.hingeError, 1, [some 3]⟩] else []) ++
          if bad ≠ [] ∧ (t.route .storeDone).names c = true then
            [⟨.storeDone, bad.length, [some 0, bad.getLast?.map Int.ofNat]⟩]
          else []) ∧
      SettingsLoaded r t ∧
      (t.chc.default0 = !st.valid0 ∧ t.chc.default1 = !st.valid1 ∧
        (st.row0.length = 8 →
          t.chc.table =
            (if st.valid0 then st.row0 else Sys2Proof.Machine.defaultRow 0) ++
              if st.valid1 then st.row1 else Sys2Proof.Machine.defaultRow 1))

/-- A request that is held, that gets QFULL, or that is DENIED has no other effect (R191), nor does it end a series in
assembly (log entry 1). -/
def Obligations.RequestsTurnedAway : Prop :=
  ∀ (c : Instr) (kind : Nat) (h : ReqHead) (s : State), c.request = some (kind, h) →
    (s.hlk.resetPending = true →
      exec c s = .next (s.setHlk { s.hlk with held := s.hlk.held ++ [⟨kind, h⟩] })) ∧
    (s.hlk.resetPending = false → 4 ≤ s.hlk.queue.length →
      ∃ t, exec c s = .next t ∧ SameButHlk s t ∧ t.hlk.queue = s.hlk.queue ∧ (s.hlk.qfull.isSome → t = s) ∧
        (s.hlk.qfull = none → s.hlk.wire.isSome → t.hlk = { s.hlk with qfull := some ⟨kind, h⟩ }) ∧
        (s.hlk.qfull = none → s.hlk.wire = none →
          t.hlk = { s.hlk with wire := some (Refused.frame ⟨kind, h⟩) })) ∧
    (s.takes → privileged kind = true → h.chan = .S → Replies c s .denied [] s)

/-- A request that is taken gets one reply with its own kind and head, the newest of the queue (R191). That a request
command leaves a series in assembly as it is is the model's choice (log entry 1). -/
def Obligations.TakenRequestGetsOneReply : Prop :=
  ∀ (c : Instr) (kind : Nat) (h : ReqHead) (s : State), c.request = some (kind, h) → s.takes →
    ∃ reply t, exec c s = .next t ∧ t.hlk.queue = s.hlk.queue ++ [{ kind := kind, head := h, reply := reply }] ∧
      t.hlk.rx = s.hlk.rx ∧ t.hlk.series = s.hlk.series ∧ t.hlk.held = s.hlk.held ∧ t.time = s.time ∧
      t.pending = s.pending ∧ t.sts.row0 = s.sts.row0 ∧ t.sts.row1 = s.sts.row1 ∧ t.sts.row2 = s.sts.row2 ∧
      t.sts.row3 = s.sts.row3 ∧ t.sts.valid0 = s.sts.valid0 ∧ t.sts.valid1 = s.sts.valid1 ∧
      t.sts.valid2 = s.sts.valid2 ∧ t.sts.valid3 = s.sts.valid3

/-- The whole frame of a one-part request, arriving at a HUNTING receiver, is that request (R189 to R191). -/
def Obligations.OnePartFrameIsTheRequest : Prop :=
  ∀ (c : Instr) (kind : Nat) (h : ReqHead) (s : State),
    c.request = some (kind, h) → c.wellFormed = true → c.fields.length ≤ 47 → s.hlk.rx = .hunting →
    exec (.hostFrameReceived (onLine (requestFrame kind h (onePart c.fields)))) s =
      exec c (s.setHlk { s.hlk with series := none })

/-- What R189 discards changes nothing but the receiver; a byte that comes more than 2 ms after the last of its frame
meets a HUNTING receiver. That a gap timeout which is not due changes nothing is log entry 2. -/
def Obligations.BrokenFramesAreDropped : Prop :=
  ∀ s : State,
    (∀ b : RxByte, s.hlk.rx = .hunting → b.data ≠ 0xA5#8 → exec (.hostFrameReceived [b]) s = .next s) ∧
    (∀ (b : RxByte) (bytes : List Byte) (gap : Nat), s.hlk.rx = .inFrame bytes gap → b.stop = false →
      exec (.hostFrameReceived [b]) s = .next (s.setHlk { s.hlk with rx := .hunting })) ∧
    (∀ (b : RxByte) (gap : Nat), s.hlk.rx = .inFrame [] gap → gap ≤ 2 → 48 < b.data.toNat →
      exec (.hostFrameReceived [b]) s = .next (s.setHlk { s.hlk with rx := .hunting })) ∧
    (∀ (b : RxByte) (len : Byte) (body : List Byte) (gap : Nat), s.hlk.rx = .inFrame (len :: body) gap → gap ≤ 2 →
      len.toNat ≤ 48 → body.length = len.toNat + 2 → b.data ≠ crc8 (len :: body) →
      exec (.hostFrameReceived [b]) s = .next (s.setHlk { s.hlk with rx := .hunting })) ∧
    (∀ (bytes : List Byte) (gap : Nat), s.hlk.rx = .inFrame bytes gap → 2 < gap →
      exec .frameGapTimeout s = .next (s.setHlk { s.hlk with rx := .hunting }) ∧
        ∀ later : List RxByte, later ≠ [] →
          exec (.hostFrameReceived later) s = exec (.hostFrameReceived later) (s.setHlk { s.hlk with rx := .hunting })) ∧
    (∀ (bytes : List Byte) (gap : Nat), s.hlk.rx = .inFrame bytes gap → gap ≤ 2 → exec .frameGapTimeout s = .next s) ∧
    (s.hlk.rx = .hunting → exec .frameGapTimeout s = .next s)

/-- Part assembly on a whole frame, by its part byte (R190), and the request it completes, with the two refusals HLK
makes by its kind and its number of bytes (R191). The numbers of bytes of two forms are log entry 6. -/
def Obligations.SeriesFollowsItsParts : Prop :=
  ∀ (s : State) (kind : Nat) (h : ReqHead) (count index : Nat) (data : List Byte),
    kind ≤ 127 → 1 ≤ count → count ≤ 16 → index ≤ 15 → data.length ≤ 47 → s.hlk.rx = .hunting →
    s.hlk.resetPending = false →
    let ck := ckByte h.chan kind
    let s0 := s.setHlk { s.hlk with series := none }
    let arrives := exec (.hostFrameReceived (onLine (partFrame kind h count index data))) s
    (index = 0 → count = 1 → arrives = .next (requestComplete ck h.tag 1 data s)) ∧
    (index = 0 → 2 ≤ count → count ≤ 4 →
      arrives =
        .next (s.setHlk
          { s.hlk with series := some { ck := ck, tag := h.tag, count := count, last := 0, fields := data } })) ∧
    (∀ x, s.hlk.series = some x → x.ck = ck → x.tag = h.tag → x.count = count → x.last + 1 = index →
      index < count → count ≤ 4 →
      (index + 1 < count →
        arrives =
          .next (s.setHlk { s.hlk with series := some { x with last := index, fields := x.fields ++ data } })) ∧
      (index + 1 = count →
        arrives = .next (requestComplete ck h.tag count (x.fields ++ data) s) ∧
          (∀ c : Instr, c.request = some (kind, h) → c.wellFormed = true → c.fields = x.fields ++ data →
            47 * (count - 1) < (x.fields ++ data).length → arrives = exec c s0) ∧
          (1 ≤ kind → kind ≤ 52 → s.hlk.queue.length < 4 → ¬(privileged kind = true ∧ h.chan = .S) →
            (x.fields ++ data).length ≤ 47 * (count - 1) →
            arrives = .next (enqueue kind h (⟨.badValue, []⟩, s0))))) ∧
    (∀ all : List Byte, s.hlk.queue.length < 4 →
      (index = 0 ∧ count = 1 ∧ all = data) ∨
        (∃ x, s.hlk.series = some x ∧ x.ck = ck ∧ x.tag = h.tag ∧ x.count = count ∧ x.last + 1 = index ∧
          index + 1 = count ∧ count ≤ 4 ∧ all = x.fields ++ data) →
      ((kind = 0 ∨ 52 < kind) → arrives = .next (enqueue kind h (⟨.unknownKind, []⟩, s0))) ∧
        (1 ≤ kind → kind ≤ 52 → ¬(privileged kind = true ∧ h.chan = .S) → takesBytes kind all.length = false →
          arrives = .next (enqueue kind h (⟨.badValue, []⟩, s0)))) ∧
    (∀ c : Instr, c.request = some (kind, h) → c.wellFormed = true → takesBytes kind c.fields.length = true) ∧
    ((4 < count ∨ count ≤ index ∨
        (1 ≤ index ∧
          ∀ x, s.hlk.series = some x → ¬(x.ck = ck ∧ x.tag = h.tag ∧ x.count = count ∧ x.last + 1 = index))) →
      arrives = .next s0)

/-- The transmitter at the end of a frame (R191, R192). That a notice state returns to NONE when the transmitter
chooses its frame is log entry 13; that the reply which brings the reset is known by its kind and status is log
entry 35. -/
def Obligations.TransmitterSendsInOrder : Prop :=
  ∀ s : State,
    (s.hlk.wire = none → exec .frameSent s = .next s) ∧
    (∀ f part parts q rest, s.hlk.wire = some f → f.kind = .reply part parts → s.hlk.queue = q :: rest →
      (part + 1 < parts →
        exec .frameSent s = .next (s.setHlk { s.hlk with wire := some (q.frame (part + 1)) })) ∧
      (parts ≤ part + 1 → ¬(q.resets = true ∧ s.hlk.resetPending = true) →
        exec .frameSent s = .next (txChoose (s.setHlk { s.hlk with wire := none, queue := rest })))) ∧
    (∀ f, s.hlk.wire = some f → (f.kind = .qfull ∨ ∃ c, f.kind = .notice c) →
      exec .frameSent s = .next (txChoose (s.setHlk { s.hlk with wire := none }))) ∧
    SameButHlk s (txChoose s) ∧
    (s.hlk.wire = none →
      (txChoose s).hlk =
        match s.hlk.qfull, s.hlk.noticeS, s.hlk.noticeP, s.hlk.queue with
        | some r, _, _, _ => { s.hlk with wire := some r.frame, qfull := none }
        | none, some n, _, _ => { s.hlk with wire := some ⟨.notice .S, noticeFrame .S n⟩, noticeS := none }
        | none, none, some n, _ => { s.hlk with wire := some ⟨.notice .P, noticeFrame .P n⟩, noticeP := none }
        | none, none, none, q :: _ => { s.hlk with wire := some (q.frame 0) }
        | none, none, none, [] => s.hlk)

/-- The soft reset, at the end of RESET PART's reply (R193), which the model knows by its kind and status (log
entry 35). Nothing in EVR before it is left after it: the lists hold what the reset itself raises, STORE_DONE for an
invalid row among it, and no LEVEL source (R188). The path, its switches and the records of PTH are kept, and one
selection runs (R24); the charge states are those of R53, with the test of R26 after them. -/
def Obligations.ResetReplyBringsTheSoftReset : Prop :=
  ∀ (s : State) (f : TxFrame) (part parts : Nat) (q : Queued) (rest : List Queued),
    s.hlk.wire = some f → f.kind = .reply part parts → parts ≤ part + 1 → s.hlk.queue = q :: rest →
    q.resets = true → s.hlk.resetPending = true →
    ∃ t, exec .frameSent s = .next t ∧ t.time = s.time ∧ t.pending = s.pending ∧ t.sts = s.sts ∧
      (t.hlk.queue = [] ∧ t.hlk.held = [] ∧ t.hlk.rx = .hunting ∧ t.hlk.series = none ∧ t.hlk.qfull = none ∧
        t.hlk.resetPending = false) ∧
      t.thc.holds = [] ∧ t.hsi.captures = [] ∧ t.hsi.lost = false ∧ t.swc.presses = 0 ∧ t.swc.wakeTimer = none ∧
      t.fsu.table = List.replicate 13 .empty ∧ (∀ j, (t.job j).state = .run) ∧ t.chc.openRow = none ∧
      t.plc.pass = none ∧ t.plc.result = none ∧ t.psm.current = s.psm.current ∧
      (t.kbs.queue = [] ∧ t.kbs.overflow = false ∧ t.kbs.keys = allUp ∧ t.kbs.typematic = none ∧
        t.kbs.idleTimer = 0 ∧ t.kbs.shortRuns = noRuns) ∧
      (t.evr.button = false ∧ t.evr.keys = false ∧ t.evr.capture = false ∧ t.evr.fault = false) ∧
      (∀ c, (∀ p ∈ t.list c, EvSource.level p.src = false) ∧
        ((∃ p ∈ t.list c, p.src = .storeDone) ↔
          (t.route .storeDone).names c = true ∧ ¬(s.sts.valid0 = true ∧ s.sts.valid1 = true ∧ s.sts.valid2 = true))) ∧
      (∀ e : Evr, exec .frameSent (s.setEvr e) = .next t) ∧
      let r := if s.sts.valid2 then s.sts.row2 else Settings.factory
      let b := s.pth.packB
      let b1 : Pack :=
        { b with
          presence := if b.presence = .ejectPending ∨ b.presence = .ejectReady then .present else b.presence }
      let s1 := s.setPth { s.pth with preference := r.preference, packB := { b1 with usable := b1.isUsable } }
      let s2 :=
        (s1.setChc
          { s.chc with
            a := .initial r.inhibitA, b := .initial r.inhibitB, order := r.order, threshold := r.threshold }).setFsu
          t.fsu
      SettingsLoaded r t ∧
        t.adapter = { s.adapter with hostLimit := r.hostLimit } ∧
        (t.pth.ejectOk = false ∧ t.pth.ejectWindow = none ∧
          (t.pack .B).presence = b1.presence ∧ (t.pack .B).usable = b1.isUsable ∧
          (t.pack .A).presence = (s.pack .A).presence ∧ (t.pack .A).usable = (s.pack .A).usable ∧
          ∀ p, (t.pack p).line = (s.pack p).line ∧ (t.pack p).debounce = (s.pack p).debounce ∧
            (t.pack p).hold = (s.pack p).hold ∧ (t.pack p).identity = (s.pack p).identity ∧
            (t.pack p).snapshot = (s.pack p).snapshot ∧ (t.pack p).relCharge = (s.pack p).relCharge ∧
            (t.pack p).failRun = (s.pack p).failRun ∧ (t.pack p).attempts = (s.pack p).attempts) ∧
        (∀ x, s.pth.path = .switching x → t.pth.path = .switching x ∧ t.pth.knownMv = s.pth.knownMv) ∧
        ((∀ x, s.pth.path ≠ .switching x) → PathSelected s1 t) ∧
        (t.pth.path = s.pth.path →
          t.pth.swAdp = s.pth.swAdp ∧ t.pth.swPa = s.pth.swPa ∧ t.pth.swPb = s.pth.swPb) ∧
        (t.chc.inForce = none ∧ t.chc.caught = none ∧ t.chc.chgEn = false ∧
          (t.pth.path ≠ .onAdapter → t.chc.next = none)) ∧
        (∀ p, (t.charge p).doneSince = false ∧ (t.charge p).entry = none ∧ (t.charge p).preTime = 0 ∧
          (t.charge p).fastTime = 0 ∧ (t.charge p).taperRun = 0) ∧
        (s.pth.path ≠ .onAdapter → ∀ p, t.charge p = s2.charge p) ∧
        (s.pth.path = .onAdapter → s.adapterEligible = true →
          SessionsTried s2 t ∧ t.chc.next = none ∧ t.chc.inFlight = some { mv := 4000, ma := 0, enable := false })

/-- The store's requests and the ends of its programmings (R47, R99, R193, R195). That an end which is not due changes
nothing is log entry 2. -/
def Obligations.StoreRequestsAndCompletions : Prop :=
  (∀ (h : ReqHead) (s : State), s.takes → h.chan = .P →
    (s.sts.busy.isSome → Replies (.resetPart h) s .busy [] s ∧ Replies (.saveSettings h) s .busy [] s) ∧
    (s.sts.busy = none →
      Replies (.resetPart h) s .ok [] (s.setHlk { s.hlk with resetPending := true }) ∧
        Replies (.saveSettings h) s .accepted []
          (s.setSts { s.sts with busy := some (.settings s.gather, 6) }))) ∧
  (∀ s : State,
    (∀ r, s.sts.busy = some (.settings r, 0) →
      ∃ t, exec .settingsSaveComplete s = .next t ∧
        t.sts = { s.sts with busy := none, row2 := r, valid2 := true } ∧
        Raised .storeDone [some 2] s t ∧ t.pth = s.pth ∧ t.chc = s.chc ∧ t.fsu = s.fsu ∧ t.time = s.time) ∧
    (∀ c, s.sts.busy = some (.calibration c, 0) →
      ∃ t, exec .calibrationSaveComplete s = .next t ∧
        t.sts = { s.sts with busy := none, row3 := c, valid3 := true } ∧ t.hsi.stored = c ∧ t.hsi.standIn = false ∧
        t.hsi.monitors.calInvalid.cond = false ∧ Raised .storeDone [some 3] s t) ∧
    (∀ row es, s.sts.busy = some (.profile row es, 0) →
      ∃ t, exec .profileCommitComplete s = .next t ∧ t.sts.busy = none ∧ t.chc.openRow = none ∧
        t.chc.latches = List.replicate 8 none ∧ t.chc.committing = none ∧
        t.chc.table = (s.chc.putRow row es false).table ∧
        (row = 0 → t.sts.row0 = es ∧ t.sts.valid0 = true) ∧ (row = 1 → t.sts.row1 = es ∧ t.sts.valid1 = true) ∧
        Raised .storeDone [some (Int.ofNat row)] s t) ∧
    ((∀ r, s.sts.busy ≠ some (.settings r, 0)) → exec .settingsSaveComplete s = .next s) ∧
    ((∀ c, s.sts.busy ≠ some (.calibration c, 0)) → exec .calibrationSaveComplete s = .next s) ∧
    ((∀ row es, s.sts.busy ≠ some (.profile row es, 0)) → exec .profileCommitComplete s = .next s))

/-- The requests that only read, and the fields each returns in order, numbered as log entry 5 gives (R21, R48, R50,
R64, R86, R103, R115, R133, R142, R149, R167, R193, R194). -/
def Obligations.ReadsReturnRecordsAndChangeNothing : Prop :=
  (∀ (h : ReqHead) (s : State), s.takes →
    (∀ pack p, readPackId pack = some p → Replies (.readPack h pack) s .ok (packContent p s) s) ∧
    (∀ pack, readPackId pack = none → Replies (.readPack h pack) s .badValue [] s) ∧
    Replies (.readPath h) s .ok (pathContent s) s ∧
    Replies (.readCharge h) s .ok (chargeContent s) s ∧
    (∀ entry : Byte, 15 < entry.toNat → Replies (.readProfileEntry h entry) s .badValue [] s) ∧
    (∀ entry : Byte, entry.toNat ≤ 15 → s.chc.committingRow (entry.toNat / 8) = true →
      Replies (.readProfileEntry h entry) s .busy [] s) ∧
    (∀ entry : Byte, entry.toNat ≤ 15 → s.chc.committingRow (entry.toNat / 8) = false →
      Replies (.readProfileEntry h entry) s .ok
        (entryBytes (s.entry entry.toNat) ++ flag8 (s.chc.defaultRow (entry.toNat / 8))) s) ∧
    Replies (.readBudget h) s .ok (budgetContent s.bga) s ∧
    Replies (.readLinkStatus h 1) s .ok (linkContent s) s ∧
    Replies (.readAngle h) s .ok (angleContent s) s ∧
    Replies (.readPosture h) s .ok (postureContent s) s ∧
    Replies (.readKeyMap h 0) s .ok (keyStateContent s.kbs) s ∧
    Replies (.readKeyMap h 1) s .ok (keyAttrContent s.kbs.settings) s ∧
    (∀ choice : Byte, 1 < choice.toNat → Replies (.readKeyMap h choice) s .badValue [] s) ∧
    Replies (.readThermal h 0) s .ok (thermalContent s) s ∧
    Replies (.readThermal h 1) s .ok (curvesContent s.thc) s ∧
    (∀ choice : Byte, 1 < choice.toNat → Replies (.readThermal h choice) s .badValue [] s) ∧
    Replies (.readHolds h) s .ok
      (u8 s.thc.holds.length ++ (s.thc.holds.map (holdBytes s.time)).flatten) s ∧
    Replies (.readWake h) s .ok (wakeContent s) s ∧
    Replies (.identify h) s .ok ([0xE5, 0x72, 0x10, 1, 3] ++ storeBytes s.sts) s ∧
    Replies (.readStoreStatus h) s .ok
      (storeBytes s.sts ++ validByte s.sts.valid0 ++ validByte s.sts.valid1 ++ validByte s.sts.valid2
        ++ validByte s.sts.valid3) s) ∧
  (∀ (p : PackId) (s : State), packContent p s =
      let r := s.pack p
      u8 r.presence.num ++ u8 r.failRun ++ yesNo r.usable ++ orZero 2 r.hold
        ++ (match p with
          | .A => u16 0
          | .B => orZero 2 s.pth.ejectWindow)
        ++ identityBytes r.identity ++ snapshotBytes r.snapshot ++ optU 1 r.relCharge) ∧
  (∀ (s : State), pathContent s =
      let a := s.adapter
      u8 s.pth.path.num
        ++ optU 1 (match s.pth.path with
          | .switching t => some t.num
          | _ => none)
        ++ flag8 s.pth.swAdp ++ flag8 s.pth.swPa ++ flag8 s.pth.swPb ++ flag8 s.pth.ejectOk
        ++ u8 s.pth.preference.num ++ yesNo a.present ++ yesNo a.qualified ++ yesNo a.overvolt ++ u32 a.rating
        ++ u8 a.ratingSource.num ++ orZero 4 a.hostLimit ++ u16 a.lastMv ++ u16 a.lastMa ++ optU 2 a.hold) ∧
  (∀ (s : State), chargeContent s =
      let c := s.chc
      chargeBytes c.a ++ chargeBytes c.b ++ setpointBytes (some c.desired) ++ setpointBytes c.inForce
        ++ setpointBytes c.inFlight ++ setpointBytes c.next ++ flag8 c.chgEn ++ orZero 1 c.deadline
        ++ u8 c.order.num ++ u8 c.threshold ++ yesNo c.a.inhibit ++ yesNo c.b.inhibit
        ++ optU 1 (c.caught.map (·.pack.num)) ++ optU 1 (c.caught.map (·.state.num))) ∧
  (∀ (b : Bga), budgetContent b =
      u8 b.mode.num ++ u16 b.inMv ++ u16 b.inMa ++ u32 b.pIn ++ u32 b.limit ++ u32 b.dChg ++ u16 b.dFan ++ u32 b.sys
        ++ s32 b.allowance ++ optU 1 (b.refPack.map PackId.num) ++ optU 4 b.refMv ++ u16 b.computed
        ++ u16 b.applied ++ u32 b.packPower ++ u8 b.throttle.num ++ optU 1 b.release ++ optTime b.episodeStart
        ++ u32 b.dischargeA ++ u32 b.dischargeB ++ flag8 b.throttleN) ∧
  (∀ (s : State), linkContent s =
      let k := s.plc
      (k.devices.map deviceBytes).flatten ++ u8 k.link.num ++ optU 1 (k.busyWith.map (·.client.num))
        ++ optU 1 (k.busyWith.map (·.item.entry)) ++ slotBytes k.chargerSlot ++ slotBytes k.passSlot
        ++ slotBytes k.packSlot ++ slotBytes k.sensorSlot ++ u8 k.alternation.num
        ++ optU 1 (k.pass.map (·.entry)) ++ optU 1 (k.pass.map fun p => p.write.toNat)
        ++ optU 1 (k.pass.map (·.seg)) ++ optU 1 (k.pass.map (·.done)) ++ flag8 k.caught.isSome
        ++ u8 k.runTs0 ++ u8 k.runTs1 ++ optTime (s.nextDue .A) ++ optTime (s.nextDue .B)) ∧
  (∀ (s : State), angleContent s =
      let h := s.hsi
      u16 h.reported ++ u8 h.validity.num ++ u16 h.raw ++ u16 h.closedRef ++ u16 h.magnitude ++ flag8 h.rejected
        ++ u32 h.speed ++ trackerBytes h.sin ++ trackerBytes h.cos ++ u16 h.nominal ++ u8 h.hysteresis
        ++ monitorBytes h.monitors.vectorLow ++ monitorBytes h.monitors.clip ++ monitorBytes h.monitors.spin
        ++ monitorBytes h.monitors.calInvalid ++ monitorBytes h.monitors.gainLimit
        ++ monitorBytes h.monitors.offsetLimit ++ u16 h.persistence.vectorLow ++ u16 h.persistence.clip
        ++ u16 h.persistence.spin ++ u16 h.persistence.calInvalid ++ flag8 h.standIn ++ u8 h.captures.length
        ++ flag8 h.lost ++ u8 (s.job .hinge).state.num) ∧
  (∀ (s : State), postureContent s =
      let p := s.psm
      u8 p.current.num ++ optTime (p.lastChange.map (·.1)) ++ optU 1 (p.lastChange.map fun x => x.2.num)
        ++ u8 p.candidate.num ++ orZero 2 p.dwell ++ u8 (if s.running .hinge then 0 else 1)
        ++ optU 1 (p.band.map Band.num) ++ u16 p.angle ++ u8 p.validity.num ++ switchBytes p.lid
        ++ switchBytes p.tablet ++ yesNo p.conflict ++ u16 p.settings.standEnter ++ u16 p.settings.standLeave
        ++ u16 p.settings.tabletEnter ++ u16 p.settings.tabletLeave ++ u16 p.settings.dwell) ∧
  (∀ (k : Kbs), keyStateContent k =
      (k.keys.map fun e => flag8 e.state.held).flatten ++ u8 k.mode.num ++ flag8 k.burst ++ u8 k.queue.length
        ++ setClear k.overflow ++ optU 1 (k.typematic.map (·.key))
        ++ optU 1 (k.typematic.map fun t => t.repeating.toNat)) ∧
  (∀ (t : KeySettings), keyAttrContent t =
      (t.map.map fun a => u8 a.num).flatten ++ u8 (modifiers t.map) ++ u8 t.pressDebounce ++ u8 t.releaseDebounce
        ++ u16 t.delay ++ u16 t.period ++ yesNo t.wakeEnable) ∧
  (∀ (s : State), thermalContent s =
      let i := s.thc.inputs
      inputBytes s.time i.ts0 ++ u8 i.ts0.tripRun ++ inputBytes s.time i.ts1 ++ u8 i.ts1.tripRun
        ++ inputBytes s.time i.die ++ u8 i.die.tripRun ++ inputBytes s.time i.hostrep ++ fanBytes s.thc.fan0
        ++ fanBytes s.thc.fan1 ++ u8 s.tabletSet.toNat ++ u8 s.thc.holds.length ++ u8 s.thc.derate.num
        ++ s16 s.thc.floor ++ s16 s.thc.trip ++ u8 (s.job .thermal).state.num) ∧
  (∀ (t : Thc), curvesContent t =
      curveBytes t.curves.fan0Normal ++ curveBytes t.curves.fan0Tablet ++ curveBytes t.curves.fan1Normal
        ++ curveBytes t.curves.fan1Tablet ++ s16 t.floor ++ s16 t.trip) ∧
  (∀ (s : State), wakeContent s =
      let w := s.swc
      u8 w.platform.num ++ flag8 w.railSlp ++ flag8 w.railMain ++ flag8 w.mainPg ++ u8 w.waitLeft
        ++ optU 1 (w.primary.map WakeSource.num) ++ u8 w.fired.byte ++ optTime w.wakeTime ++ u8 w.lastOff.num
        ++ u8 w.settings.sleepMask.byte ++ u8 w.settings.offMask.byte ++ yesNo w.settings.autoOn
        ++ flag8 w.debounced ++ u16 (min 4000 (w.pressTime.getD 0)) ++ u8 w.presses ++ u8 w.settings.low
        ++ u8 w.settings.critical ++ u8 w.settings.shutdown ++ optU 4 s.combined ++ u8 w.band.num
        ++ orZero 2 w.grace ++ u32 w.wakeLeft) ∧
  (∀ (i : Option Identity), identityBytes i =
      optU 4 (i.map (·.serial)) ++ optU 1 (i.map (·.chemistry)) ++ optU 1 (i.map (·.cells))
        ++ optU 4 (i.map (·.capacity)) ++ optU 1 (i.map Identity.mask)) ∧
  (∀ (x : Option Snapshot), snapshotBytes x =
      optU 4 (x.map (·.voltage)) ++ optS 4 (x.map (·.current)) ++ optS 4 (x.map (·.temp))
        ++ optU 4 (x.map (·.remaining)) ++ optU 4 (x.map (·.full)) ++ optFlag (x.map (·.overTemp))
        ++ optFlag (x.map (·.overCharge)) ++ optFlag (x.map (·.terminate)) ++ optFlag (x.map (·.fullyCharged))
        ++ optFlag (x.map (·.fullyDischarged)) ++ optU 4 (x.bind (·.reqVoltage)) ++ optU 4 (x.bind (·.reqCurrent))
        ++ optU 4 (x.bind (·.cycles)) ++ optTime (x.map (·.time))) ∧
  (∀ (c : Charge), chargeBytes c =
      u8 c.state.num ++ optU 1 c.state.reason ++ optU 1 c.entry ++ u32 c.preTime ++ u32 c.fastTime ++ u8 c.taperRun
        ++ yesNo c.doneSince ++ optU 1 c.relAtDone) ∧
  (∀ (p : Option Setpoint), setpointBytes p =
      optU 2 (p.map (·.mv)) ++ optU 2 (p.map (·.ma)) ++ optU 1 (p.map fun x => if x.enable then 0 else 1)) ∧
  (∀ (e : ProfileEntry), entryBytes e =
      yesNo e.valid ++ u8 e.chemistry ++ s16 e.bandLow ++ s16 e.bandHigh ++ u16 e.cellMv ++ u16 e.maxMa
        ++ yesNo e.useRequest ++ u16 e.preCellMv ++ u16 e.preMa ++ u16 e.taperMa ++ u8 e.preMin ++ u16 e.fastMin) ∧
  (∀ (d : LinkDevice), deviceBytes d =
      yesNo d.policy.defined ++ optU 1 d.policy.address ++ u8 d.cls.num ++ u8 d.policy.segLen ++ u8 d.policy.abort.num
        ++ u8 d.policy.retryLimit ++ u8 d.policy.holdLimit ++ yesNo d.policy.check ++ setClear d.noack
        ++ setClear d.hold ++ setClear d.badcheck) ∧
  (∀ (t : Option Txn), slotBytes t = flag8 t.isSome ++ optU 1 (t.map (·.entry))) ∧
  (∀ (t : Tracker), trackerBytes t = u16 t.gain ++ s16 t.offset ++ flag8 t.gainMark ++ flag8 t.offsetMark) ∧
  (∀ (m : Monitor), monitorBytes m = flag8 m.cond ++ setClear m.flag ++ yesNo m.monitor ++ yesNo m.latch) ∧
  (∀ (l : SwitchLine), switchBytes l = u8 (if l.debounced then 0 else 1) ++ flag8 l.count.isSome) ∧
  (∀ (now : Time) (i : Input), inputBytes now i =
      s16 i.value ++ flag8 i.valid ++ optTime i.time ++ optU 4 (i.age now) ++ u8 i.fired.toNat) ∧
  (∀ (r : FanRec), fanBytes r =
      optS 2 r.governing ++ optS 2 r.curveInput ++ u8 r.curveDuty ++ u8 r.duty ++ u8 r.origin.num ++ u16 r.speed
        ++ optTime r.lastPulse ++ u16 r.stallTimer ++ setClear r.stalled) ∧
  (∀ (c : List CurvePoint), curveBytes c = (c.map fun p => s16 p.temp ++ u8 p.duty).flatten) ∧
  (∀ (now : Time) (x : Hold), holdBytes now x =
      u8 x.owner.num ++ u8 (x.fan0.getD 0xFE) ++ u8 (x.fan1.getD 0xFE) ++ time32 x.pushed ++ optU 4 (x.left now)) ∧
  (∀ (t : Sts), storeBytes t =
      u8 (if t.busy.isSome then 1 else 0) ++ optU 1 (t.busy.map (·.1.row)) ++ optU 1 (t.busy.map (·.1.num))
        ++ optU 1 (t.busy.map (·.2)))

/-- The settings of PTH (R22), the preference a selection point (R12), and the discharge limits (R65). That an eject
pending is not withdrawn to a pack B that is not usable, and that with POWER not RUN the withdrawal leaves the path, is
log entry 45; that a postponed choice is made with the records of the moment it is made is log entry 46. -/
def Obligations.PathSettingsRequests : Prop :=
  ∀ (h : ReqHead) (s : State), s.takes →
    (∀ pref : Byte, 2 < pref.toNat → Replies (.setSourcePreference h pref) s .badValue [] s) ∧
    (∀ (pref : Byte) (p : Preference), readEnum [Preference.auto, .preferA, .preferB] pref = some p →
      ∃ t, Replies (.setSourcePreference h pref) s .ok [] t ∧ t.pth.preference = p ∧ t.pth.adapter = s.pth.adapter ∧
        t.pth.packA = s.pth.packA ∧
        (t.pth.packB = s.pth.packB ∨
          (s.pth.packB.presence = .ejectPending ∧ t.pth.packB = { s.pth.packB with presence := .present })) ∧
        t.hsi = s.hsi ∧ t.psm = s.psm ∧ t.fsu.table = s.fsu.table ∧ t.time = s.time ∧
        (((∃ x, s.pth.path = .switching x) ∨
            (s.running .power = false ∧ s.pth.path ≠ .noSource ∧
              (s.adapterEligible = true ∨ s.eligible .A = true ∨ s.pth.packB.presence ≠ .ejectPending ∨
                s.pth.packB.usable = false))) →
          t = s.setPth { s.pth with preference := p }) ∧
        ((∃ y, s.pth.path = settledOn y) → s.running .power = false → s.adapterEligible = false →
          s.eligible .A = false → s.pth.packB.presence = .ejectPending → s.pth.packB.usable = true →
          t.pth.path = s.pth.path ∧ t.pth.packB.presence = .present ∧ Listed .ejectReady s t) ∧
        (∀ x y, s.running .power = true → s.pth.path = settledOn y →
          (s.setPth { s.pth with preference := p }).target s.pth.postponed = some x →
          (x = y → t = s.setPth { s.pth with preference := p, postponed := false }) ∧
            (x ≠ y → t.pth.path = .switching x)) ∧
        (((∃ y, s.running .power = true ∧ s.pth.path = settledOn y) ∨ s.pth.path = .noSource) →
          PathSelected (s.setPth { s.pth with preference := p }) t)) ∧
    Replies (.setAdapterLimit h 0) s .ok [] (s.setAdapter { s.adapter with hostLimit := none }) ∧
    (∀ limit : BitVec 32, 10000 ≤ limit.toNat → limit.toNat ≤ 130000 →
      Replies (.setAdapterLimit h limit) s .ok [] (s.setAdapter { s.adapter with hostLimit := some limit.toNat })) ∧
    (∀ limit : BitVec 32, limit ≠ 0 → (limit.toNat < 10000 ∨ 130000 < limit.toNat) →
      Replies (.setAdapterLimit h limit) s .badValue [] s) ∧
    (∀ (pack : Byte) (limit : BitVec 32),
      (10000 ≤ limit.toNat → limit.toNat ≤ 120000 →
        (readPackId pack = some .A →
          Replies (.setDischargeLimit h pack limit) s .ok [] (s.setBga { s.bga with dischargeA := limit.toNat })) ∧
        (readPackId pack = some .B →
          Replies (.setDischargeLimit h pack limit) s .ok []
            (s.setBga { s.bga with dischargeB := limit.toNat }))) ∧
      ((limit.toNat < 10000 ∨ 120000 < limit.toNat ∨ readPackId pack = none) →
        Replies (.setDischargeLimit h pack limit) s .badValue [] s))

/-- The eject of pack B (R19, R20). That PREPARE EJECT of another pack is BAD_VALUE is log entry 30. -/
def Obligations.EjectRequestsByState : Prop :=
  ∀ (h : ReqHead) (s : State), s.takes →
    (∀ pack, readPackId pack ≠ some .B → Replies (.prepareEject h pack) s .badValue [] s) ∧
    (s.running .power = false → Replies (.prepareEject h 1) s .notNow [] s) ∧
    (s.running .power = true → s.pth.packB.presence = .absent → Replies (.prepareEject h 1) s .noDevice [] s) ∧
    (s.running .power = true → s.pth.packB.presence ≠ .absent → s.pth.packB.presence ≠ .present →
      Replies (.prepareEject h 1) s .notNow [] s) ∧
    (s.running .power = true → s.pth.packB.presence = .present → s.uses .packB = true →
      s.adapterEligible = false → s.eligible .A = false → Replies (.prepareEject h 1) s .notNow [] s) ∧
    (s.running .power = true → s.pth.packB.presence = .present → s.uses .packB = true →
      (s.adapterEligible = true ∨ s.eligible .A = true) →
      ∃ t, Replies (.prepareEject h 1) s .accepted [] t ∧ t.pth.packB.presence = .ejectPending ∧
        (s.pth.path = .onPackB →
          t.pth.path = .switching (if s.adapterEligible then .adapter else .packA)) ∧
        (s.pth.path ≠ .onPackB → t.pth.path = s.pth.path)) ∧
    (s.running .power = true → s.pth.packB.presence = .present → s.uses .packB = false →
      ∃ t, Replies (.prepareEject h 1) s .accepted [] t ∧ t.pth.packB.presence = .ejectReady ∧
        t.pth.ejectOk = true ∧ t.pth.ejectWindow = some 10000 ∧ t.pth.packB.usable = false ∧
        Listed .ejectReady s t) ∧
    ((s.pth.packB.presence = .ejectPending ∨ s.pth.packB.presence = .ejectReady) →
      ∃ t, Replies (.cancelEject h) s .ok [] t ∧ t.pth.packB.presence = .present ∧ t.pth.ejectOk = false ∧
        t.pth.ejectWindow = none) ∧
    (s.pth.packB.presence ≠ .ejectPending → s.pth.packB.presence ≠ .ejectReady →
      Replies (.cancelEject h) s .notNow [] s)

/-- ADAPTER_PRESENCE (R2, R4) and the limit the rating gives (R55). -/
def Obligations.AdapterPresenceReadsTheRating : Prop :=
  (∀ (mv idMv : BitVec 16) (s : State), s.adapter.present = false → 11500 ≤ mv.toNat →
    ∃ a, exec (.adapterPresence mv idMv) s = .next (s.setAdapter a) ∧ a.present = true ∧ a.senseMv = mv.toNat ∧
      a.qualified = s.adapter.qualified ∧ a.overvolt = s.adapter.overvolt ∧ a.hostLimit = s.adapter.hostLimit ∧
      a.hold = s.adapter.hold ∧ (mv.toNat ≤ 21000 → a.count = some 0) ∧ (21000 < mv.toNat → a.count = none) ∧
      (200 ≤ idMv.toNat → idMv.toNat ≤ 600 → a.rating = 45000 ∧ a.ratingSource = .id) ∧
      (700 ≤ idMv.toNat → idMv.toNat ≤ 1100 → a.rating = 65000 ∧ a.ratingSource = .id) ∧
      (1200 ≤ idMv.toNat → idMv.toNat ≤ 1600 → a.rating = 90000 ∧ a.ratingSource = .id) ∧
      (1700 ≤ idMv.toNat → idMv.toNat ≤ 2100 → a.rating = 130000 ∧ a.ratingSource = .id) ∧
      ((idMv.toNat < 200 ∨ (600 < idMv.toNat ∧ idMv.toNat < 700) ∨ (1100 < idMv.toNat ∧ idMv.toNat < 1200) ∨
          (1600 < idMv.toNat ∧ idMv.toNat < 1700) ∨ 2100 < idMv.toNat) →
        a.rating = 45000 ∧ a.ratingSource = .default)) ∧
  (∀ (mv idMv : BitVec 16) (s : State), (s.adapter.present = true ∨ mv.toNat < 11500) →
    exec (.adapterPresence mv idMv) s = .next s) ∧
  (∀ a : Adapter, a.hostLimit = none → adapterLimit a = a.rating * 95 / 100) ∧
  (∀ (a : Adapter) (l : Nat), a.hostLimit = some l → adapterLimit a = min a.rating l * 95 / 100)

/-- The adapter's qualification (R2, R3), which is a selection point (R12, R15), and the path at its loss (R18). That a
removal returns the rating to 45,000 mW and DEFAULT is log entry 11; that an event which is not due changes nothing is
log entry 2; what a selection does with an eject that is pending is log entry 45. -/
def Obligations.AdapterQualificationFollowsTheInput : Prop :=
  ∀ s : State,
    (s.adapter.present = true → s.adapter.qualified = false → s.adapter.overvolt = false → s.adapter.count = some 20 →
      ∃ t, exec .adapterQualified s = .next t ∧ t.adapter.qualified = true ∧ t.adapter.present = true ∧
        t.adapter.count = none ∧ t.adapter.rating = s.adapter.rating ∧ Listed .adapterAttached s t ∧
        t.fsu = s.fsu ∧ t.hsi = s.hsi ∧ t.sts = s.sts ∧
        (∀ x, s.pth.path = .switching x →
          t.pth.path =
            if x ≠ .adapter ∧ s.adapter.hold = none ∧ s.running .power = true then .switching .adapter
            else .switching x) ∧
        ((∀ x, s.pth.path ≠ .switching x) →
          (s.running .power = false → s.pth.path ≠ .noSource → t.pth.path = s.pth.path) ∧
            ((s.running .power = true ∨ s.pth.path = .noSource) →
              PathSelected (s.setAdapter { s.adapter with qualified := true, count := none }) t))) ∧
    ((s.adapter.present = false ∨ s.adapter.qualified = true ∨ s.adapter.overvolt = true ∨ s.adapter.count ≠ some 20) →
      exec .adapterQualified s = .next s) ∧
    (∀ mv : BitVec 16, s.adapter.present = true → s.adapter.qualified = false → s.adapter.count = none →
      11500 ≤ mv.toNat → mv.toNat ≤ 21000 →
      exec (.adapterRangeReturn mv) s =
        .next (s.setAdapter
          { s.adapter with senseMv := mv.toNat, count := if s.adapter.overvolt then none else some 0 })) ∧
    (∀ mv : BitVec 16, (s.adapter.present = false ∨ mv.toNat < 11500 ∨ 21000 < mv.toNat) →
      exec (.adapterRangeReturn mv) s = .next s) ∧
    (∀ mv : BitVec 16, s.adapter.present = true → 21000 < mv.toNat →
      ∃ t, exec (.adapterOutOfRange mv) s = .next t ∧ t.adapter.qualified = false ∧ t.adapter.present = true ∧
        t.adapter.count = none ∧ t.adapter.rating = s.adapter.rating ∧
        (s.adapter.qualified = true → Listed .adapterRemoved s t ∧ t.uses .adapter = false)) ∧
    (∀ mv : BitVec 16, (s.adapter.present = false ∨ mv.toNat ≤ 21000) → exec (.adapterOutOfRange mv) s = .next s) ∧
    (∀ mv : BitVec 16, s.adapter.present = true → mv.toNat < 11500 →
      ∃ t, exec (.adapterRemoval mv) s = .next t ∧ t.adapter.qualified = false ∧ t.adapter.present = false ∧
        t.adapter.overvolt = false ∧ t.adapter.hold = none ∧ t.adapter.count = none ∧
        t.adapter.hostLimit = s.adapter.hostLimit ∧ t.adapter.rating = 45000 ∧ t.adapter.ratingSource = .default ∧
        (s.adapter.qualified = true → Listed .adapterRemoved s t ∧ t.uses .adapter = false)) ∧
    (∀ mv : BitVec 16, (s.adapter.present = false ∨ 11500 ≤ mv.toNat) → exec (.adapterRemoval mv) s = .next s) ∧
    (∀ mv : BitVec 16, s.adapter.present = true → 22000 < mv.toNat → s.adapter.overvolt = false →
      ∃ t, exec (.adapterOvervolt mv) s = .next t ∧ t.adapter.qualified = false ∧ t.adapter.present = true ∧
        t.adapter.overvolt = true ∧ t.adapter.rating = s.adapter.rating ∧
        t.adapter.ratingSource = s.adapter.ratingSource ∧
        (TablesWhole s →
          (t.faultRec .adapterOvervolt).state = .active ∧
            (t.faultRec .adapterOvervolt).detail = [some (Int.ofNat mv.toNat)]) ∧
        (s.adapter.qualified = true → Listed .adapterRemoved s t ∧ t.uses .adapter = false)) ∧
    (∀ mv : BitVec 16, s.adapter.present = true → 22000 < mv.toNat → s.adapter.overvolt = true →
      exec (.adapterOvervolt mv) s = .next (s.setAdapter { s.adapter with senseMv := mv.toNat })) ∧
    (∀ mv : BitVec 16, (s.adapter.present = false ∨ mv.toNat ≤ 22000) → exec (.adapterOvervolt mv) s = .next s)

/-- The presence of a pack (R7, R8, R10). That an event which is not due changes nothing is log entry 2. -/
def Obligations.PackPresenceFollowsTheLine : Prop :=
  ∀ (p : PackId) (s : State),
    ((s.pack p).line = false →
      exec (.presenceAsserted p) s =
        .next (s.setPack p
          { s.pack p with
            line := true, debounce := if (s.pack p).presence = .absent then some 0 else (s.pack p).debounce })) ∧
    ((s.pack p).line = true → exec (.presenceAsserted p) s = .next s) ∧
    ((s.pack p).debounce = some 500 →
      ∃ t, exec (.insertionDebounceEnd p) s = .next t ∧ (t.pack p).presence = .detected ∧
        (t.pack p).identity = none ∧ (t.pack p).snapshot = none ∧ (t.pack p).failRun = 0 ∧ (t.pack p).hold = none ∧
        (t.pack p).usable = false ∧ t.pth.path = s.pth.path ∧ t.pth.adapter = s.pth.adapter ∧
        (t.pack p).attempts = 0 ∧ (t.pack p).retryWait = none ∧
        (p ∈ t.plc.asked ∨ t.plc.work = some (.identity p)) ∧
        Listed .packInserted s t ∧ t.hsi = s.hsi ∧ t.fsu = s.fsu) ∧
    ((s.pack p).debounce ≠ some 500 → exec (.insertionDebounceEnd p) s = .next s) ∧
    ((s.pack p).line = true → (s.pack p).presence = .absent →
      exec (.presenceDeasserted p) s = .next (s.setPack p (Pack.empty false))) ∧
    ((s.pack p).line = true → (s.pack p).presence ≠ .absent →
      ∃ t, exec (.presenceDeasserted p) s = .next t ∧ t.pack p = Pack.empty false ∧ Listed .packRemoved s t ∧
        (t.charge p).state = (if (s.charge p).inhibit then .inhibitedHost else .idle) ∧ t.uses p.source = false ∧
        (p = .B → t.pth.ejectOk = false ∧ t.pth.ejectWindow = none)) ∧
    ((s.pack p).line = false → exec (.presenceDeasserted p) s = .next s) ∧
    ((s.pack p).presence = .detected → (s.pack p).retryWait = some 0 →
      ∃ t, exec (.identityRetryDelay p) s = .next t ∧ t.pack p = { s.pack p with retryWait := none } ∧
        (p ∈ t.plc.asked ∨ t.plc.work = some (.identity p)) ∧
        t.pth.path = s.pth.path ∧ t.evr = s.evr ∧ t.fsu = s.fsu) ∧
    (((s.pack p).presence ≠ .detected ∨ (s.pack p).retryWait ≠ some 0) →
      exec (.identityRetryDelay p) s = .next s)

/-- The events of the path (R11 to R16, R19, R20). That 90 % is rounded down is log entry 12; that an event which is
not due changes nothing is log entry 2; that an eject pending is not withdrawn to a pack B that is not usable, and that
with POWER not RUN a withdrawal leaves the path, is log entry 45; that a postponed choice is made with the records of
the moment it is made is log entry 46. -/
def Obligations.PathEventsMoveThePath : Prop :=
  ∀ s : State,
    (∀ (x : Source) (mv : BitVec 16), s.pth.path = .switching x → s.pth.knownMv * 90 / 100 ≤ mv.toNat →
      ∃ t, exec (.pathRailConfirmed mv) s = .next t ∧ t.pth.path ≠ .switching x ∧
        (s.running .power = false → t.pth.path = settledOn x) ∧
        (s.running .power = true →
          (s.pth.packB.presence = .ejectPending →
            x = .packB ∨ (s.adapterEligible = false ∧ s.eligible .A = false ∧ s.pth.packB.usable = true)) →
          PathSelected (s.setPth (s.pth.setPath (settledOn x))) t) ∧
        (s.running .power = true → x ≠ .packB → s.pth.packB.presence = .ejectPending →
          (s.adapterEligible = true ∨ s.eligible .A = true ∨ s.pth.packB.usable = false) →
          PathSelected
            (s.setPth
              { s.pth.setPath (settledOn x) with
                packB := { s.pth.packB with presence := .ejectReady, usable := false } }) t) ∧
        (s.pth.settled ≠ settledOn x → Listed .sourceChanged s t) ∧
        (x ≠ .packB → s.pth.packB.presence = .ejectPending →
          (s.adapterEligible = true ∨ s.eligible .A = true ∨ s.pth.packB.usable = false) →
          t.pth.packB.presence = .ejectReady ∧ t.pth.ejectOk = true ∧ t.pth.ejectWindow = some 10000) ∧
        (s.pth.packB.presence = .ejectPending → s.adapterEligible = false → s.eligible .A = false →
          s.pth.packB.usable = true →
          t.pth.packB.presence = .present ∧ t.pth.ejectOk = false ∧ Listed .ejectReady s t)) ∧
    (∀ (x : Source) (mv : BitVec 16), s.pth.path = .switching x → mv.toNat < s.pth.knownMv * 90 / 100 →
      exec (.pathRailConfirmed mv) s = .next s) ∧
    (∀ x : Source, s.pth.path = .switching x →
      ∃ t, exec .switchFailure s = .next t ∧ t.uses x = false ∧
        (x = .adapter → PathSelected (s.setAdapter { s.adapter with hold := some 10000 }) t) ∧
        (∀ p : PackId, x = p.source →
          PathSelected (s.setPack p { s.pack p with hold := some 10000, usable := false }) t ∧
            (t.pack p).usable = false) ∧
        (TablesWhole s →
          (t.faultRec .pathSwitchFail).state = .active ∧
            (t.faultRec .pathSwitchFail).detail = [some (Int.ofNat x.num)]) ∧
        (x = .adapter → t.adapter.hold = some 10000) ∧ (x = .packA → (t.pack .A).hold = some 10000) ∧
        (x = .packB → (t.pack .B).hold = some 10000)) ∧
    ((∀ x : Source, s.pth.path ≠ .switching x) →
      exec .switchFailure s = .next s ∧ ∀ mv, exec (.pathRailConfirmed mv) s = .next s) ∧
    (s.adapter.hold = some 0 →
      ∃ t, exec (.unusableHoldEnd .adapter) s = .next t ∧ t.adapter = { s.adapter with hold := none } ∧
        (∀ x, s.pth.path = .switching x →
          t.pth.path =
            if x ≠ .adapter ∧ s.adapter.qualified = true ∧ s.running .power = true then .switching .adapter
            else .switching x) ∧
        ((∀ x, s.pth.path ≠ .switching x) →
          (s.running .power = false → s.pth.path ≠ .noSource → t.pth.path = s.pth.path) ∧
            ((s.running .power = true ∨ s.pth.path = .noSource) →
              PathSelected (s.setAdapter { s.adapter with hold := none }) t))) ∧
    (∀ p : PackId, (s.pack p).hold = some 0 →
      ∃ t, exec (.unusableHoldEnd p.source) s = .next t ∧ (t.pack p).hold = none ∧
        let r : Pack := { s.pack p with hold := none }
        (t.pack p).usable = r.isUsable ∧
        (∀ x, s.pth.path = .switching x → t.pth.path = s.pth.path) ∧
        ((∀ x, s.pth.path ≠ .switching x) →
          (s.running .power = false → s.pth.path ≠ .noSource → t.pth.path = s.pth.path) ∧
            ((s.running .power = true ∨ s.pth.path = .noSource) →
              PathSelected (s.setPack p { r with usable := r.isUsable }) t))) ∧
    (s.adapter.hold ≠ some 0 → exec (.unusableHoldEnd .adapter) s = .next s) ∧
    (∀ p : PackId, (s.pack p).hold ≠ some 0 → exec (.unusableHoldEnd p.source) s = .next s) ∧
    (s.pth.packB.presence = .ejectReady → s.pth.ejectWindow = some 0 →
      ∃ t, exec .ejectWindowExpired s = .next t ∧ t.pth.packB.presence = .present ∧ t.pth.ejectOk = false ∧
        t.pth.ejectWindow = none ∧ Listed .ejectReady s t ∧
        let r : Pack := { s.pth.packB with presence := .present }
        t.pth.packB = { r with usable := r.isUsable } ∧
        (∀ x, s.pth.path = .switching x → t.pth.path = s.pth.path) ∧
        ((∀ x, s.pth.path ≠ .switching x) →
          (s.running .power = false → s.pth.path ≠ .noSource → t.pth.path = s.pth.path) ∧
            ((s.running .power = true ∨ s.pth.path = .noSource) →
              PathSelected (s.setPack .B { r with usable := r.isUsable }) t))) ∧
    ((s.pth.packB.presence ≠ .ejectReady ∨ s.pth.ejectWindow ≠ some 0) → exec .ejectWindowExpired s = .next s)

/-- The switches follow the path (R1), and a qualified adapter is present and unmarked (R2, R3), at every step. -/
def Obligations.PathAndAdapterLawsKept : Prop :=
  KeptByStep SwitchesFollowPath ∧ KeptByStep QualifiedAdapterSound ∧
    ∀ s : State, SwitchesFollowPath s →
      ¬(s.pth.swPa = true ∧ s.pth.swPb = true) ∧ ¬(s.pth.swAdp = true ∧ (s.pth.swPa = true ∨ s.pth.swPb = true))

/-- Off the adapter nothing charges (R39, R42), and the grants are 0 (R54, R59), at every step; and the laws of
sessions, setpoints, CHG_EN and slots are kept together with these (R25, R37 to R43, R73, R75, R83). The time in which
R43 allows a current above the grant is the model's own field (log entry 42). -/
def Obligations.ChargingNeedsTheAdapter : Prop :=
  KeptByStep ChargeNeedsAdapter ∧ KeptByStep GrantNeedsAdapter ∧
    KeptByStep fun s =>
      ChargeNeedsAdapter s ∧ GrantNeedsAdapter s ∧ OneSession s ∧ DesiredObeysGrant s ∧ EnableFollowsSetpoint s ∧
        NewestSetpointOnItsWay s ∧ LinkServesItsSlots s

/-- The setpoint of a charging phase (R29, R30, R39), the start of a session (R26, R27) and what a completed commit does
to the charge states (R49). The model's own readings in it: BUDGET where the grant and the requested current are the
least term together (log entry 54), and stale from 5,000 ms on (18). -/
def Obligations.SessionsStartAndCommitsTakeEffect : Prop :=
  (∀ (e : ProfileEntry) (i : Identity) (x : Snapshot),
    (∀ v, x.reqVoltage = some v → i.reqVoltage = true → 4000 ≤ v → v ≤ i.cells * e.cellMv → phaseVoltage e i x = v) ∧
      ((i.reqVoltage = false ∨ ∀ v, x.reqVoltage = some v → v < 4000 ∨ i.cells * e.cellMv < v) →
        phaseVoltage e i x = i.cells * e.cellMv)) ∧
  (∀ (ph : SuspendedPhase) (e : ProfileEntry) (i : Identity) (x : Snapshot) (grant : Nat) (d : Derate),
    let base := if ph = .precharge then e.preMa else e.maxMa
    let request :=
      match x.reqCurrent with
      | some r => if ph = .fast ∧ e.useRequest = true ∧ i.reqCurrent = true then [r] else []
      | none => []
    let derate :=
      match d with
      | .none => []
      | .half => [base / 2]
      | .zero => [0]
    let c := phaseCurrent ph e i x grant d
    c.1 ∈ [base] ++ request ++ [grant] ++ derate ∧ (∀ n ∈ [base] ++ request ++ [grant] ++ derate, c.1 ≤ n) ∧
      (c.2 = if c.1 ∈ derate then .thermal else if c.1 = grant then .budget else .packAlarm)) ∧
  (∀ s : State,
    (∀ (p : PackId) (ph : SuspendedPhase) (k : Nat) (i : Identity) (x : Snapshot), s.activePack = some p →
      (s.charge p).state.phase = some ph → (s.charge p).entry = some k → (s.pack p).identity = some i →
      (s.pack p).snapshot = some x →
      s.formDesired =
        { mv := phaseVoltage (s.entry k) i x,
          ma := (phaseCurrent ph (s.entry k) i x s.bga.applied s.thc.derate).1, enable := true }) ∧
      ((∀ p, s.inPhase p = false) →
        s.formDesired = { mv := (s.chc.inForce.map (·.mv)).getD 4000, ma := 0, enable := false }) ∧
      ∀ p,
        s.candidate p = true ↔
          (s.pack p).presence = .present ∧ (s.pack p).snapshot.isSome = true ∧ (s.pack p).hold = none ∧
            (s.charge p).state = .idle ∧
            ((∃ n, (s.pack p).relCharge = some n ∧ n < s.chc.threshold) ∨ (s.charge p).doneSince = false)) ∧
  (∀ (moment : Bool) (before s : State),
    SessionsTried s (settleCharge moment before s) ∧
      (moment = true →
        (settleCharge moment before s).chc.desired = (settleCharge moment before s).formDesired) ∧
      ∀ p, MayStartSession s → SessionGoesTo p s →
        Listed .chargePhase s (settleCharge moment before s) ∧
          ((settleCharge moment before s).snapshotting p = true ∨
            ((settleCharge moment before s).poll p).due = true)) ∧
  (∀ (mv : BitVec 16) (s : State), s.pth.path = .switching .adapter → s.pth.knownMv * 90 / 100 ≤ mv.toNat →
    s.adapterEligible = true → s.running .power = true →
    ∃ t, exec (.pathRailConfirmed mv) s = .next t ∧ t.pth.path = .onAdapter ∧
      ((∀ q, s.charging q = false) → SessionsTried (s.setPth (s.pth.setPath .onAdapter)) t)) ∧
  (∀ (h : ReqHead) (o th : Byte) (z : Option ChargeOrder) (w : Option Nat) (s : State), s.takes →
    readKeep [ChargeOrder.auto, .firstA, .firstB] o = some z → readRange 50 100 th = some w →
    ∃ t, Replies (.setCharge h 2 2 o th) s .ok [] t ∧
      SessionsTried
        (s.setChc { s.chc with order := z.getD s.chc.order, threshold := w.getD s.chc.threshold }) t) ∧
  (∀ (row : Nat) (es : List ProfileEntry) (s : State), s.sts.busy = some (.profile row es, 0) →
    let acted : PackId → Charge := fun p =>
      let c := s.charge p
      let governed := (c.entry.any fun k => decide (k / 8 = row)) = true
      if c.state = .inhibitedUnsupported then { c with state := .idle, phase := none, relAtDone := none }
      else if s.charging p = true ∧ (governed ∨ c.state = .suspended .temp) then
        { c with state := s.qualifying p, phase := none, relAtDone := none }
      else c
    ∃ t, exec .profileCommitComplete s = .next t ∧
      SessionsTried ((s.setCharge .A (acted .A)).setCharge .B (acted .B)) t)

/-- SET CHARGE (R51, R36). -/
def Obligations.SetChargeAppliesItsFields : Prop :=
  ∀ (h : ReqHead) (a b o th : Byte) (s : State), s.takes →
    (∀ x y z w, readKeep [true, false] a = some x → readKeep [true, false] b = some y →
      readKeep [ChargeOrder.auto, .firstA, .firstB] o = some z → readRange 50 100 th = some w →
      ∃ t, Replies (.setCharge h a b o th) s .ok [] t ∧ t.chc.order = z.getD s.chc.order ∧
        t.chc.threshold = w.getD s.chc.threshold ∧ t.chc.a.inhibit = x.getD s.chc.a.inhibit ∧
        t.chc.b.inhibit = y.getD s.chc.b.inhibit ∧
        (x = some true → t.chc.a.state = .inhibitedHost ∨ ∃ r, t.chc.a.state = .fault r) ∧
        (y = some true → t.chc.b.state = .inhibitedHost ∨ ∃ r, t.chc.b.state = .fault r) ∧
        t.pth = s.pth ∧ t.bga = s.bga ∧ t.hsi = s.hsi ∧ t.psm = s.psm ∧ t.kbs = s.kbs ∧ t.thc = s.thc ∧
        t.swc = s.swc ∧ t.fsu = s.fsu ∧ t.sts = s.sts ∧ t.time = s.time) ∧
    ((readKeep [true, false] a = none ∨ readKeep [true, false] b = none ∨
        readKeep [ChargeOrder.auto, .firstA, .firstB] o = none ∨ readRange 50 100 th = none) →
      Replies (.setCharge h a b o th) s .badValue [] s) ∧
    (∀ v : Byte, (readKeep [true, false] v = none ↔ 2 < v.toNat) ∧
      (readKeep [ChargeOrder.auto, .firstA, .firstB] v = none ↔ 3 < v.toNat) ∧
      (readRange 50 100 v = none ↔ v.toNat ≠ 255 ∧ (v.toNat < 50 ∨ 100 < v.toNat)))

/-- The staged commit of the Profile Table (R45 to R48). -/
def Obligations.ProfileCommitIsStaged : Prop :=
  ∀ (h : ReqHead) (s : State), s.takes → h.chan = .P →
    (∀ row : Byte, 1 < row.toNat → Replies (.openProfileRow h row) s .badValue [] s) ∧
    (∀ row : Byte, row.toNat ≤ 1 → s.sts.busy.isSome → Replies (.openProfileRow h row) s .busy [] s) ∧
    (∀ row : Byte, row.toNat ≤ 1 → s.sts.busy = none → s.chc.openRow.isSome →
      Replies (.openProfileRow h row) s .notNow [] s) ∧
    (∀ row : Byte, row.toNat ≤ 1 → s.sts.busy = none → s.chc.openRow = none →
      Replies (.openProfileRow h row) s .ok []
        (s.setChc { s.chc with openRow := some row.toNat, latches := List.replicate 8 none })) ∧
    (s.chc.openRow = none →
      (∀ slot e, Replies (.stageProfileEntry h slot e) s .notOpen [] s) ∧
        Replies (.commitProfile h) s .notOpen [] s ∧ Replies (.cancelProfile h) s .notOpen [] s) ∧
    (s.chc.openRow.isSome → s.chc.committing.isSome →
      (∀ slot e, Replies (.stageProfileEntry h slot e) s .busy [] s) ∧ Replies (.cancelProfile h) s .busy [] s) ∧
    (s.chc.openRow.isSome → s.chc.committing = none →
      (∀ (slot : Byte) e, (7 < slot.toNat ∨ readEntry e = none) →
        Replies (.stageProfileEntry h slot e) s .badValue [] s) ∧
      (∀ (slot : Byte) e x, slot.toNat ≤ 7 → readEntry e = some x →
        Replies (.stageProfileEntry h slot e) s .ok []
          (s.setChc { s.chc with latches := s.chc.latches.set slot.toNat (some x) })) ∧
      Replies (.cancelProfile h) s .ok []
        (s.setChc { s.chc with openRow := none, latches := List.replicate 8 none, committing := none })) ∧
    (∀ row, s.chc.openRow = some row →
      ((∀ l ∈ s.chc.latches, l = none) → Replies (.commitProfile h) s .empty [] s) ∧
      ((∃ l ∈ s.chc.latches, l ≠ none) → s.sts.busy.isSome → Replies (.commitProfile h) s .busy [] s) ∧
      ((∃ l ∈ s.chc.latches, l ≠ none) → s.sts.busy = none →
        ∃ es t, Replies (.commitProfile h) s .accepted [] t ∧ es.length = 8 ∧
          (∀ k < 8, es[k]? = some ((s.chc.latches.getD k none).getD (s.entry (8 * row + k)))) ∧
          t = (s.setChc { s.chc with committing := some es }).setSts
            { s.sts with busy := some (.profile row es, 6) })) ∧
    (∀ e : RawEntry, e.valid = 1 → readEntry e = some .invalid) ∧
    (∀ e : RawEntry, 1 < e.valid.toNat → readEntry e = none) ∧
    (∀ e : RawEntry, e.valid = 0 →
      let sound :=
        e.chemistry.toNat ≤ 15 ∧ (-300 ≤ e.bandLow.toInt ∧ e.bandLow.toInt ≤ 800) ∧
          (-300 ≤ e.bandHigh.toInt ∧ e.bandHigh.toInt ≤ 800) ∧ e.bandLow.toInt < e.bandHigh.toInt ∧
          (3600 ≤ e.cellMv.toNat ∧ e.cellMv.toNat ≤ 4400) ∧ (128 ≤ e.maxMa.toNat ∧ e.maxMa.toNat ≤ 6000) ∧
          e.useRequest.toNat ≤ 1 ∧ (2000 ≤ e.preCellMv.toNat ∧ e.preCellMv.toNat ≤ 3600) ∧
          e.preCellMv.toNat < e.cellMv.toNat ∧ (128 ≤ e.preMa.toNat ∧ e.preMa.toNat ≤ 6000) ∧
          e.preMa.toNat ≤ e.maxMa.toNat ∧ (64 ≤ e.taperMa.toNat ∧ e.taperMa.toNat ≤ 2000) ∧
          e.taperMa.toNat < e.maxMa.toNat ∧ 1 ≤ e.preMin.toNat ∧ (1 ≤ e.fastMin.toNat ∧ e.fastMin.toNat ≤ 1440)
      (¬sound → readEntry e = none) ∧
        (sound →
          readEntry e =
            some
              { valid := true, chemistry := e.chemistry.toNat, bandLow := e.bandLow.toInt,
                bandHigh := e.bandHigh.toInt, cellMv := e.cellMv.toNat, maxMa := e.maxMa.toNat,
                useRequest := decide (e.useRequest = 0), preCellMv := e.preCellMv.toNat, preMa := e.preMa.toNat,
                taperMa := e.taperMa.toNat, preMin := e.preMin.toNat, fastMin := e.fastMin.toNat }))

/-- The charge state at a published snapshot (R25, R28 to R33, R35) and at the timers of the Charge Controller (R27,
R32, R34, R42). The model's own readings in it: an event that is not due changes nothing (log entry 2), stale from
5,000 ms on (18), DONE tested before the phase's progress (17), a current above the taper current sets the run to 0 and
the latest snapshot decides PACK_ALARM at a change of grant or derate (47), BUDGET is the reason where the grant and
the requested current are the least term together (54), and a deadline starts at a fall from a desired setpoint the one
in force did not exceed, so that after an expiry CHG_EN stays deasserted, and a current that a write takes above the
grant is allowed while the 50 ms after the last reduction of the grant run (R43, 42). The terms of the charge voltage and
current are spelled out in SessionsStartAndCommitsTakeEffect. -/
def Obligations.ChargeTimersEndTheirPhase : Prop :=
  ∀ (p : PackId) (s : State),
    (s.stale p = true → ((s.charge p).state = .qualify ∨ (s.charge p).state.phase.isSome = true) →
      ∃ t, exec (.snapshotStale p) s = .next t ∧ (t.charge p).state = .suspended .stale ∧
        (t.charge p).entry = (s.charge p).entry ∧ Listed .chargePhase s t ∧ t.pth = s.pth ∧ t.bga = s.bga ∧
        t.fsu = s.fsu ∧ t.swc = s.swc) ∧
    ((s.stale p = false ∨ ((s.charge p).state ≠ .qualify ∧ (s.charge p).state.phase = none)) →
      exec (.snapshotStale p) s = .next s) ∧
    ((s.charge p).state = .precharge → s.preLimit p ≤ (s.charge p).preTime →
      ∃ t, exec (.prechargeTimeout p) s = .next t ∧ (t.charge p).state = .fault .prechargeTimeout ∧
        (TablesWhole s →
          (t.faultRec .prechargeTimeout).state = .active ∧ (t.faultRec .prechargeTimeout).detail = [some (Int.ofNat p.num)]) ∧
        t.job .power = s.job .power ∧
        t.pth = s.pth) ∧
    (((s.charge p).state ≠ .precharge ∨ (s.charge p).preTime < s.preLimit p) →
      exec (.prechargeTimeout p) s = .next s) ∧
    (((s.charge p).state = .fast ∨ (s.charge p).state = .topoff) → s.fastLimit p ≤ (s.charge p).fastTime →
      ∃ t, exec (.chargeTimeout p) s = .next t ∧ (t.charge p).state = .fault .chargeTimeout ∧
        (TablesWhole s →
          (t.faultRec .chargeTimeout).state = .active ∧ (t.faultRec .chargeTimeout).detail = [some (Int.ofNat p.num)]) ∧
        t.job .power = s.job .power ∧
        t.pth = s.pth) ∧
    ((((s.charge p).state ≠ .fast ∧ (s.charge p).state ≠ .topoff) ∨ (s.charge p).fastTime < s.fastLimit p) →
      exec (.chargeTimeout p) s = .next s) ∧
    (s.chc.deadline = some 0 →
      ∃ t, exec .reductionDeadlineExpired s = .next t ∧ t = (s.setChc t.chc).setBga t.bga ∧ t.chc.deadline = none ∧
        (∀ f, s.chc.inForce = some f → f.exceeds s.chc.desired = true → t.chc.chgEn = false)) ∧
    (s.bga.cutLeft = some 0 →
      ∃ t, exec .reductionDeadlineExpired s = .next t ∧ t = (s.setChc t.chc).setBga t.bga ∧
        t.bga = { s.bga with cutLeft := none } ∧
        (∀ f, s.chc.inForce = some f → s.bga.applied < f.ma → t.chc.chgEn = false) ∧
        (∀ f n, s.chc.inForce = some f → f.exceeds s.chc.desired = true → s.chc.deadline = some (n + 1) →
          t.chc.deadline = some (n + 1))) ∧
    (s.chc.deadline ≠ some 0 → s.bga.cutLeft ≠ some 0 → exec .reductionDeadlineExpired s = .next s) ∧
    (s.chc.flightVoid = false →
      let w := writeComplete s
      w.chc.inForce = s.chc.inFlight ∧
        (∀ f, s.chc.inFlight = some f → f.exceeds s.chc.desired = true → w.chc.deadline = s.chc.deadline) ∧
        (∀ f, s.chc.inFlight = some f → f.exceeds s.chc.desired = false → w.chc.deadline = none) ∧
        ∀ p f, s.activePack = some p → s.inPhase p = true → s.chc.inFlight = some f → f.enable = true →
          (w.chc.chgEn = true ↔
            (f.exceeds s.chc.desired = false ∨ ∃ n, s.chc.deadline = some (n + 1)) ∧
              (f.ma ≤ s.bga.applied ∨ ∃ n, s.bga.cutLeft = some (n + 1)))) ∧
    (∀ f, s.chc.inForce = some f → s.chc.deadline = none → f.exceeds (regrant s).chc.desired = true →
      (f.exceeds s.chc.desired = false → (regrant s).chc.deadline = some 50) ∧
        (f.exceeds s.chc.desired = true → (regrant s).chc.deadline = none ∧ (regrant s).chc.chgEn = false)) ∧
    (∀ (bus : BusEnd) (x : Snapshot), s.published bus = some (p, x) → s.pth.path = .onAdapter →
      s.adapterEligible = true → s.running .power = true →
      ∃ t, exec (.transactionEnd bus) s = .next t ∧
        ((t.charge p).state ≠ (s.charge p).state → Listed .chargePhase s t) ∧
        PublicationMoves p x s t) ∧
    (∀ (ph : SuspendedPhase) (k : Nat) (i : Identity) (x : Snapshot), (s.charge p).state.phase = some ph →
      (s.charge p).entry = some k → (s.pack p).identity = some i → (s.pack p).snapshot = some x →
      s.activePack = some p →
      let c := phaseCurrent ph (s.entry k) i x s.bga.applied s.thc.derate
      ((regrant s).charge p).state = phaseWith (s.charge p).state c ∧
        (128 ≤ c.1 →
          (regrant s).chc.desired = { mv := phaseVoltage (s.entry k) i x, ma := c.1, enable := true })) ∧
    (∀ (ph : SuspendedPhase) (k : Nat) (i : Identity) (x : Snapshot), (s.charge p).phase = some ph →
      (s.charge p).entry = some k → (s.pack p).identity = some i → (s.pack p).snapshot = some x →
      s.activePack = some p → ∀ r, (s.charge p).state = .suspended r →
      let alarm := x.overTemp = true ∨ x.overCharge = true
      let low := (phaseCurrent ph (s.entry k) i x s.bga.applied s.thc.derate).1 < 128
      ((regrant s).charge p).state =
        if ¬low ∧ (r = .thermal ∨ r = .budget ∨ (r = .packAlarm ∧ ¬alarm)) then
          (if s.stale p = true then .suspended .stale else .qualify)
        else .suspended r)

/-- INPUT_MEASUREMENT (R54 to R58). That the measured voltage also replaces the level of ADP_SENSE the model keeps is
log entry 12; that the limit of 6,000 acts on the rounded result is log entry 52. -/
def Obligations.InputMeasurementComputesTheBudget : Prop :=
  ∀ (mv : BitVec 16) (ma : Int) (s : State),
    ∃ t, exec (.inputMeasurement mv ma) s = .next t ∧
      t.adapter = { s.adapter with lastMv := mv.toNat, lastMa := ma.toNat, senseMv := mv.toNat } ∧
      t.bga.inMv = mv.toNat ∧ t.bga.inMa = ma.toNat ∧ t.bga.pIn = mv.toNat * ma.toNat / 1000 ∧
      t.bga.limit = adapterLimit s.adapter ∧ t.bga.dFan = 24 * s.thc.fan0.duty + 24 * s.thc.fan1.duty ∧
      t.bga.mode = s.bga.mode ∧ t.pth.path = s.pth.path ∧ t.time = s.time ∧ t.thc = s.thc ∧ t.swc = s.swc ∧
      (s.bga.mode = .adapter →
        (∀ f, s.chc.chgEn = true → s.chc.inForce = some f → t.bga.dChg = f.mv * f.ma / 900) ∧
          ((s.chc.chgEn = false ∨ s.chc.inForce = none) → t.bga.dChg = 0) ∧
          t.bga.sys = t.bga.pIn - t.bga.dChg - t.bga.dFan ∧
          t.bga.allowance = Int.ofNat t.bga.limit - Int.ofNat t.bga.sys - Int.ofNat t.bga.dFan ∧
          (∀ p v,
            v = ((s.pack p).snapshot.map (·.voltage)).getD 0 →
            (s.charging p = true ∧ (∀ q, q ≠ p → s.charging q = false) ∨
              (∀ q, s.charging q = false) ∧ s.chargeable p = true ∧
                ∀ q, q ≠ p → s.chargeable q = true →
                  s.packMv q < v ∨ (s.packMv q = v ∧ p = .A)) →
            t.bga.refPack = some p ∧ t.bga.refMv = some (max 4000 v) ∧
              t.bga.computed = min 6000 (t.bga.allowance.toNat * 900 / max 4000 v / 64 * 64)) ∧
          ((∀ q, s.charging q = false ∧ s.chargeable q = false) → t.bga.refPack = none ∧ t.bga.computed = 0) ∧
          (s.running .power = true →
            t.bga.applied = if grantMoves t.bga.computed s.bga.applied then t.bga.computed else s.bga.applied) ∧
          (s.running .power = false → t.bga.applied = s.bga.applied)) ∧
      (s.bga.mode ≠ .adapter →
        t.bga.dChg = 0 ∧ t.bga.sys = 0 ∧ t.bga.allowance = 0 ∧ t.bga.computed = 0 ∧ t.bga.applied = 0)

/-- How the computed grant is applied (R58): in ADAPTER mode with the POWER job RUN (R59). The time of R43 that a grant may
set beside it is the model's own field (log entry 42). -/
def Obligations.GrantFallsPromptlyRisesReluctantly : Prop :=
  (∀ s : State, s.running .power = true →
    (s.bga.computed + 64 ≤ s.bga.applied →
      applyGrant s = regrant (s.setBga (s.bga.grant s.bga.computed))) ∧
    (s.bga.applied + 128 ≤ s.bga.computed →
      applyGrant s = regrant (s.setBga (s.bga.grant s.bga.computed))) ∧
    (s.bga.computed < s.bga.applied + 128 → s.bga.applied < s.bga.computed + 64 → applyGrant s = s)) ∧
  (∀ s : State, (applyGrant s).bga.computed = s.bga.computed) ∧
  (∀ (b : Bga) (ma : Nat), b.grant ma = { b with applied := ma, cutLeft := (b.grant ma).cutLeft }) ∧
  (∀ (s : State) (p : PackId) (ph : SuspendedPhase) (k : Nat) (i : Identity) (x : Snapshot),
    (s.charge p).entry = some k → (s.pack p).identity = some i → (s.pack p).snapshot = some x →
    s.current p ph = some (phaseCurrent ph (s.entry k) i x s.bga.applied s.thc.derate)) ∧
  (∀ (a : Int) (mv : Nat), grantFrom a mv < 6000 → grantFrom a mv % 64 = 0) ∧
  (∀ m n : Nat, m % 64 = 0 → n % 64 = 0 → m < n → grantMoves m n = true) ∧
  grantMoves 5952 6000 = false ∧ grantMoves 5888 6000 = true ∧
  (∀ (mv : BitVec 16) (ma : Int) (s : State), s.bga.mode = .adapter → s.running .power = true →
    ∃ t, exec (.inputMeasurement mv ma) s = .next t ∧
      ((t.bga.computed + 64 ≤ s.bga.applied ∨ s.bga.applied + 128 ≤ t.bga.computed) →
        t.bga.applied = t.bga.computed) ∧
      (t.bga.computed < s.bga.applied + 128 → s.bga.applied < t.bga.computed + 64 →
        t.bga.applied = s.bga.applied ∧ t.chc = s.chc))

/-- The throttle of BGA at measurements, publications and changes of mode (R60 to R63). That THROTTLE_RELEASE
changes nothing when it is not due is log entry 2. -/
def Obligations.ThrottleFollowsTheDemand : Prop :=
  (∀ (mv : BitVec 16) (ma : Int) (s : State),
    ∃ t, exec (.inputMeasurement mv ma) s = .next t ∧
      (s.bga.mode = .adapter → ThrottleMeets .adapter (t.bga.sys + t.bga.dFan) t.bga.limit s t) ∧
      (s.bga.mode ≠ .adapter →
        t.bga.throttle = s.bga.throttle ∧ t.bga.release = s.bga.release ∧
          t.bga.episodeStart = s.bga.episodeStart ∧ t.bga.episodeOwner = s.bga.episodeOwner)) ∧
  (∀ (bus : BusEnd) (p : PackId) (x : Snapshot) (s : State), s.published bus = some (p, x) →
    s.pth.path = settledOn p.source →
    ∃ t, exec (.transactionEnd bus) s = .next t ∧
      t.bga.packPower = x.voltage * (-x.current).toNat / 1000 ∧
      (t.pth.path ≠ .noSource →
        ThrottleMeets p.source (x.voltage * (-x.current).toNat / 1000)
          (if p = .A then s.bga.dischargeA else s.bga.dischargeB) s t)) ∧
  (∀ (bus : BusEnd) (p : PackId) (x : Snapshot) (s : State), s.published bus = some (p, x) →
    s.pth.path ≠ settledOn p.source →
    ∃ t, exec (.transactionEnd bus) s = .next t ∧ t.bga.packPower = s.bga.packPower ∧
      (t.pth.path ≠ .noSource →
        t.bga.throttle = s.bga.throttle ∧ t.bga.release = s.bga.release ∧
          t.bga.episodeStart = s.bga.episodeStart ∧ t.bga.episodeOwner = s.bga.episodeOwner)) ∧
  (∀ (mv : BitVec 16) (p : PackId) (x : Snapshot) (s : State), s.pth.path = .switching p.source →
    s.pth.knownMv * 90 / 100 ≤ mv.toNat → (s.pack p).snapshot = some x →
    ∃ t, exec (.pathRailConfirmed mv) s = .next t ∧
      t.bga.packPower = x.voltage * (-x.current).toNat / 1000 ∧
      (t.pth.path ≠ .noSource →
        ThrottleMeets p.source (x.voltage * (-x.current).toNat / 1000)
          (if p = .A then s.bga.dischargeA else s.bga.dischargeB)
          (if s.bga.throttle = .released ∨ s.bga.episodeOwner = some p.source then s
           else
             s.setBga
               { s.bga with
                 throttle := .released, release := none, episodeStart := none, episodeOwner := none }) t)) ∧
  (∀ (path : PathState) (s : State),
    let t := changePath path s
    ((∃ x, path = .switching x) →
      t.bga.mode = .none ∧ t.bga.throttle = s.bga.throttle ∧ t.bga.release = s.bga.release ∧
        t.bga.episodeStart = s.bga.episodeStart ∧ t.bga.episodeOwner = s.bga.episodeOwner) ∧
    (path = .noSource → s.bga.throttle ≠ .released → s.bga.episodeOwner ≠ none →
      t.bga.throttle = .released ∧ t.bga.release = none ∧ t.bga.episodeStart = none) ∧
    (path = .onAdapter → s.bga.throttle ≠ .released → s.bga.episodeOwner ≠ some .adapter →
      t.bga.throttle = .released ∧ t.bga.release = none ∧ t.bga.episodeStart = none) ∧
    (path = .onAdapter → (s.bga.throttle = .released ∨ s.bga.episodeOwner = some .adapter) →
      t.bga.throttle = s.bga.throttle ∧ t.bga.release = s.bga.release ∧
        t.bga.episodeStart = s.bga.episodeStart)) ∧
  (∀ s : State,
    (s.bga.throttle = .releasing → s.bga.release = some 0 →
      ∃ t, exec .throttleRelease s = .next t ∧ t = s.setBga t.bga ∧ t.bga.throttle = .released ∧
        t.bga.throttleN = false ∧ t.bga.release = none ∧ t.bga.episodeStart = none ∧
        t.bga.applied = s.bga.applied) ∧
    ((s.bga.throttle ≠ .releasing ∨ s.bga.release ≠ some 0) → exec .throttleRelease s = .next s))

/-- The two requests on the Link Device Table (R69, R70, R86). That a request on entries 5 to 7 carries the three
definable fields and one on a fixed entry does not, and that an entry made undefined keeps an address within the range,
is log entry 6; that an entry made undefined takes an address outside the range and stores none is log entry 55. -/
def Obligations.LinkTableRequests : Prop :=
  ∀ (h : ReqHead) (s : State), s.takes →
    (h.chan = .P → ∀ (e sl ab rl hl : Byte) (d : Option RawDefinable),
      ((7 < e.toNat ∨ sl.toNat ∉ segLens ∨ 1 < ab.toNat ∨ 7 < rl.toNat ∨ hl.toNat < 1 ∨ 50 < hl.toNat ∨
          s.definition e.toNat d = none) →
        Replies (.setLinkDevice h e sl ab rl hl d) s .badValue [] s) ∧
      (∀ df ad ck a, e.toNat ≤ 7 → sl.toNat ∈ segLens → rl.toNat ≤ 7 → 1 ≤ hl.toNat → hl.toNat ≤ 50 →
        readEnum [Abort.discard, .retry] ab = some a → s.definition e.toNat d = some (df, ad, ck) →
        (s.passTo e.toNat = true → Replies (.setLinkDevice h e sl ab rl hl d) s .busy [] s) ∧
        (s.passTo e.toNat = false →
          Replies (.setLinkDevice h e sl ab rl hl d) s .ok []
            (s.setDevice e.toNat
              { cls := (s.device e.toNat).cls, noack := false, hold := false, badcheck := false,
                policy :=
                  { defined := df, address := ad, check := ck, segLen := sl.toNat, abort := a,
                    retryLimit := rl.toNat, holdLimit := hl.toNat } })))) ∧
    (∀ e : Nat, e < 5 →
      s.definition e none =
        some ((s.device e).policy.defined, (s.device e).policy.address, (s.device e).policy.check)) ∧
    (∀ e raw, 5 ≤ e → raw.defined = 0 → (raw.address.toNat < 0x08 ∨ 0x77 < raw.address.toNat) →
      s.definition e (some raw) = none) ∧
    (∀ e raw, 5 ≤ e → raw.defined = 0 → s.addressTaken e (some raw.address.toNat) = true →
      s.definition e (some raw) = none) ∧
    (∀ e raw, 5 ≤ e → raw.defined = 0 → raw.check.toNat ≤ 1 → 0x08 ≤ raw.address.toNat → raw.address.toNat ≤ 0x77 →
      s.addressTaken e (some raw.address.toNat) = false →
      s.definition e (some raw) = some (true, some raw.address.toNat, decide (raw.check = 0))) ∧
    (∀ e raw, 5 ≤ e → raw.defined = 1 → raw.check.toNat ≤ 1 →
      s.definition e (some raw) =
        some (false, if 0x08 ≤ raw.address.toNat ∧ raw.address.toNat ≤ 0x77 then some raw.address.toNat else none,
          decide (raw.check = 0))) ∧
    (∀ e raw, (e < 5 ∨ 1 < raw.defined.toNat ∨ 1 < raw.check.toNat) → s.definition e (some raw) = none) ∧
    (∀ e, 5 ≤ e → s.definition e none = none) ∧
    (∃ t, Replies (.readLinkStatus h 0) s .ok (linkContent s) t ∧ t = s.setPlc t.plc ∧
      t.plc.devices = s.plc.devices.map fun d => { d with noack := false, hold := false, badcheck := false }) ∧
    (∀ clear : Byte, 1 < clear.toNat → Replies (.readLinkStatus h clear) s .badValue [] s)

/-- The pass-through requests (R80, R82). -/
def Obligations.PassThroughRequests : Prop :=
  ∀ (h : ReqHead) (s : State), s.takes →
    (∀ (e dir cmd len : Byte) (data : List Byte),
      ((7 < e.toNat ∨ 1 < dir.toNat ∨ len.toNat < 1 ∨ 48 < len.toNat ∨ 256 < cmd.toNat + len.toNat ∨
          (dir = 1 ∧ data.length ≠ len.toNat) ∨ (dir = 0 ∧ data ≠ []) ∨ (dir = 1 ∧ e = 2)) →
        Replies (.linkTransfer h e dir cmd len data) s .badValue [] s) ∧
      (e.toNat ≤ 7 → dir.toNat ≤ 1 → 1 ≤ len.toNat → len.toNat ≤ 48 → cmd.toNat + len.toNat ≤ 256 →
        data.length = (if dir = 1 then len.toNat else 0) → ¬(dir = 1 ∧ e = 2) →
        (s.running .link = false → Replies (.linkTransfer h e dir cmd len data) s .notNow [] s) ∧
        (s.running .link = true → (s.plc.pass.isSome ∨ s.plc.caught.isSome) →
          Replies (.linkTransfer h e dir cmd len data) s .retry [] s) ∧
        (s.running .link = true → s.plc.pass = none → s.plc.caught = none → s.named e.toNat = false →
          Replies (.linkTransfer h e dir cmd len data) s .noDevice [] s) ∧
        (s.running .link = true → s.plc.pass = none → s.plc.caught = none → s.named e.toNat = true →
          ∃ t, Replies (.linkTransfer h e dir cmd len data) s .accepted [] t ∧ t = s.setPlc t.plc ∧
            t.plc.result = none ∧ t.plc.devices = s.plc.devices ∧
            t.plc.pass = some
              { entry := e.toNat, write := decide (dir = 1), cmd := cmd.toNat, len := len.toNat,
                segLen := (s.device e.toNat).policy.segLen,
                buf := if dir = 1 then data else List.replicate len.toNat 0xFF, seg := 0, done := 0, reps := 0,
                failed := false }))) ∧
    (∀ p, s.plc.outstanding = some p → Replies (.linkResult h) s .busy (u8 p.seg ++ u8 p.done) s) ∧
    (∀ r, s.plc.outstanding = none → s.plc.result = some r → Replies (.linkResult h) s .ok (resultBytes r) s) ∧
    (s.plc.outstanding = none → s.plc.result = none → Replies (.linkResult h) s .empty [] s)

/-- How transactions start and end (R68 to R71), and what their outcomes do (R5, R6, R8, R9, R40, R41, R74 to R77,
R79, R81, R82). The model's choices in it: an end which is not due changes nothing (log entry 2); the data of the bus
are padded with 0xFF and cut to the item's length, and a recovery before a start is held to the entry's settings of the
moment (22); a missing acknowledge counts before a wrong check byte, and STUCK raises LINK_STUCK also for a removed
pack (24); a transaction chosen before a recovery is started after it with no new choice (50).
The command codes and bytes of the items are those of section 12.6. -/
def Obligations.TransactionsEndWithTheirOutcome : Prop :=
  ∀ s : State,
    (∀ (c : Client) (x : Txn),
      let p := (s.device x.entry).policy
      let head := [BitVec.ofNat 8 (2 * p.address.getD 0), BitVec.ofNat 8 x.cmd] ++ x.data
      (startTxn c x s).plc.wire = some (s.onWire c x) ∧ (s.onWire c x).policy = p ∧
        (startTxn c x s).plc.holdTime = 0 ∧
        (x.write = true → (s.onWire c x).sent = head ++ (if p.check then [crc8 head] else [])) ∧
        (x.write = false →
          (s.onWire c x).sent =
            [BitVec.ofNat 8 (2 * p.address.getD 0), BitVec.ofNat 8 x.cmd,
              BitVec.ofNat 8 (2 * p.address.getD 0 + 1)])) ∧
    (∀ (w : OnWire) (bus : BusEnd), s.plc.link = .busy → s.plc.wire = some w →
      w.item.entry < s.plc.devices.length →
      let data := (bus.data ++ List.replicate w.item.len 0xFF).take w.item.len
      let wrong := w.item.write = false ∧ w.policy.check = true ∧ crc8 (w.sent ++ data) ≠ bus.check
      ∃ t, exec (.transactionEnd bus) s = .next t ∧
        (s.plc.discard = false → s.plc.gone = false → bus.ack = false → (t.device w.item.entry).noack = true) ∧
        (s.plc.discard = false → s.plc.gone = false → bus.ack = true → wrong →
          (t.device w.item.entry).badcheck = true) ∧
        ((s.plc.discard = true ∨ s.plc.gone = true ∨ (bus.ack = true ∧ ¬wrong)) →
          t.plc.devices = s.plc.devices) ∧
        s.handed bus =
          if s.plc.discard = true ∨ s.plc.gone = true then none
          else
            some (w.client,
              if bus.ack = false then .noack
              else if w.item.write = true then .done []
              else if wrong then .badCheck
              else .done data)) ∧
    (∀ (bus : BusEnd) (p : PackId) (x : Snapshot), s.published bus = some (p, x) →
      ∃ t, exec (.transactionEnd bus) s = .next t ∧ (t.pack p).snapshot = some x ∧
        (t.pack p).relCharge = some (if x.full = 0 then 0 else min 100 (x.remaining * 100 / x.full)) ∧
        (t.pack p).failRun = 0 ∧ (t.pack p).identity = (s.pack p).identity ∧
        (∀ y, s.pth.path = .switching y → t.pth.path = .switching y ∧ t.pth.postponed = true) ∧
        ((t.pack p).usable = true ↔
          ((s.pack p).presence = .present ∨ (s.pack p).presence = .ejectPending) ∧ (s.pack p).hold = none ∧
            ((s.pack p).identity.any fun i => decide (i.cells * 3000 ≤ x.voltage)) = true)) ∧
    (∀ (bus : BusEnd) (o : TxOutcome) (p : PackId) (items : List SnapItem) (got : Snapshot),
      s.handed bus = some (.packPoll, o) → s.plc.work = some (.snapshot p items got) → s.running .link = true →
      ∃ t, exec (.transactionEnd bus) s = .next t ∧
        (∀ b i j rest, o = .done b → items = i :: j :: rest →
          t.plc.work = some (.snapshot p (j :: rest) (got.put i b)) ∧ t.pack p = s.pack p) ∧
        ((∀ b, o ≠ .done b) →
          (t.pack p).failRun = min 3 ((s.pack p).failRun + 1) ∧ (t.pack p).snapshot = (s.pack p).snapshot ∧
            (t.pack p).relCharge = (s.pack p).relCharge ∧
            ((s.pack p).failRun < 2 → (t.pack p).presence = (s.pack p).presence) ∧
            (2 ≤ (s.pack p).failRun → s.polled p = true →
              (t.pack p).presence = .faulted ∧ (t.pack p).usable = false ∧
                (TablesWhole s →
                  (t.faultRec .packSilent).state = .active ∧
                    (t.faultRec .packSilent).detail = [some (Int.ofNat p.num)])))) ∧
    (∀ (x : Snapshot) (b : List Byte),
      x.put .voltage b = { x with voltage := ofLeBytes b } ∧
        x.put .current b = { x with current := (BitVec.ofNat 16 (ofLeBytes b)).toInt } ∧
        x.put .temperature b = { x with temp := Int.ofNat (ofLeBytes b) - 2731 } ∧
        x.put .remaining b = { x with remaining := ofLeBytes b } ∧
        x.put .full b = { x with full := ofLeBytes b } ∧
        x.put .reqVoltage b = { x with reqVoltage := some (ofLeBytes b) } ∧
        x.put .reqCurrent b = { x with reqCurrent := some (ofLeBytes b) } ∧
        x.put .cycles b = { x with cycles := some (ofLeBytes b) } ∧
        x.put .status b =
          let flag := fun k => decide (ofLeBytes b / 2 ^ k % 2 = 1)
          { x with
            overTemp := flag 0, overCharge := flag 1, terminate := flag 2, fullyCharged := flag 3,
            fullyDischarged := flag 4 }) ∧
    (∀ (bus : BusEnd) (o : TxOutcome) (p : PackId), s.handed bus = some (.packPoll, o) →
      s.plc.work = some (.identity p) → s.running .link = true →
      let good := fun b => 2 ≤ (parseIdentity b).cells ∧ (parseIdentity b).cells ≤ 4 ∧ (parseIdentity b).capacity ≠ 0
      ∃ t, exec (.transactionEnd bus) s = .next t ∧
        ((s.pack p).presence ≠ .detected → t.pack p = s.pack p) ∧
        ((s.pack p).presence = .detected →
          (∀ b, o = .done b → good b →
            t.pack p =
              { s.pack p with
                presence := .present, identity := some (parseIdentity b), attempts := 0, retryWait := none } ∧
              Listed .packIdentified s t) ∧
          ((∀ b, o = .done b → ¬good b) →
            ((s.pack p).attempts < 2 →
              t.pack p = { s.pack p with attempts := (s.pack p).attempts + 1, retryWait := some 100 }) ∧
            (2 ≤ (s.pack p).attempts →
              (t.pack p).presence = .faulted ∧
                (TablesWhole s →
                  (t.faultRec .packSilent).state = .active ∧
                    (t.faultRec .packSilent).detail = [some (Int.ofNat p.num)]))))) ∧
    (∀ (bus : BusEnd) (o : TxOutcome) (x : Sensor), s.handed bus = some (.sensorPoll, o) →
      s.plc.reading = some x → s.running .link = true →
      ∃ t, exec (.transactionEnd bus) s = .next t ∧
        (∀ b, o = .done b →
          t.sensorRun x = 0 ∧ (t.input x.input).valid = true ∧ (t.input x.input).time = some s.time ∧
            (t.input x.input).value = (BitVec.ofNat 16 (ofLeBytes b)).toInt * 10 / 16) ∧
        ((∀ b, o ≠ .done b) →
          t.sensorRun x = min 3 (s.sensorRun x + 1) ∧
            (s.sensorRun x ≠ 2 → t.input x.input = s.input x.input ∧ t.fsu = s.fsu) ∧
            (s.sensorRun x = 2 →
              t.input x.input = { s.input x.input with valid := false } ∧
                (TablesWhole s →
                  (t.faultRec .sensorSilent).state = .active ∧
                    (t.faultRec .sensorSilent).detail = [some (Int.ofNat x.input.num)])))) ∧
    (∀ (bus : BusEnd) (o : TxOutcome) (w : OnWire) (q : Pass), s.handed bus = some (.pass, o) →
      s.plc.wire = some w → s.plc.pass = some q → s.running .link = true → q.buf.length = q.len →
      let start := q.seg * q.segLen
      let n := min q.segLen (q.len - start)
      let filled := fun b => if q.write then q.buf else q.buf.take start ++ b ++ q.buf.drop (start + b.length)
      let ended := fun (outcome : PassOutcome) (done : Nat) (buf : List Byte) (t : State) =>
        t.plc.pass = none ∧ Listed .linkDone s t ∧
          t.plc.result =
            some
              { outcome := outcome, entry := q.entry, write := q.write, cmd := q.cmd, len := q.len, done := done,
                data := if q.write then [] else buf, time := s.time }
      ∃ t, exec (.transactionEnd bus) s = .next t ∧
        (∀ b, o = .done b →
          (start + q.segLen < q.len →
            t.plc.pass = some { q with seg := q.seg + 1, reps := 0, done := q.done + n, buf := filled b } ∧
              t.plc.result = s.plc.result) ∧
          (q.len ≤ start + q.segLen → ended (if q.failed then .partly else .done) (q.done + n) (filled b) t)) ∧
        ((∀ b, o ≠ .done b) →
          (w.policy.abort = .discard →
            (start + q.segLen < q.len →
              t.plc.pass =
                some
                  { q with seg := q.seg + 1, reps := 0, failed := true, buf := filled (List.replicate n 0xFF) } ∧
                t.plc.result = s.plc.result) ∧
            (q.len ≤ start + q.segLen → ended .partly q.done (filled (List.replicate n 0xFF)) t)) ∧
          (w.policy.abort = .retry → q.reps < w.policy.retryLimit →
            t.plc.pass = some { q with reps := q.reps + 1 } ∧ t.plc.result = s.plc.result) ∧
          (w.policy.abort = .retry → w.policy.retryLimit ≤ q.reps → ended .failed q.done q.buf t))) ∧
    (∀ (bus : BusEnd) (o : TxOutcome) (w : OnWire) (x : WriteWork), s.handed bus = some (.charger, o) →
      s.plc.wire = some w → s.plc.write = some x → s.running .link = true →
      let again := w.policy.abort = .retry ∧ x.reps < (s.device 2).policy.retryLimit
      ∃ t, exec (.transactionEnd bus) s = .next t ∧
        (∀ b, o = .done b → x.stage < 2 → t.plc.write = some { x with stage := x.stage + 1, reps := 0 }) ∧
        (∀ b, o = .done b → 2 ≤ x.stage → s.chc.flightVoid = false → t.chc.inForce = s.chc.inFlight) ∧
        ((∀ b, o ≠ .done b) → again → t.plc.write = some { x with reps := x.reps + 1 }) ∧
        ((∀ b, o ≠ .done b) → ¬again → s.chc.flightVoid = false →
          t.chc.inForce = none ∧ t.chc.chgEn = false ∧ t.running .power = false ∧
            (TablesWhole s → (t.faultRec .chargerSilent).state = .active))) ∧
    ((s.plc.link ≠ .busy ∨ s.plc.wire = none) → ∀ bus, exec (.transactionEnd bus) s = .next s) ∧
    (∀ w : OnWire, s.plc.link = .busy → s.plc.wire = some w →
      (w.policy.holdLimit < s.plc.holdTime →
        exec .holdTimeout s = .next (s.setPlc { s.plc with link := .recovery true, holdTime := 0 })) ∧
      (s.plc.holdTime ≤ w.policy.holdLimit → exec .holdTimeout s = .next s)) ∧
    ((s.plc.link ≠ .busy ∨ s.plc.wire = none) → exec .holdTimeout s = .next s) ∧
    (∀ (w : OnWire) (started : Bool), s.plc.link = .recovery started → s.plc.wire = some w →
      let limit := (if started then w.policy else (s.device w.item.entry).policy).holdLimit
      (s.plc.holdTime ≤ limit → ∀ sda, exec (.linkRecoveryEnd false sda) s = .next s) ∧
      (s.plc.discard = false → s.plc.gone = false → s.running .link = true →
        ∃ t, exec (.linkRecoveryEnd true true) s = .next t ∧
          (started = true → w.item.entry < s.plc.devices.length → (t.device w.item.entry).hold = true) ∧
          (started = false → w.client = .packPoll → s.plc.work.isSome = true → s.deferred w.item.entry = true →
            t = s.setPlc t.plc ∧ t.plc.packSlot = some w.item ∧ t.plc.work = s.plc.work ∧
              ∀ v, t.plc.wire = some v → s.deferred v.item.entry = true → v.client = .charger ∨ v.client = .pass) ∧
          (started = false → w.client = .sensorPoll → s.plc.reading.isSome = true → s.deferred w.item.entry = true →
            t = s.setPlc t.plc ∧ t.plc.sensorSlot = some w.item ∧ t.plc.reading = s.plc.reading ∧
              ∀ v, t.plc.wire = some v → s.deferred v.item.entry = true → v.client = .charger ∨ v.client = .pass) ∧
          (started = false → (w.client = .charger ∨ w.client = .pass ∨ s.deferred w.item.entry = false) →
            t = s.setPlc
              { s.plc with
                link := .busy, wire := some (s.onWire w.client w.item), holdTime := 0, sclHigh := true,
                sdaHigh := true })) ∧
      (∀ scl sda : Bool, s.plc.discard = false →
        ((scl = false ∧ limit < s.plc.holdTime) ∨ (scl = true ∧ sda = false)) →
        ∃ t, exec (.linkRecoveryEnd scl sda) s = .next t ∧ t.running .link = false ∧
          (TablesWhole s →
            (t.faultRec .linkStuck).state = .active ∧
              (t.faultRec .linkStuck).detail = [some (Int.ofNat w.item.entry)]))) ∧
    ((s.plc.wire = none ∨ ∀ b, s.plc.link ≠ .recovery b) →
      ∀ scl sda, exec (.linkRecoveryEnd scl sda) s = .next s)

/-- Reads that fall due (R76, R78, R79; with LINK not RUN R84, R85). The model's choices
in it: a read starts where it is placed in its slot (log entry 15); a snapshot due by its period that has not started
takes the due time reckoned anew, and is due no longer when that lies ahead, while one that was asked for stands (log
entry 37). -/
def Obligations.DueReadsAreStarted : Prop :=
  ∀ s : State,
    (∀ (p : PackId) (t0 : Time), s.polled p = true → (s.poll p).started = some t0 → (s.poll p).due = false →
      s.period p ≤ s.time.age t0 →
      (s.running .link = false →
        exec (.snapshotDue p) s =
          .next (s.setPoll p { s.poll p with due := true, byPeriod := true, dueAt := t0 + BitVec.ofNat 32 (s.period p) })) ∧
      (s.running .link = true → s.plc.work = none → s.plc.asked = [] → s.plc.pass = none →
        (∀ q, q ≠ p → (s.poll q).due = false) →
        ∃ t, exec (.snapshotDue p) s = .next t ∧ t = s.setPlc t.plc ∧ (t.poll p).started = some s.time ∧
          (t.poll p).due = false ∧
          t.plc.work = some (.snapshot p (snapItems (s.pack p).identity) Snapshot.blank))) ∧
    (∀ (x : Sensor) (t0 : Time), (s.sensorPoll x).started = some t0 → (s.sensorPoll x).due = false →
      s.sensorPeriod ≤ s.time.age t0 →
      (s.running .link = false →
        exec (.sensorReadDue x) s =
          .next (s.setSensorPoll x
            { s.sensorPoll x with due := true, byPeriod := true, dueAt := t0 + BitVec.ofNat 32 s.sensorPeriod })) ∧
      (s.running .link = true → s.plc.reading = none → s.plc.pass = none →
        (∀ y, y ≠ x → (s.sensorPoll y).due = false) →
        ∃ t, exec (.sensorReadDue x) s = .next t ∧ t = s.setPlc t.plc ∧ t.plc.reading = some x ∧
          (t.sensorPoll x).started = some s.time ∧ (t.sensorPoll x).due = false)) ∧
    (∀ (p : PackId) (t0 : Time), s.polled p = true → (s.poll p).started = some t0 →
      let due := t0 + BitVec.ofNat 32 (s.period p)
      ((s.poll p).due = false → s.period p ≤ s.time.age t0 →
        ((refreshDue s).poll p).due = true ∧ ((refreshDue s).poll p).dueAt = due) ∧
      ((s.poll p).due = false → s.time.age t0 < s.period p → (refreshDue s).poll p = s.poll p) ∧
      ((s.poll p).due = true → (s.poll p).byPeriod = true → (s.poll p).dueAt ≠ due → s.time.age t0 < s.period p →
        ((refreshDue s).poll p).due = false) ∧
      ((s.poll p).due = true → (s.poll p).byPeriod = true → s.period p ≤ s.time.age t0 →
        (refreshDue s).poll p = { s.poll p with dueAt := due }) ∧
      ((s.poll p).due = true → (s.poll p).byPeriod = false → (refreshDue s).poll p = s.poll p)) ∧
    (∀ p, s.polled p = true →
      s.period p =
        if s.charging p = true then 1000
        else if s.swc.platform = .sleep ∨ s.swc.platform = .off then 30000
        else if s.pth.path.source = some p.source then 1000
        else 10000) ∧
    (s.sensorPeriod = if s.swc.platform = .sleep ∨ s.swc.platform = .off then 5000 else 1000) ∧
    (∀ p, ∃ t, exec (.snapshotDue p) s = .next t ∧ t = s.setPlc t.plc) ∧
    (∀ x, ∃ t, exec (.sensorReadDue x) s = .next t ∧ t = s.setPlc t.plc)

/-- The Capture Queue's requests (R100, R101). -/
def Obligations.CapturesAreQueuedAndRead : Prop :=
  ∀ (h : ReqHead) (s : State), s.takes →
    (s.running .hinge = false → Replies (.captureAngle h) s .notNow [] s) ∧
    (s.running .hinge = true →
      ∃ t, Replies (.captureAngle h) s .ok
          (u16 s.hsi.reported ++ u8 s.hsi.validity.num ++ time32 s.time
            ++ u8 (if s.hsi.captures.length < 2 then 0 else 1)) t ∧
        t.psm = s.psm ∧ t.thc = s.thc ∧ t.fsu = s.fsu ∧
        (s.hsi.captures.length < 2 →
          t.hsi = { s.hsi with
            captures := s.hsi.captures
              ++ [{ angle := s.hsi.reported, source := .request, validity := s.hsi.validity, time := s.time }] } ∧
            t.evr.capture = true) ∧
        (2 ≤ s.hsi.captures.length →
          t.hsi = { s.hsi with lost := true } ∧ Raised .captureLost [some 3] s t)) ∧
    (s.hsi.captures = [] →
      Replies (.readCapture h) s .ok (captureBytes s.hsi.reported 4 s.hsi.validity s.time s.hsi.lost 0)
        (s.setHsi { s.hsi with lost := false })) ∧
    (∀ c rest, s.hsi.captures = c :: rest →
      ∃ t, Replies (.readCapture h) s .ok
          (captureBytes c.angle c.source.num c.validity c.time s.hsi.lost rest.length) t ∧
        t.hsi = { s.hsi with captures := rest, lost := false } ∧ t.psm = s.psm ∧ t.fsu = s.fsu ∧
        (rest = [] → t.evr.capture = false) ∧ (rest ≠ [] → t.evr = s.evr))

/-- The monitor's requests (R94, R99, R104). -/
def Obligations.HingeMonitorRequests : Prop :=
  ∀ (h : ReqHead) (s : State), s.takes →
    (∀ (vl cl sp ci gl ol : RawEnable) (hyst : Byte) (nominal : BitVec 16),
      ((readEnable vl = none ∨ readEnable cl = none ∨ readEnable sp = none ∨ readEnable ci = none ∨
          readEnable gl = none ∨ readEnable ol = none ∨ readRange 0 15 hyst = none ∨
          readRange 200 1800 nominal = none) →
        Replies (.setHingeMonitor h vl cl sp ci gl ol hyst nominal) s .badValue [] s) ∧
      (∀ e1 e2 e3 e4 e5 e6 hy nom, readEnable vl = some e1 → readEnable cl = some e2 → readEnable sp = some e3 →
        readEnable ci = some e4 → readEnable gl = some e5 → readEnable ol = some e6 →
        readRange 0 15 hyst = some hy → readRange 200 1800 nominal = some nom →
        ∃ t, Replies (.setHingeMonitor h vl cl sp ci gl ol hyst nominal) s .ok [] t ∧
          t.hsi.hysteresis = hy.getD s.hsi.hysteresis ∧ t.hsi.nominal = nom.getD s.hsi.nominal ∧
          t.hsi.sin = s.hsi.sin ∧ t.hsi.cos = s.hsi.cos ∧ t.hsi.reported = s.hsi.reported ∧ t.fsu = s.fsu ∧
          (∀ x e, (x, e) ∈ [(HingeSource.vectorLow, e1), (.clip, e2), (.spin, e3), (.calInvalid, e4),
              (.gainLimit, e5), (.offsetLimit, e6)] →
            (t.monitor x).monitor = e.1.getD (s.monitor x).monitor ∧
              (t.monitor x).latch = e.2.getD (s.monitor x).latch) ∧
          (∀ x, HingeSource.isError x = true →
            (t.monitor x).cond = (s.monitor x).cond ∧
              (t.monitor x).flag =
                ((t.monitor x).monitor && ((s.monitor x).cond || ((t.monitor x).latch && (s.monitor x).flag)))))) ∧
    (∃ t, Replies (.clearHingeErrors h) s .ok (flagBytes t.hsi.monitors) t ∧ t.fsu = s.fsu ∧
      t.hsi.captures = s.hsi.captures ∧
      ∀ x, (t.monitor x).flag = ((s.monitor x).flag && (s.monitor x).cond) ∧
        (t.monitor x).cond = (s.monitor x).cond) ∧
    (h.chan = .P →
      ((s.running .hinge = false ∨ s.hsi.validity ≠ .referenced) → Replies (.saveCalibration h) s .notNow [] s) ∧
      (s.running .hinge = true → s.hsi.validity = .referenced → s.sts.busy.isSome →
        Replies (.saveCalibration h) s .busy [] s) ∧
      (s.running .hinge = true → s.hsi.validity = .referenced → s.sts.busy = none →
        Replies (.saveCalibration h) s .accepted []
          (s.setSts { s.sts with busy := some (.calibration s.hsi.record, 6) })))

/-- Samples, trackers, the monitor at a sample and persistence (R89 to R95): corrected values and magnitudes in
thousandths. That an expiry which is not due changes nothing is log entry 2; that one expiry raises HINGE_SENSOR once
for every source whose timer stands at 10 s, one after the other (R170), before the job leaves RUN is the model's choice
(log entry 4); the side by which a window is entered and left is log entry 48, and the channel HINGE_ERROR names where
both are marked log entry 53. -/
def Obligations.SamplePairsAreAcceptedOrRejected : Prop :=
  ∀ s : State,
    (∀ a b : BitVec 12, s.running .hinge = false → exec (.samplePair a b) s = .next s) ∧
    (∀ a b : BitVec 12, s.running .hinge = true →
      (a.toInt = -2048 ∨ a.toInt = 2047 ∨ b.toInt = -2048 ∨ b.toInt = 2047 ∨
        ((a.toInt - s.hsi.sin.offset) * Int.ofNat s.hsi.sin.gain) ^ 2 +
            ((b.toInt - s.hsi.cos.offset) * Int.ofNat s.hsi.cos.gain) ^ 2 <
          Int.ofNat (1000 * (s.hsi.nominal * 30 / 100)) ^ 2) →
      ∃ t, exec (.samplePair a b) s = .next t ∧ t.hsi.rejected = true ∧ t.hsi.raw = s.hsi.raw ∧
        t.hsi.reported = s.hsi.reported ∧ t.hsi.speed = s.hsi.speed ∧ t.hsi.sin = s.hsi.sin ∧
        t.hsi.cos = s.hsi.cos ∧ t.hsi.collection = s.hsi.collection ∧
        t.hsi.history = (none :: s.hsi.history).take 8 ∧ t.hsi.captures = s.hsi.captures ∧ t.fsu = s.fsu) ∧
    (∀ a b : BitVec 12, s.running .hinge = true → a.toInt ≠ -2048 → a.toInt ≠ 2047 → b.toInt ≠ -2048 →
      b.toInt ≠ 2047 →
      Int.ofNat (1000 * (s.hsi.nominal * 30 / 100)) ^ 2 ≤
        ((a.toInt - s.hsi.sin.offset) * Int.ofNat s.hsi.sin.gain) ^ 2 +
          ((b.toInt - s.hsi.cos.offset) * Int.ofNat s.hsi.cos.gain) ^ 2 →
      ∃ t, exec (.samplePair a b) s = .next t ∧ t.hsi.rejected = false ∧
        t.hsi.raw =
            direction ((b.toInt - s.hsi.cos.offset) * Int.ofNat s.hsi.cos.gain)
              ((a.toInt - s.hsi.sin.offset) * Int.ofNat s.hsi.sin.gain) ∧
        t.hsi.closedRef = s.hsi.closedRef ∧ t.hsi.captures = s.hsi.captures ∧ t.fsu = s.fsu ∧
        t.hsi.history = (some t.hsi.raw :: s.hsi.history).take 8 ∧
        (∀ old, s.hsi.history[7]? = some (some old) → t.hsi.speed = angleGap t.hsi.raw old * 125) ∧
        ((∀ old, s.hsi.history[7]? ≠ some (some old)) → t.hsi.speed = s.hsi.speed) ∧
        (s.hsi.awaitFirst = true → t.hsi.sin = s.hsi.sin ∧ t.hsi.cos = s.hsi.cos) ∧
        (s.hsi.awaitFirst = false →
          TrackersFollow s.hsi.raw t.hsi.raw a.toInt b.toInt s.hsi t.hsi) ∧
        ((s.hsi.awaitFirst = true ∨
            s.hsi.hysteresis < angleGap ((t.hsi.raw + 4096 - s.hsi.closedRef) % 4096) s.hsi.reported) →
          t.hsi.reported = (t.hsi.raw + 4096 - s.hsi.closedRef) % 4096) ∧
        (s.hsi.awaitFirst = false →
          angleGap ((t.hsi.raw + 4096 - s.hsi.closedRef) % 4096) s.hsi.reported ≤ s.hsi.hysteresis →
          t.hsi.reported = s.hsi.reported)) ∧
    (∀ a b : BitVec 12, s.running .hinge = true →
      let full := a.toInt = -2048 ∨ a.toInt = 2047 ∨ b.toInt = -2048 ∨ b.toInt = 2047
      let low :=
        ((a.toInt - s.hsi.sin.offset) * Int.ofNat s.hsi.sin.gain) ^ 2 +
            ((b.toInt - s.hsi.cos.offset) * Int.ofNat s.hsi.cos.gain) ^ 2 <
          Int.ofNat (1000 * (s.hsi.nominal * 30 / 100)) ^ 2
      ∃ t, exec (.samplePair a b) s = .next t ∧
        ((t.monitor .vectorLow).cond = true ↔ low) ∧ ((t.monitor .clip).cond = true ↔ full) ∧
        ((t.monitor .spin).cond = true ↔
          ¬full ∧ ¬low ∧ ∃ old, s.hsi.history[7]? = some (some old) ∧ 66 ≤ angleGap t.hsi.raw old) ∧
        (t.monitor .calInvalid).cond = (s.monitor .calInvalid).cond ∧
        ((t.monitor .gainLimit).cond = true ↔ t.hsi.sin.gainMark = true ∨ t.hsi.cos.gainMark = true) ∧
        ((t.monitor .offsetLimit).cond = true ↔ t.hsi.sin.offsetMark = true ∨ t.hsi.cos.offsetMark = true) ∧
        (∀ x,
          (t.monitor x).monitor = (s.monitor x).monitor ∧ (t.monitor x).latch = (s.monitor x).latch ∧
            (t.monitor x).flag =
              ((s.monitor x).monitor && ((t.monitor x).cond || ((s.monitor x).latch && (s.monitor x).flag))) ∧
            ((t.monitor x).flag = false → HingeSource.isError x = true → t.persistence x = 0) ∧
            ((t.monitor x).flag = true → t.persistence x = s.persistence x)) ∧
        (∀ x, (s.monitor x).flag = false → (t.monitor x).flag = true →
          (∀ y, (s.monitor y).flag = false → (t.monitor y).flag = true → y.num ≤ x.num) →
          Raised .hingeError
            (some (Int.ofNat x.num) ::
              match x with
              | .gainLimit => [some (if t.hsi.sin.gainMark then 0 else 1)]
              | .offsetLimit => [some (if t.hsi.sin.offsetMark then 0 else 1)]
              | _ => []) s t) ∧
        ((∃ x, HingeSource.isError x = true ∧ (t.monitor x).flag = true) → t.hsi.validity = .failed) ∧
        ((∀ x, HingeSource.isError x = true → (t.monitor x).flag = false) →
          t.hsi.validity = if s.hsi.validity = .failed then .unreferenced else s.hsi.validity)) ∧
    (∀ x, s.running .hinge = true → HingeSource.isError x = true → (s.monitor x).flag = true →
      10000 ≤ s.persistence x →
      ∃ t, exec (.persistenceTimerExpired x) s = .next t ∧ t.running .hinge = false ∧
        (TablesWhole s →
          let ended :=
            [HingeSource.vectorLow, .clip, .spin, .calInvalid].filter fun y =>
              (s.monitor y).flag = true ∧ 10000 ≤ s.persistence y
          (t.faultRec .hingeSensor).state = .active ∧
            (t.faultRec .hingeSensor).count = min 255 ((s.faultRec .hingeSensor).count + ended.length) ∧
            (∃ y ∈ ended, (t.faultRec .hingeSensor).detail = [some (Int.ofNat y.num)]) ∧
            (ended = [x] → (t.faultRec .hingeSensor).detail = [some (Int.ofNat x.num)])) ∧
        ∀ y, t.persistence y = 0) ∧
    (∀ x, (s.running .hinge = false ∨ HingeSource.isError x = false ∨ (s.monitor x).flag = false ∨
        s.persistence x < 10000) →
      exec (.persistenceTimerExpired x) s = .next s)

/-- The laws of the hinge sensor and the Posture Monitor at every step (R93, R96, R100, R108, R109). -/
def Obligations.HingeAndPostureLawsKept : Prop :=
  KeptByStep CaptureQueueBounded ∧ KeptByStep ValidityFollowsFlags ∧ KeptByStep PostureHearsHinge ∧
    KeptByStep ConflictFollowsSwitches ∧ KeptByStep BandNeedsReference

/-- The events of the Posture Monitor (R107, R110, R112, R113, R117), and SET POSTURE THRESHOLDS, which keeps the order
of the thresholds (R116). That an event which is not due changes nothing is log entry 2. -/
def Obligations.PostureEventsAndThresholds : Prop :=
  (∀ s : State,
    (∀ (x : HingeSwitch) (on : Bool),
      exec (.switchLineChange x on) s =
        .next (s.setPsm (s.psm.setLine x
          { s.psm.line x with
            level := on,
            count := if on = (s.psm.line x).debounced then none else some ((s.psm.line x).count.getD 0) }))) ∧
    (∀ x : HingeSwitch, (s.psm.line x).count = some 20 →
      ∃ t, exec (.switchDebouncedEdge x) s = .next t ∧ (t.psm.line x).debounced = (s.psm.line x).level ∧
        (t.psm.line x).count = none ∧ t.fsu = s.fsu ∧
        (x = .lid → s.psm.lid.level = true → s.psm.tablet.debounced = false → s.psm.evaluated = true →
          s.psm.candidate ≠ .closed → t.psm.current = .closed)) ∧
    (∀ x : HingeSwitch, (s.psm.line x).count ≠ some 20 → exec (.switchDebouncedEdge x) s = .next s) ∧
    (∀ n, s.psm.dwell = some n → s.psm.settings.dwell ≤ n →
      ∃ t, exec .dwellExpired s = .next t ∧ t.psm.current = s.psm.candidate ∧ t.psm.dwell = none ∧
        t.psm.lastChange = some (s.time, s.psm.current) ∧ Listed .postureChanged s t ∧
        (s.psm.current = .closed → Listed .lidOpened s t) ∧
        (s.psm.candidate = .closed → Listed .lidClosed s t) ∧ t.fsu = s.fsu ∧ t.sts = s.sts) ∧
    ((∀ n, s.psm.dwell = some n → n < s.psm.settings.dwell) → exec .dwellExpired s = .next s) ∧
    (s.psm.evaluated = false → 20 ≤ s.psm.sincePower → ConflictFollowsSwitches s →
      let lid := if s.psm.lid.count = some 20 then s.psm.lid.level else s.psm.lid.debounced
      let tablet := if s.psm.tablet.count = some 20 then s.psm.tablet.level else s.psm.tablet.debounced
      ∃ t, exec .firstEvaluation s = .next t ∧ t.psm.evaluated = true ∧ t.psm.lid.debounced = lid ∧
        t.psm.tablet.debounced = tablet ∧
        t.psm.current =
          (if lid && tablet then .unknown
           else if lid then .closed
           else if tablet then .tablet
           else if s.running .hinge = true ∧ s.psm.validity = .referenced then
             (nextBand s.psm.settings none s.psm.angle).posture
           else .unknown) ∧ t.fsu = s.fsu) ∧
    ((s.psm.evaluated = true ∨ s.psm.sincePower < 20) → exec .firstEvaluation s = .next s)) ∧
  (∀ (h : ReqHead) (a b c d e : BitVec 16) (s : State), s.takes →
    ((readRange 1 4095 a = none ∨ readRange 1 4095 b = none ∨ readRange 1 4095 c = none ∨
        readRange 1 4095 d = none ∨ readRange 50 1000 e = none) →
      Replies (.setPostureThresholds h a b c d e) s .badValue [] s) ∧
    (∀ se sl te tl dw, readRange 1 4095 a = some se → readRange 1 4095 b = some sl → readRange 1 4095 c = some te →
      readRange 1 4095 d = some tl → readRange 50 1000 e = some dw →
      let p := s.psm.settings
      let new : PostureSettings :=
        { standEnter := se.getD p.standEnter, standLeave := sl.getD p.standLeave,
          tabletEnter := te.getD p.tabletEnter, tabletLeave := tl.getD p.tabletLeave, dwell := dw.getD p.dwell }
      (new.standLeave < new.standEnter → new.standEnter ≤ new.tabletLeave → new.tabletLeave < new.tabletEnter →
        ∃ t, Replies (.setPostureThresholds h a b c d e) s .ok [] t ∧ t.psm.settings = new ∧
          (∀ n, t.psm.dwell = some n → n < new.dwell) ∧ t.psm.lid = s.psm.lid ∧ t.psm.tablet = s.psm.tablet ∧
          t.fsu = s.fsu ∧ t.time = s.time) ∧
      (¬(new.standLeave < new.standEnter ∧ new.standEnter ≤ new.tabletLeave ∧ new.tabletLeave < new.tabletEnter) →
        Replies (.setPostureThresholds h a b c d e) s .badValue [] s)) ∧
    (∀ v : BitVec 16, readRange 1 4095 v = none ↔ v.toNat ≠ 65535 ∧ (v.toNat < 1 ∨ 4095 < v.toNat)))

/-- The candidate posture (R110). -/
def Obligations.CandidateIsTheFirstCaseThatApplies : Prop :=
  (∀ s : State,
    (s.psm.conflict = true → s.candidateNow = .unknown) ∧
    (s.psm.conflict = false → s.psm.lid.debounced = true → s.candidateNow = .closed) ∧
    (s.psm.conflict = false → s.psm.lid.debounced = false → s.psm.tablet.debounced = true →
      s.candidateNow = .tablet) ∧
    (s.psm.conflict = false → s.psm.lid.debounced = false → s.psm.tablet.debounced = false →
      (s.running .hinge = true →
        (s.psm.band = some .laptop → s.candidateNow = .laptop) ∧
        (s.psm.band = some .stand → s.candidateNow = .stand) ∧
        (s.psm.band = some .tablet → s.candidateNow = .tablet) ∧ (s.psm.band = none → s.candidateNow = .unknown)) ∧
      (s.running .hinge = false → s.candidateNow = .unknown)) ∧
    ((s.running .hinge = false ∨ s.psm.band = none) →
      s.candidateNow = .closed ∨ s.candidateNow = .tablet ∨ s.candidateNow = .unknown)) ∧
  KeptByStep BandNeedsReference

/-- The requests of the Key Event Queue and of the keyboard settings (R124, R132, R134). -/
def Obligations.KeyRequestsFetchAndSet : Prop :=
  ∀ (h : ReqHead) (s : State), s.takes →
    (∀ max : Byte, (max.toNat < 1 ∨ 12 < max.toNat) → Replies (.fetchKeys h max) s .badValue [] s) ∧
    (∀ max : Byte, 1 ≤ max.toNat → max.toNat ≤ 12 →
      (s.kbs.queue = [] → Replies (.fetchKeys h max) s .empty [] s) ∧
      (s.kbs.queue ≠ [] → KeyQueueBounded s →
        ∃ t, Replies (.fetchKeys h max) s .ok
            (fetchContent (s.kbs.queue.take max.toNat) t.kbs.queue.length) t ∧
          t.kbs.overflow = false ∧ t.kbs.keys = s.kbs.keys ∧ t.kbs.mode = s.kbs.mode ∧
          t.kbs.settings = s.kbs.settings ∧ t.psm = s.psm ∧ t.fsu = s.fsu ∧ t.swc = s.swc ∧
          (s.kbs.overflow = false ∨
              (s.kbs.queue.drop max.toNat).getLast?.map (·.kind) = some .overflow →
            t.kbs.queue = s.kbs.queue.drop max.toNat) ∧
          (s.kbs.overflow = true →
            (s.kbs.queue.drop max.toNat).getLast?.map (·.kind) ≠ some .overflow →
            t.kbs.queue = s.kbs.queue.drop max.toNat
                ++ [{ key := none, kind := .overflow, synthetic := false, time := s.time }] ∧
              Raised .keyOverflow [] s t) ∧
          (t.kbs.queue = [] → t.evr.keys = false))) ∧
    (∀ (a b w : Byte) (d p : BitVec 16) (m : Option (List Byte)),
      ((readRange 1 7 a = none ∨ readRange 1 7 b = none ∨ readRange 250 1000 d = none ∨
          readRange 33 500 p = none ∨ readKeep [true, false] w = none ∨ readMap m = none) →
        Replies (.setKeyboard h a b d p w m) s .badValue [] s) ∧
      (∀ x y z u v n, readRange 1 7 a = some x → readRange 1 7 b = some y → readRange 250 1000 d = some z →
        readRange 33 500 p = some u → readKeep [true, false] w = some v → readMap m = some n →
        Replies (.setKeyboard h a b d p w m) s .ok []
          (s.setKbs
            { s.kbs with
              settings :=
                { pressDebounce := x.getD s.kbs.settings.pressDebounce,
                  releaseDebounce := y.getD s.kbs.settings.releaseDebounce,
                  delay := z.getD s.kbs.settings.delay, period := u.getD s.kbs.settings.period,
                  wakeEnable := v.getD s.kbs.settings.wakeEnable, map := n.getD s.kbs.settings.map } }))) ∧
    (∀ (bs : List Byte) (as : List KeyAttr), readMap (some bs) = some (some as) →
      as.length = 144 ∧ as.countP (· = .modifier) ≤ 8)

/-- The state of each key after a scan (R121 to R123). -/
def Obligations.KeyStatesFollowTheScan : Prop :=
  (∀ (keys : List KeyEntry) (k : Nat), k < 144 →
    (ghost keys k = true ↔
      ∃ c r, c < 18 ∧ r < 8 ∧ c ≠ k / 8 ∧ r ≠ k % 8 ∧ heldKey keys (8 * (k / 8) + r) = true ∧
        heldKey keys (8 * c + k % 8) = true ∧ heldKey keys (8 * c + r) = true)) ∧
  (∀ (t : KeySettings) (keys : List KeyEntry) (k : Nat) (e : KeyEntry),
    ((e.state = .up ∨ e.state = .pressPending) →
      (nextKey t keys k e false).state = .up ∧
        (ghost keys k = true → (nextKey t keys k e true).state = .blocked) ∧
        (ghost keys k = false →
          let n := if e.state = .up then 1 else e.count + 1
          (t.pressDebounce ≤ n →
            nextKey t keys k e true = { state := .down, count := 0, pressedAs := t.map.getD k .normal }) ∧
          (n < t.pressDebounce →
            nextKey t keys k e true = { e with state := .pressPending, count := n }))) ∧
    ((e.state = .down ∨ e.state = .releasePending) →
      (nextKey t keys k e true).state = .down ∧ (nextKey t keys k e true).pressedAs = e.pressedAs ∧
        (e.state = .releasePending → nextKey t keys k e true = { e with state := .down, count := 0 }) ∧
        let n := if e.state = .down then 1 else e.count + 1
        (t.releaseDebounce ≤ n → nextKey t keys k e false = { state := .up, count := 0, pressedAs := .normal }) ∧
        (n < t.releaseDebounce →
          nextKey t keys k e false = { e with state := .releasePending, count := n })) ∧
    (e.state = .blocked →
      (ghost keys k = true → ∀ b, nextKey t keys k e b = e) ∧
        (ghost keys k = false →
          nextKey t keys k e true = { e with state := .pressPending, count := 1 } ∧
            (nextKey t keys k e false).state = .up))) ∧
  (∀ (t : KeySettings) (keys : List KeyEntry) (sensed : List Key) (k : Key) (e : KeyEntry),
    keys[k.val]? = some e →
      (nextKeys t keys sensed)[k.val]? = some (nextKey t keys k.val e (decide (k ∈ sensed))))

/-- The events of the Keyboard Scanner (R119, R120, R123 to R126, R129 to R131): a scan's key events in key-number order,
the start and the end of the typematic key, the KEY wake source and the end of a wake burst. That an event which is not
due changes nothing is log entry 2; the order of the events of one scan is log entry 4; that a wake with MAIN_PG
asserted gives ON at once is log entry 19. -/
def Obligations.KeyboardEventsRunTheScanner : Prop :=
  ∀ s : State,
    (∀ sensed, s.kbs.mode ≠ .active → exec (.scanEnd sensed) s = .next s) ∧
    (∀ sensed, s.kbs.mode = .active →
      (s.suppressing = false → shortColumns (nextRuns s.kbs.shortRuns sensed) = [] →
        ∃ t, exec (.scanEnd sensed) s = .next t ∧
          t.kbs.keys = nextKeys s.kbs.settings s.kbs.keys sensed ∧ t.kbs.settings = s.kbs.settings ∧
          t.psm = s.psm ∧ t.hsi = s.hsi ∧ t.fsu = s.fsu ∧
          let now := nextKeys s.kbs.settings s.kbs.keys sensed
          let attr := fun k => s.kbs.settings.map.getD k .normal
          let pressed := fun k => heldKey s.kbs.keys k = false ∧ heldKey now k = true
          let released := fun k => heldKey s.kbs.keys k = true ∧ heldKey now k = false
          let entry : Nat → KeyKind → KeyEvent := fun k kind =>
            { key := some k, kind := kind, synthetic := false, time := s.time }
          let events := (List.range 144).filterMap fun k =>
            if pressed k ∧ attr k ≠ .platform then some (entry k .press)
            else if released k ∧ (s.kbs.keys.getD k .released).pressedAs ≠ .platform then some (entry k .release)
            else none
          let asleep := s.swc.platform = .sleep
          (TablesWhole s → KeyQueueBounded s →
            t.kbs.queue = s.kbs.queue ++ events.take (32 - s.kbs.queue.length) ∧
              (t.kbs.overflow = true ↔ s.kbs.overflow = true ∨ 32 < s.kbs.queue.length + events.length)) ∧
          (TablesWhole s →
            (∀ k, pressed k → attr k = .platform → (∀ j, pressed j → attr j = .platform → j ≤ k) →
              Raised .platformKey [some (Int.ofNat k)] s t) ∧
            (¬asleep → ∀ k, pressed k → attr k = .normal → (∀ j, pressed j → attr j = .normal → j ≤ k) →
              t.kbs.typematic = some { key := k, repeating := false, left := s.kbs.settings.delay }) ∧
            ((asleep ∨ ∀ k, pressed k → attr k ≠ .normal) →
              t.kbs.typematic = s.kbs.typematic.filter fun y => decide (¬released y.key)) ∧
            (∀ k, pressed k → asleep → s.kbs.settings.wakeEnable = true → s.running .keys = true →
              s.swc.settings.sleepMask.key = true →
              t.swc.primary = some .key ∧ t.swc.railMain = true ∧
                t.swc.platform = if s.swc.mainPg then .on else .waking) ∧
            (((∀ k, ¬pressed k) ∨ s.kbs.settings.wakeEnable = false) → t.swc = s.swc)) ∧
          ((∃ e ∈ now, e.state ≠ .up) → t.kbs.mode = .active ∧ t.kbs.idleTimer = 0) ∧
          ((∀ e ∈ now, e.state = .up) → TablesWhole s →
            (s.kbs.burst = true →
              t.kbs.mode = .idleDetect ∧ t.kbs.burst = false ∧ t.kbs.idleTimer = 0 ∧ t.kbs.shortRuns = noRuns) ∧
            (s.kbs.burst = false → t.kbs.mode = .active ∧ t.kbs.idleTimer = s.kbs.idleTimer))) ∧
      (shortColumns (nextRuns s.kbs.shortRuns sensed) ≠ [] → s.running .keys = true → TablesWhole s →
        ∃ t, exec (.scanEnd sensed) s = .next t ∧ (t.faultRec .matrixShort).state = .active ∧
          (∃ c ∈ shortColumns (nextRuns s.kbs.shortRuns sensed),
            (t.faultRec .matrixShort).detail = [some (Int.ofNat c)]) ∧
          t.running .keys = false ∧ t.kbs.mode = .suppressed ∧ t.kbs.keys = allUp ∧ t.psm = s.psm)) ∧
    (s.kbs.mode = .active → 64 ≤ s.kbs.idleTimer → s.swc.platform ≠ .sleep → s.swc.platform ≠ .shuttingDown →
      s.swc.platform ≠ .off →
      exec .idleTimerExpired s =
        .next (s.setKbs
          { s.kbs with mode := .idleDetect, burst := false, idleTimer := 0, shortRuns := noRuns })) ∧
    ((s.kbs.mode ≠ .active ∨ s.kbs.idleTimer < 64 ∨ s.swc.platform = .sleep ∨ s.swc.platform = .shuttingDown ∨
        s.swc.platform = .off) →
      exec .idleTimerExpired s = .next s) ∧
    (s.kbs.mode = .idleDetect →
      exec .rowDetected s =
        .next (s.setKbs
          { s.kbs with mode := .active, idleTimer := 0, burst := decide (s.swc.platform = .sleep) })) ∧
    (s.kbs.mode ≠ .idleDetect → exec .rowDetected s = .next s) ∧
    (∀ y, s.kbs.typematic = some y → y.left = 0 →
      ∃ t, exec .typematicExpiry s = .next t ∧
        t.kbs.typematic = some { key := y.key, repeating := true, left := s.kbs.settings.period } ∧
        t.kbs.keys = s.kbs.keys ∧ t.kbs.overflow = s.kbs.overflow ∧ t.fsu = s.fsu ∧ t.swc = s.swc ∧
        ((s.kbs.keys.getD y.key .released).state = .down → s.kbs.queue.length < 24 →
          t.kbs.queue =
            s.kbs.queue ++ [{ key := some y.key, kind := .again, synthetic := false, time := s.time }]) ∧
        (((s.kbs.keys.getD y.key .released).state ≠ .down ∨ 24 ≤ s.kbs.queue.length) →
          t.kbs.queue = s.kbs.queue)) ∧
    ((∀ y, s.kbs.typematic = some y → y.left ≠ 0) → exec .typematicExpiry s = .next s)

/-- REPORT TEMPERATURE and SET FAN CURVE POINT (R145, R150, R151; the code of NONE, 12.6). That a trip temperature
given sets the trip runs to 0 also where it is the one in force is log entry 36. -/
def Obligations.TemperatureReportsAndCurves : Prop :=
  ∀ (h : ReqHead) (s : State), s.takes →
    (∀ temp : BitVec 16, temp.toInt = -32767 →
      ∃ t, Replies (.reportTemperature h temp) s .ok [] t ∧
        t.input .hostrep = { s.input .hostrep with valid := false } ∧ t.thc.holds = s.thc.holds ∧
        t.thc.derate = s.thc.derate ∧ t.fsu = s.fsu ∧ t.swc = s.swc ∧ t.chc = s.chc) ∧
    (∀ temp : BitVec 16, -300 ≤ temp.toInt → temp.toInt ≤ 1250 →
      ∃ t, Replies (.reportTemperature h temp) s .ok [] t ∧ (t.input .hostrep).value = temp.toInt ∧
        (t.input .hostrep).valid = true ∧ (t.input .hostrep).time = some s.time ∧
        ((s.input .hostrep).fired = false →
          (t.input .hostrep).fired = decide (s.thc.trip - 50 ≤ temp.toInt) ∧
            (s.thc.trip - 50 ≤ temp.toInt → Raised .thermalWarn [some 3, some temp.toInt] s t)) ∧
        ((s.input .hostrep).fired = true →
          (t.input .hostrep).fired = decide (s.thc.trip - 70 ≤ temp.toInt) ∧ t.evr = s.evr) ∧
        GoverningFollowsInputs t ∧ t.thc.derate = s.thc.derate ∧ t.fsu = s.fsu ∧ t.swc = s.swc ∧
        t.chc = s.chc) ∧
    (∀ temp : BitVec 16, temp.toInt ≠ -32767 → (temp.toInt < -300 ∨ 1250 < temp.toInt) →
      Replies (.reportTemperature h temp) s .badValue [] s) ∧
    (∀ (fan set point duty : Byte) (temp : BitVec 16),
      ((1 < fan.toNat ∨ 1 < set.toNat ∨ 5 < point.toNat ∨ temp.toInt < -300 ∨ 1250 < temp.toInt ∨
          100 < duty.toNat) →
        Replies (.setFanCurvePoint h (.point fan set point temp duty)) s .badValue [] s) ∧
      (∀ f tablet, readEnum [Fan.fan0, .fan1] fan = some f → readEnum [false, true] set = some tablet →
        point.toNat ≤ 5 → -300 ≤ temp.toInt → temp.toInt ≤ 1250 → duty.toNat ≤ 100 →
        let l := s.thc.curves.of tablet f
        let ordered :=
          (∀ q, 1 ≤ point.toNat → l[point.toNat - 1]? = some q → q.temp < temp.toInt ∧ q.duty ≤ duty.toNat) ∧
            ∀ q, l[point.toNat + 1]? = some q → temp.toInt < q.temp ∧ duty.toNat ≤ q.duty
        (¬ordered → Replies (.setFanCurvePoint h (.point fan set point temp duty)) s .badValue [] s) ∧
        (ordered →
          ∃ t, Replies (.setFanCurvePoint h (.point fan set point temp duty)) s .ok [] t ∧
            t.thc.curves.of tablet f = l.set point.toNat ⟨temp.toInt, duty.toNat⟩ ∧
            (∀ g u, (g ≠ f ∨ u ≠ tablet) → t.thc.curves.of u g = s.thc.curves.of u g) ∧
            t.thc.inputs = s.thc.inputs ∧ t.thc.holds = s.thc.holds ∧ t.thc.floor = s.thc.floor ∧
            t.thc.trip = s.thc.trip ∧ t.fsu = s.fsu ∧ t.evr = s.evr))) ∧
    (∀ floor trip : BitVec 16,
      ((readSigned 400 950 floor = none ∨ readSigned 800 1050 trip = none) →
        Replies (.setFanCurvePoint h (.limits floor trip)) s .badValue [] s) ∧
      (∀ f t, readSigned 400 950 floor = some f → readSigned 800 1050 trip = some t →
        (t.getD s.thc.trip < f.getD s.thc.floor + 100 →
          Replies (.setFanCurvePoint h (.limits floor trip)) s .badValue [] s) ∧
        (f.getD s.thc.floor + 100 ≤ t.getD s.thc.trip →
          ∃ u, Replies (.setFanCurvePoint h (.limits floor trip)) s .ok [] u ∧
            u.thc.floor = f.getD s.thc.floor ∧ u.thc.trip = t.getD s.thc.trip ∧ u.thc.curves = s.thc.curves ∧
            (t.isSome → u.thc.inputs.ts0.tripRun = 0 ∧ u.thc.inputs.ts1.tripRun = 0 ∧
              u.thc.inputs.die.tripRun = 0) ∧
            (t = none → u.thc.inputs = s.thc.inputs) ∧ u.fsu = s.fsu ∧ u.evr = s.evr)))

/-- The Hold Stack (R141, R142). That HOLD_EXPIRED with no hold due changes nothing is log entry 2; that POP HOLD
returns the removed hold in the form of READ HOLDS, with the time left in the place of the expiry, is log entry 5. -/
def Obligations.HoldsArePushedPoppedAndExpire : Prop :=
  ∀ s : State,
    (∀ (h : ReqHead) (a b : Byte) (e : BitVec 16), s.takes →
      ((readHoldValue a = none ∨ readHoldValue b = none) → Replies (.pushHold h a b e) s .badValue [] s) ∧
      (∀ x y, readHoldValue a = some x → readHoldValue b = some y →
        ∃ t, Replies (.pushHold h a b e) s .ok
            (u8 t.thc.holds.length ++ u8 (if 6 ≤ s.thc.holds.length then 1 else 0)) t ∧
          t.thc.holds =
            { fan0 := x, fan1 := y, expiry := if e = 0 then none else some e.toNat, owner := h.chan,
              pushed := s.time } :: s.thc.holds.take 5 ∧
          (∀ lost, 6 ≤ s.thc.holds.length → s.thc.holds.getLast? = some lost →
            Raised .fanHoldLost [some (Int.ofNat lost.owner.num)] s t) ∧
          (s.thc.holds.length < 6 → t.evr = s.evr) ∧ t.thc.inputs = s.thc.inputs ∧
          t.thc.curves = s.thc.curves ∧ t.thc.derate = s.thc.derate ∧ t.fsu = s.fsu ∧ t.swc = s.swc)) ∧
    (∀ v : Byte, (readHoldValue v = none ↔ 100 < v.toNat ∧ v.toNat ≠ 254) ∧
      (v.toNat ≤ 100 → readHoldValue v = some (some v.toNat)) ∧ (v = 254 → readHoldValue v = some none)) ∧
    (∀ h : ReqHead, s.takes →
      (s.thc.holds = [] → Replies (.popHold h) s .empty [] s) ∧
      (∀ x rest, s.thc.holds = x :: rest →
        ∃ t, Replies (.popHold h) s .ok (holdBytes s.time x) t ∧ t.thc.holds = rest ∧
          t.thc.inputs = s.thc.inputs ∧ t.thc.derate = s.thc.derate ∧ t.fsu = s.fsu ∧ t.evr = s.evr ∧
          t.swc = s.swc)) ∧
    ((∃ x ∈ s.thc.holds, x.left s.time = some 0) →
      ∃ t, exec .holdExpired s = .next t ∧
        t.thc.holds = s.thc.holds.filter (fun x => x.left s.time ≠ some 0) ∧
        t.thc.inputs = s.thc.inputs ∧ t.thc.derate = s.thc.derate ∧ t.fsu = s.fsu ∧ t.evr = s.evr ∧
        t.swc = s.swc) ∧
    ((∀ x ∈ s.thc.holds, x.left s.time ≠ some 0) → exec .holdExpired s = .next s)

/-- The readings of TS0, TS1 and DIE with their warning, trip and derate (R79, R137, R145 to R147), and
INPUT_AGE_EXPIRED. That an age which has not passed changes nothing is log entry 2. -/
def Obligations.ReadingsTripAndAge : Prop :=
  ∀ s : State,
    (∀ (bus : BusEnd) (x : Sensor) (b : List Byte), s.handed bus = some (.sensorPoll, .done b) →
      s.plc.reading = some x → s.running .link = true →
      let i := x.input
      let v := (BitVec.ofNat 16 (ofLeBytes b)).toInt * 10 / 16
      ∃ t, exec (.transactionEnd bus) s = .next t ∧ GoverningFollowsInputs t ∧
        WarningAt i v s t ∧
        (v < s.thc.trip → (t.input i).tripRun = 0 ∧ t.fsu = s.fsu ∧ t.swc = s.swc) ∧
        (s.thc.trip ≤ v → (s.input i).tripRun = 0 → (t.input i).tripRun = 1 ∧ t.fsu = s.fsu ∧ t.swc = s.swc) ∧
        (s.thc.trip ≤ v → 1 ≤ (s.input i).tripRun →
          (t.input i).tripRun = 0 ∧ t.swc.platform = .off ∧
            (s.swc.platform ≠ .off → t.swc.lastOff = .thermalTrip) ∧
            (s.running .thermal = true → t.job .thermal = s.job .thermal) ∧
            (TablesWhole s →
              (t.faultRec .thermalTrip).state = .active ∧
                (t.faultRec .thermalTrip).detail = [some (Int.ofNat i.num), some v])) ∧
        (x = .ts0 → t.thc.derate = s.thc.derate) ∧
        (x = .ts1 → s.running .thermal = false → t.thc.derate = .zero) ∧
        (x = .ts1 → s.running .thermal = true →
          t.thc.derate = derateFrom (if (s.input .ts1).valid then s.thc.derate else .none) v)) ∧
    (∀ v : Int,
      ∃ t, exec (.dieConversion v) s = .next t ∧ (t.input .die).value = v ∧ (t.input .die).valid = true ∧
        (t.input .die).time = some s.time ∧ GoverningFollowsInputs t ∧ WarningAt .die v s t ∧
        t.thc.derate = s.thc.derate ∧
        (v < s.thc.trip → (t.input .die).tripRun = 0 ∧ t.fsu = s.fsu ∧ t.swc = s.swc) ∧
        (s.thc.trip ≤ v → (s.input .die).tripRun = 0 →
          (t.input .die).tripRun = 1 ∧ t.fsu = s.fsu ∧ t.swc = s.swc) ∧
        (s.thc.trip ≤ v → 1 ≤ (s.input .die).tripRun →
          (t.input .die).tripRun = 0 ∧ t.swc.platform = .off ∧
            (s.swc.platform ≠ .off → t.swc.lastOff = .thermalTrip) ∧
            (s.running .thermal = true → t.job .thermal = s.job .thermal) ∧
            ((s.job .thermal).state = .halted → (t.job .thermal).state = .off) ∧
            (TablesWhole s →
              (t.faultRec .thermalTrip).state = .active ∧
                (t.faultRec .thermalTrip).detail = [some 2, some v]))) ∧
    (∀ (i : ThermalInput) (t0 : Time), (s.input i).valid = true → (i = .hostrep ∨ s.thc.grace = 0) →
      (s.input i).time = some t0 →
      (if i = .hostrep then 5000 else if s.swc.platform = .sleep ∨ s.swc.platform = .off then 15000 else 3000)
        < s.time.age t0 →
      ∃ t, exec (.inputAgeExpired i) s = .next t ∧ t.input i = { s.input i with valid := false } ∧
        GoverningFollowsInputs t ∧ t.fsu.table = s.fsu.table ∧ t.swc = s.swc ∧
        (i = .ts1 → s.running .thermal = true → t.thc.derate = .half) ∧
        (i ≠ .ts1 → t.thc.derate = s.thc.derate)) ∧
    (∀ i : ThermalInput,
      ((s.input i).valid = false ∨ (i ≠ .hostrep ∧ s.thc.grace ≠ 0) ∨ (s.input i).time = none ∨
        ∃ t0, (s.input i).time = some t0 ∧
          s.time.age t0 ≤
            (if i = .hostrep then 5000 else if s.swc.platform = .sleep ∨ s.swc.platform = .off then 15000
             else 3000)) →
      exec (.inputAgeExpired i) s = .next s)

/-- The tachometers and the stall (R143, R144). That an expiry which is not due changes nothing is log entry 2. -/
def Obligations.TachometerAndStall : Prop :=
  ∀ (f : Fan) (s : State),
    (∀ us, (s.fan f).lastPulse = none →
      exec (.tachPulse f us) s = .next (s.setFan f { s.fan f with lastPulse := some s.time })) ∧
    (∀ us, (s.fan f).lastPulse ≠ none → us < 1000 → exec (.tachPulse f us) s = .next s) ∧
    (∀ us, (s.fan f).lastPulse ≠ none → 1000 ≤ us →
      ∃ r, exec (.tachPulse f us) s = .next (s.setFan f r) ∧ r.speed = 30000000 / us ∧
        r.lastPulse = some s.time ∧ r.duty = (s.fan f).duty ∧ r.governing = (s.fan f).governing ∧
        (s.running .thermal = true → 300 ≤ 30000000 / us → r.stalled = false ∧ r.stallTimer = 0) ∧
        (s.running .thermal = false → r.stalled = (s.fan f).stalled ∧ r.stallTimer = (s.fan f).stallTimer)) ∧
    (∀ t0, (s.fan f).lastPulse = some t0 → 200 ≤ s.time.age t0 →
      ∃ r, exec (.tachTimeout f) s = .next (s.setFan f r) ∧ r.speed = 0 ∧ r.lastPulse = none ∧
        r.duty = (s.fan f).duty) ∧
    (((s.fan f).lastPulse = none ∨ ∃ t0, (s.fan f).lastPulse = some t0 ∧ s.time.age t0 < 200) →
      exec (.tachTimeout f) s = .next s) ∧
    (s.running .thermal = true → 20 ≤ (s.fan f).duty → (s.fan f).speed < 300 → 3000 ≤ (s.fan f).stallTimer →
      (s.fan f).stalled = false →
      ∃ t, exec (.stallTimerExpired f) s = .next t ∧ (t.fan f).stalled = true ∧
        (t.fan f).stallTimer = (s.fan f).stallTimer ∧ (t.fan f).duty = (s.fan f).duty ∧
        t.job .thermal = s.job .thermal ∧ t.swc = s.swc ∧
        (TablesWhole s →
          (t.faultRec .fanStall).state = .active ∧
            (t.faultRec .fanStall).detail = [some (Int.ofNat f.num)])) ∧
    ((s.running .thermal = false ∨ (s.fan f).duty < 20 ∨ 300 ≤ (s.fan f).speed ∨ (s.fan f).stallTimer < 3000 ∨
        (s.fan f).stalled = true) →
      exec (.stallTimerExpired f) s = .next s)

/-- The tables of the Thermal Controller (R138, R139, R140, R147). -/
def Obligations.DutyCurveAndDerateTables : Prop :=
  (∀ (i : Inputs) (v : Int),
    (governing i .fan0 = some v ↔
      (∃ x ∈ [i.ts0, i.die, i.hostrep], x.valid = true ∧ x.value = v) ∧
        ∀ x ∈ [i.ts0, i.die, i.hostrep], x.valid = true → x.value ≤ v) ∧
    (governing i .fan1 = some v ↔
      (∃ x ∈ [i.ts1, i.hostrep], x.valid = true ∧ x.value = v) ∧
        ∀ x ∈ [i.ts1, i.hostrep], x.valid = true → x.value ≤ v)) ∧
  (∀ (curve : List CurvePoint) (c : Int), curve.Pairwise (fun p q => p.temp < q.temp ∧ p.duty ≤ q.duty) →
    (∀ p, curve.head? = some p → c ≤ p.temp → curveAt c curve = p.duty) ∧
      (∀ p, curve.getLast? = some p → p.temp ≤ c → curveAt c curve = p.duty) ∧
      ∀ (n : Nat) (p q : CurvePoint), curve[n]? = some p → curve[n + 1]? = some q → p.temp ≤ c → c ≤ q.temp →
        curveAt c curve = p.duty + (q.duty - p.duty) * (c - p.temp).toNat / (q.temp - p.temp).toNat) ∧
  (∀ (f : Fan) (s : State),
    let r := (deriveFan f s).fan f
    r.governing = governing s.thc.inputs f ∧
      (r.curveInput = none → r.curveDuty = 100) ∧
      (∀ c, r.curveInput = some c →
        r.curveDuty = curveAt c (s.thc.curves.of (decide (s.psm.current = .tablet)) f)) ∧
      (r.governing = none → r.curveInput = none) ∧
      (∀ t, r.governing = some t → (s.fan f).curveInput = none → r.curveInput = some t) ∧
      (∀ t c, r.governing = some t → (s.fan f).curveInput = some c →
        (c < t → r.curveInput = some t) ∧ (t < c - 20 → r.curveInput = some (t + 20)) ∧
          (c - 20 ≤ t → t ≤ c → r.curveInput = some c)) ∧
      (s.running .thermal = false → r.duty = 100 ∧ r.origin = .job) ∧
      (s.running .thermal = true → r.governing = none → r.duty = 100 ∧ r.origin = .noInput) ∧
      (∀ g, s.running .thermal = true → r.governing = some g →
        ((s.swc.platform = .sleep ∨ s.swc.platform = .off ∨ s.thc.holds = [] ∨
            ∃ x rest, s.thc.holds = x :: rest ∧ x.value f = none) →
          r.duty = r.curveDuty ∧ r.origin = .curve) ∧
        (∀ x rest d, s.swc.platform ≠ .sleep → s.swc.platform ≠ .off → s.thc.holds = x :: rest →
          x.value f = some d →
          (s.thc.floor ≤ g → d < r.curveDuty → r.duty = r.curveDuty ∧ r.origin = .floor) ∧
            (¬(s.thc.floor ≤ g ∧ d < r.curveDuty) → r.duty = d ∧ r.origin = .hold)))) ∧
  (∀ v : Int,
    (derateFrom .none v = if 500 ≤ v then .zero else if 450 ≤ v then .half else .none) ∧
      (derateFrom .half v = if 500 ≤ v then .zero else if 430 ≤ v then .half else .none) ∧
      (derateFrom .zero v = if 480 ≤ v then .zero else if 430 ≤ v then .half else .none)) ∧
  (∀ s : State,
    (s.running .thermal = false → s.derateFresh = .zero) ∧
      (s.running .thermal = true → s.thc.inputs.ts1.valid = false → s.derateFresh = .half) ∧
      (s.running .thermal = true → s.thc.inputs.ts1.valid = true →
        s.derateFresh = derateFrom .none s.thc.inputs.ts1.value))

/-- The requests of the Sleep and Wake Controller (R155, R163, R166, R167). That ENTER STATE carries SLEEP as 0 and OFF
as 1, every higher byte being BAD_VALUE, and that SET WAKE reads a mask byte with bit 7 set as outside its values, but
0xFF as unchanged, is log entry 5. -/
def Obligations.PlatformRequestsAreAnswered : Prop :=
  ∀ (h : ReqHead) (s : State), s.takes →
    (∀ target : Byte, 1 < target.toNat → Replies (.enterState h target) s .badValue [] s) ∧
    (∀ (target : Byte) (p : Platform), readEnum [Platform.enteringSleep, .shuttingDown] target = some p →
      (s.swc.platform ≠ .on → Replies (.enterState h target) s .notNow [] s) ∧
      (s.swc.platform = .on →
        ∃ t, Replies (.enterState h target) s .accepted [] t ∧
          t.swc = { s.swc with platform := p, settle := some 100, fired := .empty } ∧ t.fsu = s.fsu ∧
          t.psm = s.psm ∧ t.hsi = s.hsi ∧ t.pth = s.pth ∧ t.chc = s.chc)) ∧
    (∀ a b c d e f : Byte,
      ((readMask a = none ∨ readMask b = none ∨ readRange 0 50 c = none ∨ readRange 0 50 d = none ∨
          readRange 0 50 e = none ∨ readKeep [true, false] f = none) →
        Replies (.setWake h a b c d e f) s .badValue [] s) ∧
      (∀ sm om lo cr sh au, readMask a = some sm → readMask b = some om → readRange 0 50 c = some lo →
        readRange 0 50 d = some cr → readRange 0 50 e = some sh → readKeep [true, false] f = some au →
        let w := s.swc.settings
        let n : WakeSettings :=
          { sleepMask := sm.getD w.sleepMask, offMask := om.getD w.offMask, low := lo.getD w.low,
            critical := cr.getD w.critical, shutdown := sh.getD w.shutdown, autoOn := au.getD w.autoOn }
        ((n.offMask.key = true ∨ n.offMask.lidOpen = true ∨ n.critical < n.shutdown ∨ n.low < n.critical) →
          Replies (.setWake h a b c d e f) s .badValue [] s) ∧
        (n.offMask.key = false → n.offMask.lidOpen = false → n.shutdown ≤ n.critical → n.critical ≤ n.low →
          Replies (.setWake h a b c d e f) s .ok [] (s.setSwc { s.swc with settings := n })))) ∧
    Replies (.setWakeTimer h 0) s .ok [] (s.setSwc { s.swc with wakeTimer := none }) ∧
    (∀ sec : BitVec 32, 1 ≤ sec.toNat → sec.toNat ≤ 86400 →
      Replies (.setWakeTimer h sec) s .ok [] (s.setSwc { s.swc with wakeTimer := some (sec.toNat * 1000) })) ∧
    (∀ sec : BitVec 32, 86400 < sec.toNat → Replies (.setWakeTimer h sec) s .badValue [] s) ∧
    (s.swc.presses = 0 → Replies (.takePress h) s .empty [] s) ∧
    (s.swc.presses ≠ 0 →
      ∃ t, Replies (.takePress h) s .ok (u8 (s.swc.presses - 1)) t ∧
        t.swc = { s.swc with presses := s.swc.presses - 1 } ∧
        t.evr.button = decide (1 < s.swc.presses) ∧ t.fsu = s.fsu ∧ t.kbs = s.kbs)

/-- The rails and the platform (R156 to R158, R161, R165), and the rise of RAIL_MAIN_EN that waited for the path to leave
NO_SOURCE (R157). That MAIN_PG found asserted as RAIL_MAIN_EN rises gives ON at once is log entry 19; that an event
which is not due changes nothing is log entry 2. -/
def Obligations.RailEventsMoveThePlatform : Prop :=
  ∀ s : State,
    (s.swc.settle = some 0 → s.swc.platform = .enteringSleep →
      ∃ t, exec .settleTimerExpired s = .next t ∧ t.swc.railMain = false ∧ t.swc.settle = none ∧ t.fsu = s.fsu ∧
        (s.swc.grace = none → t.swc.platform = .sleep ∧ t.swc.railSlp = s.swc.railSlp) ∧
        (s.swc.grace ≠ none →
          t.swc.platform = .off ∧ t.swc.railSlp = false ∧ t.swc.lastOff = .batteryShutdown ∧
            t.swc.grace = none)) ∧
    (s.swc.settle = some 0 → s.swc.platform = .shuttingDown →
      ∃ t, exec .settleTimerExpired s = .next t ∧ t.swc.platform = .off ∧ t.swc.lastOff = .request ∧
        t.swc.railMain = false ∧ t.swc.railSlp = false ∧ t.swc.settle = none ∧ t.fsu = s.fsu) ∧
    ((s.swc.settle ≠ some 0 ∨ (s.swc.platform ≠ .enteringSleep ∧ s.swc.platform ≠ .shuttingDown)) →
      exec .settleTimerExpired s = .next s) ∧
    (s.swc.platform = .poweringUp → s.swc.mainDelay = some 0 →
      (s.pth.path = .noSource →
        exec .mainRailDelayExpired s =
          .next (s.setSwc { s.swc with mainDelay := none, mainWaits := true })) ∧
      (s.pth.path ≠ .noSource → s.swc.mainPg = false →
        exec .mainRailDelayExpired s =
          .next (s.setSwc
            { s.swc with railMain := true, powerGood := some 50, mainWaits := false, mainDelay := none })) ∧
      (s.pth.path ≠ .noSource → s.swc.mainPg = true →
        ∃ t, exec .mainRailDelayExpired s = .next t ∧ t.swc.platform = .on ∧ t.swc.railMain = true ∧
          t.swc.wakeTime = some s.time)) ∧
    ((s.swc.platform ≠ .poweringUp ∨ s.swc.mainDelay ≠ some 0) → exec .mainRailDelayExpired s = .next s) ∧
    (s.swc.platform = .poweringUp → s.swc.mainWaits = true → s.pth.path = .noSource →
      let rises := fun t : State =>
        t.pth.path ≠ .noSource ∧ t.swc.railMain = true ∧ t.swc.mainWaits = false ∧ t.swc.railSlp = s.swc.railSlp ∧
          (s.swc.mainPg = false → t.swc.platform = .poweringUp ∧ t.swc.powerGood = some 50) ∧
          (s.swc.mainPg = true → t.swc.platform = .on ∧ t.swc.wakeTime = some s.time)
      (∀ x : Source, rises (startSwitch x s)) ∧
        (s.adapter.present = true → s.adapter.qualified = false → s.adapter.overvolt = false →
          s.adapter.count = some 20 → s.adapter.hold = none →
          ∃ t, exec .adapterQualified s = .next t ∧ rises t) ∧
        ∀ (bus : BusEnd) (p : PackId) (x : Snapshot), s.published bus = some (p, x) →
          ∃ t, exec (.transactionEnd bus) s = .next t ∧ (t.pth.path ≠ .noSource → rises t)) ∧
    ((s.swc.platform = .waking ∨ s.swc.platform = .poweringUp) → s.swc.powerGood ≠ none →
      ∃ t, exec .mainPgAsserted s = .next t ∧ t.swc.platform = .on ∧ t.swc.mainPg = true ∧
        t.swc.powerGood = none ∧ t.swc.wakeTime = some s.time ∧ t.swc.railMain = s.swc.railMain ∧
        t.swc.railSlp = s.swc.railSlp ∧ t.swc.primary = s.swc.primary ∧ t.fsu = s.fsu ∧
        Raised .woke [(s.swc.primary.map fun w => Int.ofNat w.num)] s t) ∧
    (((s.swc.platform ≠ .waking ∧ s.swc.platform ≠ .poweringUp) ∨ s.swc.powerGood = none) →
      exec .mainPgAsserted s = .next (s.setSwc { s.swc with mainPg := true })) ∧
    (∀ n : Int, ((s.swc.platform = .waking ∧ n = 0) ∨ (s.swc.platform = .poweringUp ∧ n = 1)) →
      s.swc.powerGood = some 0 → s.swc.mainPg = false →
      ∃ t, exec .powerGoodTimeout s = .next t ∧ t.swc.platform = .off ∧ t.swc.lastOff = .railFail ∧
        t.swc.railMain = false ∧ t.swc.railSlp = false ∧ t.swc.powerGood = none ∧
        (s.running .power = true → t.running .power = true) ∧
        (TablesWhole s →
          (t.faultRec .railFail).state = .active ∧ (t.faultRec .railFail).detail = [some n])) ∧
    (((s.swc.platform ≠ .waking ∧ s.swc.platform ≠ .poweringUp) ∨ s.swc.powerGood ≠ some 0 ∨
        s.swc.mainPg = true) →
      exec .powerGoodTimeout s = .next s) ∧
    ((s.swc.platform = .on ∨ s.swc.platform = .enteringSleep) →
      ∃ t, exec .mainPgLost s = .next t ∧ t.swc.platform = .off ∧ t.swc.lastOff = .railFail ∧
        t.swc.railMain = false ∧ t.swc.railSlp = false ∧ t.swc.mainPg = false ∧ t.swc.grace = none ∧
        (TablesWhole s →
          (t.faultRec .railFail).state = .active ∧ (t.faultRec .railFail).detail = [some 2])) ∧
    (s.swc.platform ≠ .on → s.swc.platform ≠ .enteringSleep →
      exec .mainPgLost s = .next (s.setSwc { s.swc with mainPg := false }))

/-- The power button and the timers of SWC (R160, R162, R163, R165, R166). That an event which is not due changes
nothing is log entry 2. -/
def Obligations.ButtonAndTimersActOnThePlatform : Prop :=
  ∀ s : State,
    (∀ on : Bool,
      exec (.powerButtonChange on) s =
        .next (s.setSwc
          { s.swc with
            button := on, count := if on = s.swc.debounced then none else some (s.swc.count.getD 0) })) ∧
    (s.swc.count = some 30 → s.swc.button = false →
      exec .powerButtonDebounced s =
        .next (s.setSwc { s.swc with debounced := false, count := none, pressTime := none })) ∧
    (s.swc.count = some 30 → s.swc.button = true →
      ∃ t, exec .powerButtonDebounced s = .next t ∧ t.swc.debounced = true ∧ t.swc.count = none ∧ t.fsu = s.fsu ∧
        (s.swc.platform = .on →
          t.swc.presses = min 15 (s.swc.presses + 1) ∧ t.evr.button = true ∧ t.swc.pressTime = some 0 ∧
            t.swc.platform = .on) ∧
        (s.swc.platform ≠ .on → t.swc.presses = s.swc.presses) ∧
        (s.swc.platform = .off → t.swc.pressTime = none) ∧
        (s.swc.platform ≠ .off → t.swc.pressTime = some 0)) ∧
    (s.swc.count ≠ some 30 → exec .powerButtonDebounced s = .next s) ∧
    (s.swc.pressTime = some 4000 →
      ∃ t, exec .longPress s = .next t ∧ t.swc.platform = .off ∧ t.swc.presses = s.swc.presses ∧ t.fsu = s.fsu ∧
        (s.swc.platform ≠ .off →
          t.swc.lastOff = .longPress ∧ t.swc.railMain = false ∧ t.swc.railSlp = false ∧ t.swc.grace = none) ∧
        (s.swc.platform = .off → t.swc.lastOff = s.swc.lastOff)) ∧
    (s.swc.pressTime ≠ some 4000 → exec .longPress s = .next s) ∧
    (s.swc.grace = some 0 →
      ∃ t, exec .graceTimerExpired s = .next t ∧ t.swc.platform = .off ∧ t.swc.grace = none ∧ t.fsu = s.fsu ∧
        (s.swc.platform ≠ .off →
          t.swc.lastOff = .batteryShutdown ∧ t.swc.railMain = false ∧ t.swc.railSlp = false)) ∧
    (s.swc.grace ≠ some 0 → exec .graceTimerExpired s = .next s) ∧
    (s.swc.wakeTimer = some 0 →
      ∃ t, exec .wakeTimerExpired s = .next t ∧ t.swc.wakeTimer = none ∧ t.fsu = s.fsu ∧
        ((s.swc.platform = .on ∨ s.swc.platform = .shuttingDown) →
          t = s.setSwc { s.swc with wakeTimer := none }) ∧
        (s.swc.platform = .sleep → s.swc.settings.sleepMask.timer = true → t.swc.primary = some .timer) ∧
        (s.swc.platform = .sleep → s.swc.settings.sleepMask.timer = false →
          t = s.setSwc { s.swc with wakeTimer := none })) ∧
    (s.swc.wakeTimer ≠ some 0 → exec .wakeTimerExpired s = .next s)

/-- Wake sources, forced OFF and the battery band (R156, R157, R159, R160, R164, R165). That SLEEP goes to ON at once
with MAIN_PG asserted is log entry 19. -/
def Obligations.WakeAndForcedOffByState : Prop :=
  (∀ (w : WakeSource) (s : State),
    ((s.swc.platform = .on ∨ s.swc.platform = .shuttingDown) → wake w s = s) ∧
    ((s.swc.platform = .enteringSleep ∨ s.swc.platform = .sleep ∨ s.swc.platform = .waking) →
      s.swc.settings.sleepMask.has w = false → wake w s = s) ∧
    ((s.swc.platform = .off ∨ s.swc.platform = .poweringUp) → s.swc.settings.offMask.has w = false →
      wake w s = s) ∧
    (s.swc.platform = .enteringSleep → s.swc.settings.sleepMask.has w = true →
      (wake w s).swc.platform = .on ∧ (wake w s).swc.railMain = s.swc.railMain ∧
        (wake w s).swc.railSlp = s.swc.railSlp ∧ (wake w s).swc.settle = none ∧
        (wake w s).swc.primary = some w ∧ (wake w s).swc.fired = s.swc.fired.add w ∧
        (wake w s).swc.wakeTime = some s.time ∧ Raised .woke [some (Int.ofNat w.num)] s (wake w s)) ∧
    (s.swc.platform = .sleep → s.swc.settings.sleepMask.has w = true →
      (wake w s).swc.platform = (if s.swc.mainPg then .on else .waking) ∧ (wake w s).swc.railMain = true ∧
        (wake w s).swc.railSlp = s.swc.railSlp ∧ (wake w s).swc.primary = some w ∧
        (wake w s).swc.fired = s.swc.fired.add w ∧
        (s.swc.mainPg = false → (wake w s).swc.powerGood = some 50)) ∧
    (s.swc.platform = .off → s.swc.settings.offMask.has w = true →
      (wake w s).swc.platform = .poweringUp ∧ (wake w s).swc.railSlp = true ∧
        (wake w s).swc.railMain = s.swc.railMain ∧ (wake w s).swc.mainDelay = some 10 ∧
        (wake w s).swc.primary = some w ∧ (wake w s).swc.fired = s.swc.fired.add w) ∧
    ((s.swc.platform = .waking ∧ s.swc.settings.sleepMask.has w = true) ∨
        (s.swc.platform = .poweringUp ∧ s.swc.settings.offMask.has w = true) →
      wake w s = s.setSwc { s.swc with fired := s.swc.fired.add w })) ∧
  (∀ (c : OffCause) (s : State),
    (s.swc.platform = .off → forcedOff c s = s) ∧
    (s.swc.platform ≠ .off →
      let t := forcedOff c s
      t.swc.platform = .off ∧ t.swc.railSlp = false ∧ t.swc.railMain = false ∧ t.swc.settle = none ∧
        t.swc.powerGood = none ∧ t.swc.grace = none ∧ t.swc.lastOff = c ∧ t.swc.wakeTimer = s.swc.wakeTimer ∧
        t.swc.presses = s.swc.presses ∧ t.swc.fired = (if s.swc.platform = .on then .empty else s.swc.fired) ∧
        t.fsu = s.fsu)) ∧
  (∀ s : State,
    let remaining : PackId → Nat := fun p =>
      if (s.pack p).usable = true then ((s.pack p).snapshot.map (·.remaining)).getD 0 else 0
    let full : PackId → Nat := fun p =>
      if (s.pack p).usable = true then ((s.pack p).snapshot.map (·.full)).getD 0 else 0
    s.combined =
      if full .A + full .B = 0 then none
      else some ((remaining .A + remaining .B) * 100 / (full .A + full .B))) ∧
  (∀ s : State, (s.adapter.qualified = true ∨ s.combined = none) → evaluateBand s = s) ∧
  (∀ (c : Nat) (s : State), s.adapter.qualified = false → s.combined = some c →
    let t := evaluateBand s
    let now := bandAfter s.swc.settings c s.swc.band
    t.swc.band = now ∧ t.pth = s.pth ∧ t.chc.a.state = s.chc.a.state ∧ t.chc.b.state = s.chc.b.state ∧
      (s.swc.band = .aboveLow → now ≠ .aboveLow → Raised .batteryLow [some (Int.ofNat c)] s t) ∧
      ((s.swc.band = .aboveLow ∨ s.swc.band = .low) → (now = .critical ∨ now = .shutdown) →
        Raised .batteryCritical [some (Int.ofNat c)] s t ∧
          (s.swc.platform = .off → s.swc.settings.offMask.has .batteryCritical = true →
            t.swc.platform = .poweringUp ∧ t.swc.primary = some .batteryCritical) ∧
          (s.swc.platform = .sleep → s.swc.settings.sleepMask.has .batteryCritical = true →
            t.swc.primary = some .batteryCritical ∧ t.swc.railMain = true)) ∧
      (s.swc.band ≠ .shutdown → now = .shutdown → s.swc.platform = .on →
        t.swc.platform = .on ∧ t.swc.grace = some (s.swc.grace.getD 10000)) ∧
      (s.swc.band ≠ .shutdown → now = .shutdown → s.swc.platform = .sleep →
        s.swc.settings.sleepMask.has .batteryCritical = false →
        t.swc.platform = .off ∧ t.swc.lastOff = .batteryShutdown) ∧
      (s.swc.band = .shutdown → now ≠ .shutdown → t.swc.grace = none)) ∧
  (∀ (bus : BusEnd) (p : PackId) (x : Snapshot) (s : State), s.published bus = some (p, x) →
    ∃ t, exec (.transactionEnd bus) s = .next t ∧
      ∀ c, s.adapter.qualified = false → t.combined = some c →
        t.swc.band = bandAfter s.swc.settings c s.swc.band) ∧
  (∀ (mv : BitVec 16) (s : State), s.adapter.present = true → s.adapter.qualified = true → mv.toNat < 11500 →
    ∃ t, exec (.adapterRemoval mv) s = .next t ∧
      t.swc.band = match s.combined with
        | some c => bandAfter s.swc.settings c .aboveLow
        | none => .aboveLow)

/-- The requests on the Fault Table and the recoveries (R177 to R179); the codes and bytes of fault records are those
of log entry 5. -/
def Obligations.FaultRequestsReadAndClear : Prop :=
  ∀ (h : ReqHead) (s : State), s.takes → TablesWhole s →
    ((∀ c, (s.faultRec c).state ≠ .active) → Replies (.fetchFault h) s .empty (jobsBytes s) s) ∧
    (∀ c, (s.faultRec c).state = .active → (∀ d, d.num < c.num → (s.faultRec d).state ≠ .active) →
      ∃ t, Replies (.fetchFault h) s .ok
          (u8 (c.num - 1) ++ u8 c.job.num ++ faultBytes (s.faultRec c) ++ u8 t.activeCount ++ jobsBytes s) t ∧
        t.faultRec c = { s.faultRec c with state := .reported } ∧
        (∀ d, d ≠ c → t.faultRec d = s.faultRec d) ∧ (∀ j, t.job j = s.job j) ∧ t.pth = s.pth ∧
        t.chc = s.chc ∧ t.swc = s.swc ∧ (t.activeCount = 0 → t.evr.fault = false)) ∧
    (h.chan = .P →
      (∀ code : Byte, 12 < code.toNat → Replies (.clearFault h code) s .badValue [] s) ∧
      (∀ (code : Byte) (c : FaultCode), code.toNat + 1 = c.num →
        ∃ t, Replies (.clearFault h code) s .ok (u8 0 ++ faultBytes (s.faultRec c)) t ∧
          t.faultRec c = { s.faultRec c with state := .cleared } ∧
          (∀ d, d ≠ c → t.faultRec d = s.faultRec d) ∧ (∀ j, t.job j = s.job j) ∧
          (c ≠ .packSilent → c ≠ .chargeTimeout → c ≠ .prechargeTimeout →
            t.pth = s.pth ∧ t.chc = s.chc ∧ t.plc = s.plc ∧ t.swc = s.swc ∧ t.thc = s.thc) ∧
          (c = .packSilent → ∀ p, (s.pack p).presence = .faulted → (t.pack p).presence = .detected) ∧
          (c = .chargeTimeout → ∀ p, (t.charge p).state ≠ .fault .chargeTimeout) ∧
          (c = .prechargeTimeout → ∀ p, (t.charge p).state ≠ .fault .prechargeTimeout)) ∧
      (∀ a b c d e : Byte,
        ((2 < a.toNat ∨ 2 < b.toNat ∨ 2 < c.toNat ∨ 2 < d.toNat ∨ 2 < e.toNat) →
          Replies (.setRecovery h a b c d e) s .badValue [] s) ∧
        (∀ x y z u v, readKeep [Recovery.halt, .stop] a = some x → readKeep [Recovery.halt, .stop] b = some y →
          readKeep [Recovery.halt, .stop] c = some z → readKeep [Recovery.halt, .stop] d = some u →
          readKeep [Recovery.halt, .stop] e = some v →
          ∃ t, Replies (.setRecovery h a b c d e) s .ok [] t ∧ t = s.setFsu t.fsu ∧
            t.fsu.table = s.fsu.table ∧
            t.job .power = { s.job .power with recovery := x.getD (s.job .power).recovery } ∧
            t.job .link = { s.job .link with recovery := y.getD (s.job .link).recovery } ∧
            t.job .hinge = { s.job .hinge with recovery := z.getD (s.job .hinge).recovery } ∧
            t.job .keys = { s.job .keys with recovery := u.getD (s.job .keys).recovery } ∧
            t.job .thermal = { s.job .thermal with recovery := v.getD (s.job .thermal).recovery })))

/-- RESTART JOB (R174, R175), and the selection at the return of POWER to RUN (R12; the records it uses are those of
that moment, log entry 46). -/
def Obligations.RestartJobIsAnsweredByState : Prop :=
  ∀ (h : ReqHead) (s : State), s.takes →
    (h.chan = .S → ∀ job, Replies (.restartJob h job) s .denied [] s) ∧
    (h.chan = .P →
      (∀ job : Byte, 4 < job.toNat → Replies (.restartJob h job) s .badValue [] s) ∧
      (∀ (job : Byte) (j : Job), job.toNat = j.num →
        ((s.job j).state = .run → Replies (.restartJob h job) s .notNow [] s) ∧
        ((s.job j).state = .quiescing → Replies (.restartJob h job) s .busy [] s) ∧
        (((s.job j).state = .halted ∨ (s.job j).state = .off) →
          ((∃ c : FaultCode, c.job = j ∧ (s.faultRec c).state ≠ .cleared) →
            Replies (.restartJob h job) s .faultActive [] s) ∧
          ((∀ c : FaultCode, c.job = j → (s.faultRec c).state = .cleared) →
            ∃ t, Replies (.restartJob h job) s .ok (u8 0) t ∧
              t.job j =
                { state := .run, dest := none, cause := none, waiting := [], recovery := (s.job j).recovery,
                  since := s.time } ∧
              Listed .jobState s t ∧ (∀ k, k ≠ j → t.job k = s.job k) ∧ t.fsu.table = s.fsu.table ∧
              (j = .power → (∃ y, s.pth.path = settledOn y) → PathSelected s t) ∧
              (j = .thermal → (s.job j).state = .off → t.thc.holds = []) ∧
              (j = .thermal → (s.job j).state = .halted → t.thc.holds = s.thc.holds) ∧
              (j = .keys → (s.job j).state = .off → SuppressionFollowsItsCauses s →
                t.kbs.queue = [] ∧ t.kbs.overflow = false)))))

/-- HALT JOB (R172, R173, R176). -/
def Obligations.HaltJobIsAnsweredByState : Prop :=
  ∀ (h : ReqHead) (s : State), s.takes →
    (h.chan = .S → ∀ job dest, Replies (.haltJob h job dest) s .denied [] s) ∧
    (h.chan = .P →
      (∀ job dest : Byte, (4 < job.toNat ∨ 1 < dest.toNat) → Replies (.haltJob h job dest) s .badValue [] s) ∧
      (∀ (job dest : Byte) (j : Job) (d : Destination), job.toNat = j.num → dest.toNat = d.num →
        ((s.job j).state = .run →
          ∃ t, Replies (.haltJob h job dest) s .accepted [] t ∧ (t.job j).cause = some .request ∧
            (t.job j).recovery = (s.job j).recovery ∧ t.fsu.table = s.fsu.table ∧
            ((j = .link → LinkServesItsSlots s) → ∀ k, k ≠ j → t.job k = s.job k) ∧
            (((t.job j).state = .quiescing ∧ (t.job j).dest = some d ∧ (t.job j).waiting ≠ []) ∨
              ((t.job j).state = d.state ∧ (t.job j).dest = none ∧ Listed .jobState s t)) ∧
            ((j = .hinge ∨ j = .keys ∨ j = .thermal) → (t.job j).state = d.state)) ∧
        ((s.job j).state = .quiescing → Replies (.haltJob h job dest) s .busy [] s) ∧
        ((s.job j).state = .halted → d = .off →
          ∃ t, Replies (.haltJob h job dest) s .ok [] t ∧ (t.job j).state = .off ∧
            (t.job j).cause = some .request ∧ (t.job j).since = s.time ∧
            Raised .jobState [some (Int.ofNat j.num), some 3, some 14] s t ∧
            (j = .power → t.chc.caught = none) ∧ (j = .link → t.plc.caught = none)) ∧
        ((s.job j).state = .halted → d = .halted → Replies (.haltJob h job dest) s .notNow [] s) ∧
        ((s.job j).state = .off → Replies (.haltJob h job dest) s .notNow [] s)))

/-- The catch records: what a quiesce of the POWER and of the LINK job saves, what discards it, and how RESTART JOB goes
on from it (R38, R83 to R85, R173, R174). That an identity read the quiesce ends is asked for again is log entry 23. -/
def Obligations.CatchRecordsHoldAndResume : Prop :=
  ∀ s : State,
    let ended : PassOutcome → Pass → PassResult := fun o q =>
      { outcome := o, entry := q.entry, write := q.write, cmd := q.cmd, len := q.len, done := q.done,
        data := if q.write then [] else q.buf, time := s.time }
    let cleared : Job → Prop := fun j => ∀ c : FaultCode, c.job = j → (s.faultRec c).state = .cleared
    (∀ (h : ReqHead) (dest : Byte), s.takes → h.chan = .P → dest.toNat ≤ 1 →
      (s.running .power = true → ¬(s.charging .A = true ∧ s.charging .B = true) →
        ∃ t, Replies (.haltJob h 0 dest) s .accepted [] t ∧ t.chc.chgEn = false ∧ t.chc.next = none ∧
          (∀ p, s.charging p = true →
            (t.charge p).state = .idle ∧ (t.charge p).entry = none ∧ (t.charge p).preTime = 0 ∧
              (t.charge p).fastTime = 0 ∧ (t.charge p).taperRun = 0 ∧
              ((t.job .power).state ≠ .off →
                t.chc.caught =
                  some
                    { pack := p, state := (s.charge p).state, entry := (s.charge p).entry,
                      preTime := (s.charge p).preTime, fastTime := (s.charge p).fastTime })) ∧
          ((t.job .power).state = .off → t.chc.caught = none)) ∧
      (s.running .link = true → s.plc.link = .idle →
        ∃ t, Replies (.haltJob h 1 dest) s .accepted [] t ∧ t.plc.pass = none ∧ t.plc.work = none ∧
          t.plc.write = none ∧ t.plc.reading = none ∧
          ∀ q, s.plc.pass = some q →
            (dest = 0 → t.plc.caught = some { q with reps := 0 } ∧ t.plc.result = s.plc.result) ∧
              (dest = 1 →
                t.plc.caught = none ∧ t.plc.result = some (ended .abandoned q) ∧ Listed .linkDone s t)) ∧
      (s.running .link = true → s.plc.link ≠ .idle →
        ∃ t, Replies (.haltJob h 1 dest) s .accepted [] t ∧ t.plc = s.plc ∧ t.chc = s.chc) ∧
      ((s.job .link).state = .halted → dest = 1 → ∀ q, s.plc.caught = some q →
        ∃ t, Replies (.haltJob h 1 dest) s .ok [] t ∧ t.plc.caught = none ∧
          t.plc.result = some (ended .abandoned q) ∧ Listed .linkDone s t)) ∧
    (∀ (bus : BusEnd) (w : OnWire) (d : Destination), (s.job .link).state = .quiescing →
      (s.job .link).dest = some d → (s.job .link).waiting = [.plc] → s.plc.link = .busy → s.plc.wire = some w →
      let reported := w.client = .charger ∧ s.plc.discard = false ∧ s.plc.gone = false ∧
        (∃ x, s.plc.write = some x ∧ 2 ≤ x.stage) ∧ ∃ b, w.outcome bus = .done b
      ∃ t, exec (.transactionEnd bus) s = .next t ∧ (t.job .link).state = d.state ∧ t.plc.link = .idle ∧
        t.plc.wire = none ∧ t.plc.pass = none ∧ t.plc.work = none ∧ t.plc.write = none ∧ t.plc.reading = none ∧
        t.plc.chargerSlot = none ∧ t.plc.passSlot = none ∧ t.plc.packSlot = none ∧ t.plc.sensorSlot = none ∧
        t.plc.runTs0 = s.plc.runTs0 ∧ t.plc.runTs1 = s.plc.runTs1 ∧
        (∀ p, t.pack p = s.pack p) ∧
        (∀ p, s.plc.work = some (.identity p) → p ∈ t.plc.asked) ∧
        (s.plc.write.isSome = true → s.chc.flightVoid = false → t.chc.inFlight = none) ∧
        (reported → s.chc.flightVoid = false → t.chc.inForce = s.chc.inFlight) ∧
        (¬reported → s.plc.write.isSome = true → s.chc.flightVoid = false →
          t.chc.inForce = none ∧ t.chc.chgEn = false ∧
            t.chc.next = if s.mayWrite then some s.chc.desired else none) ∧
        (∀ q, s.plc.pass = some q → (w.client ≠ .pass ∨ s.plc.discard = true ∨ s.plc.gone = true) →
          (d = .halted → t.plc.caught = some { q with reps := 0 }) ∧
            (d = .off → t.plc.caught = none ∧ t.plc.result = some (ended .abandoned q) ∧ Listed .linkDone s t)) ∧
        (∀ q b, s.plc.pass = some q → w.client = .pass → s.plc.discard = false → s.plc.gone = false →
          w.outcome bus = .done b → (q.seg + 1) * q.segLen < q.len → d = .halted →
          ∃ r, t.plc.caught = some r ∧ r.seg = q.seg + 1 ∧ r.reps = 0 ∧ r.failed = q.failed ∧
            r.done = q.done + min q.segLen (q.len - q.seg * q.segLen) ∧ r.entry = q.entry ∧ r.write = q.write ∧
            r.cmd = q.cmd ∧ r.len = q.len ∧
            r.buf =
              if q.write then q.buf
              else q.buf.take (q.seg * q.segLen) ++ b ++ q.buf.drop (q.seg * q.segLen + b.length))) ∧
    (∀ p, (s.pack p).line = true → (s.pack p).presence ≠ .absent →
      ∃ t, exec (.presenceDeasserted p) s = .next t ∧
        (∀ c, s.chc.caught = some c → c.pack = p → t.chc.caught = none) ∧
        (∀ c, s.chc.caught = some c → c.pack ≠ p → t.chc.caught = some c) ∧
        (∀ q, s.plc.caught = some q → q.entry = (if p = .A then 0 else 1) → s.plc.pass = none →
          t.plc.caught = none ∧ t.plc.result = some (ended .noDevice q) ∧ Listed .linkDone s t)) ∧
    (∀ h : ReqHead, s.takes → h.chan = .P →
      (cleared .power → (s.job .power).state = .halted →
        ∃ t, Replies (.restartJob h 0) s .ok (u8 0) t ∧ t.chc.caught = none ∧
          (s.pth.path = .onAdapter → s.adapterEligible = true → (∀ q, s.charging q = false) →
            (∀ c, s.chc.caught = some c →
              ((s.charge c.pack).state = .idle ∧ s.chargeable c.pack = true ∧ (s.charge c.pack).inhibit = false →
                t.charge c.pack =
                  { s.charge c.pack with
                    state := s.qualifying c.pack, phase := none, entry := c.entry, preTime := c.preTime,
                    fastTime := c.fastTime, taperRun := 0, relAtDone := none }) ∧
              (¬((s.charge c.pack).state = .idle ∧ s.chargeable c.pack = true ∧
                  (s.charge c.pack).inhibit = false) →
                SessionsTried (s.setFsu t.fsu) t)) ∧
            (s.chc.caught = none → SessionsTried (s.setFsu t.fsu) t))) ∧
      (cleared .power → (s.job .power).state = .off →
        ∃ t, Replies (.restartJob h 0) s .ok (u8 0) t ∧ t.chc.caught = none ∧ t.chc.inForce = none ∧
          ∀ p, (t.charge p).doneSince = false ∧ (t.charge p).preTime = 0 ∧ (t.charge p).fastTime = 0 ∧
            (t.charge p).entry = none ∧
            ((s.charge p).inhibit = true → (t.charge p).state = .inhibitedHost) ∧
            ((s.charge p).inhibit = false →
              (t.charge p).state = .idle ∨ (t.charge p).state = s.qualifying p)) ∧
      (cleared .link → (s.job .link).state = .halted →
        ∃ t, Replies (.restartJob h 1) s .ok (u8 0) t ∧ t.plc.caught = none ∧ t.plc.result = s.plc.result ∧
          t.plc.runTs0 = s.plc.runTs0 ∧ t.plc.runTs1 = s.plc.runTs1 ∧ t.plc.devices = s.plc.devices ∧
          (∀ p ∈ s.plc.asked, p ∈ t.plc.asked ∨ t.plc.work = some (.identity p)) ∧
          ∀ q, s.plc.caught = some q →
            t.plc.pass = some q ∧
              (t.plc.passSlot = some q.segment ∨
                t.plc.wire.map (fun w => (w.client, w.item)) = some (.pass, q.segment))) ∧
      (cleared .link → (s.job .link).state = .off →
        ∃ t, Replies (.restartJob h 1) s .ok (u8 0) t ∧ t.plc.caught = none ∧ t.plc.pass = none ∧
          t.plc.result = s.plc.result ∧ t.plc.runTs0 = 0 ∧ t.plc.runTs1 = 0 ∧
          t.plc.devices = s.plc.devices.map (fun x => { x with noack := false, hold := false, badcheck := false }) ∧
          ∀ p ∈ s.plc.asked, p ∈ t.plc.asked ∨ t.plc.work = some (.identity p)))

/-- A fault occurrence (R171, with its record by R170). -/
def Obligations.FaultOccurrenceActsOnItsJob : Prop :=
  ∀ (c : FaultCode) (d : Detail) (s : State),
    (TablesWhole s →
      (occur c d s).faultRec c =
        { state := .active, count := min 255 ((s.faultRec c).count + 1),
          first := if (s.faultRec c).count = 0 then some s.time else (s.faultRec c).first,
          last := some s.time, detail := d }) ∧
    (∀ e, e ≠ c → (occur c d s).faultRec e = s.faultRec e) ∧
    (occur c d s).evr.fault = true ∧
    (∀ j, j ≠ c.job → (occur c d s).job j = s.job j) ∧
    ((s.job c.job).state = .run →
      (c.halting = true →
        (occur c d s).job c.job =
          { state := .quiescing,
            dest := some (if (s.job c.job).recovery = .halt then .halted else .off),
            cause := some (.fault c), waiting := jobMembers c.job, recovery := (s.job c.job).recovery,
            since := s.time }) ∧
      (c.halting = false → (occur c d s).job c.job = s.job c.job)) ∧
    ((s.job c.job).state = .quiescing →
      (c.severe = true → (occur c d s).job c.job = { s.job c.job with dest := some .off }) ∧
      (c.severe = false → (occur c d s).job c.job = s.job c.job)) ∧
    ((s.job c.job).state = .halted →
      (c.severe = true →
        (occur c d s).job c.job =
          { s.job c.job with state := .off, cause := some (.fault c), since := s.time }) ∧
      (c.severe = false → (occur c d s).job c.job = s.job c.job)) ∧
    ((s.job c.job).state = .off → (occur c d s).job c.job = s.job c.job) ∧
    (c.halting = true ↔ c = .chargerSilent ∨ c = .linkStuck ∨ c = .hingeSensor ∨ c = .matrixShort) ∧
    (c.severe = true ↔ c = .thermalTrip ∨ c = .linkStuck)

/-- The requests of the Event Router (R185, R186). -/
def Obligations.EventRequestsFetchAndRoute : Prop :=
  ∀ (h : ReqHead) (s : State), s.takes →
    (∀ max : Byte, (max.toNat < 1 ∨ 6 < max.toNat) → Replies (.fetchEvents h max) s .badValue [] s) ∧
    (∀ max : Byte, 1 ≤ max.toNat → max.toNat ≤ 6 →
      (s.list h.chan = [] → Replies (.fetchEvents h max) s .empty [] s) ∧
      (s.list h.chan ≠ [] →
        let l := s.list h.chan
        let after := (l.take max.toNat).filter (fun p => p.src.level) ++ l.drop max.toNat
        ∃ t, Replies (.fetchEvents h max) s .ok
            (u8 (l.take max.toNat).length ++ u8 after.length ++ u8 (if max.toNat < l.length then 1 else 0)
              ++ ((l.take max.toNat).map pendingBytes).flatten) t ∧
          t = s.setList h.chan after)) ∧
    (∀ source route : Byte, (28 < source.toNat ∨ 3 < route.toNat) →
      Replies (.setRoute h source route) s .badValue [] s) ∧
    (∀ (source route : Byte) (e : EvSource) (r : Route), source.toNat = e.num → route.toNat = r.num →
      (e.exclusive = true → r = .both → Replies (.setRoute h source route) s .exclusive [] s) ∧
      (¬(e.exclusive = true ∧ r = .both) →
        ∃ t, Replies (.setRoute h source route) s .ok (u8 e.num ++ u8 r.num) t ∧
          (TablesWhole s → t.route e = r) ∧ (∀ f, f ≠ e → t.route f = s.route f) ∧ t.fsu = s.fsu ∧
          t.kbs = s.kbs ∧ t.swc = s.swc ∧
          ∀ c : Channel,
            ((s.route e).names c = true → r.names c = false →
              t.list c = (s.list c).filter (fun p => decide (p.src ≠ e))) ∧
            ((s.route e).names c = false → r.names c = true → TablesWhole s →
              e.level = true → s.condition e = true → (∀ p ∈ s.list c, p.src ≠ e) →
              t.list c = s.list c ++ [{ src := e, count := 0, detail := [] }]) ∧
            (((s.route e).names c = r.names c ∨
                ((s.route e).names c = false ∧ (e.level = false ∨ s.condition e = false))) →
              t.list c = s.list c)))

/-- An occurrence of an EDGE source (R183), and what it leaves. -/
def Obligations.EdgeOccurrencesAreCounted : Prop :=
  ∀ (e : EvSource) (d : Detail) (s : State) (c : Channel),
    ((s.route e).names c = false → (raise e d s).list c = s.list c) ∧
    ((s.route e).names c = true → (∀ p ∈ s.list c, p.src ≠ e) →
      (raise e d s).list c = s.list c ++ [{ src := e, count := 1, detail := d }]) ∧
    ((s.route e).names c = true → (∃ p ∈ s.list c, p.src = e) →
      (raise e d s).list c =
        (s.list c).map fun p => if p.src = e then { p with count := min 255 (p.count + 1), detail := d } else p) ∧
    (raise e d s).evr =
      { s.evr with listS := (raise e d s).list .S, listP := (raise e d s).list .P } ∧
    raise e d s = (s.setEvr (raise e d s).evr).setHlk (raise e d s).hlk ∧
    (raise e d s).hlk =
      { s.hlk with
        noticeS := (raise e d s).hlk.noticeS, noticeP := (raise e d s).hlk.noticeP,
        qfull := (raise e d s).hlk.qfull, wire := (raise e d s).hlk.wire } ∧
    (s.hlk.wire.isSome = true →
      (raise e d s).hlk =
        { s.hlk with
          noticeS :=
            if s.swc.platform = .on ∧ (s.route e).names .S = true ∧ s.list .S = [] then some 1 else s.hlk.noticeS,
          noticeP :=
            if s.swc.platform = .on ∧ (s.route e).names .P = true ∧ s.list .P = [] then some 1
            else s.hlk.noticeP }) ∧
    (s.swc.platform ≠ .on → (raise e d s).hlk = s.hlk)

/-- The laws of the pending lists, and the capacities and table sizes, at every step (R124, R163, R182, R184, R191,
R193). -/
def Obligations.ListAndTableLawsKept : Prop :=
  KeptByStep (fun s => TablesWhole s ∧ ListsNameOnce s ∧ LevelEntriesFollowConditions s) ∧
    KeptByStep (fun s => TablesWhole s ∧ ConditionsFollowOwners s) ∧ KeptByStep ListsNameOnce ∧
    KeptByStep ExclusiveRoutesSingle ∧ KeptByStep KeyQueueBounded ∧ KeptByStep MarkersStandApart ∧
    KeptByStep RequestQueueBounded ∧ KeptByStep PressCountBounded ∧ KeptByStep ResetAwaitsReply ∧
    KeptByStep TablesWhole

/-- The laws of fans, rails and the scan mode at every step (R119, R127, R138, R140, R154). -/
def Obligations.FanAndPlatformLawsKept : Prop :=
  KeptByStep HoldStackBounded ∧ KeptByStep GoverningFollowsInputs ∧ KeptByStep FanDutyLaw ∧
    KeptByStep MainRailNeedsSource ∧ KeptByStep SuppressionFollowsItsCauses ∧
    KeptByStep (fun s => SuppressionFollowsItsCauses s ∧ SuppressedKeysUp s)

/-- The frame of every command: the blocks it leaves whole, and time, settings and requests (95, 12 section 12.3). -/
def Obligations.CommandsLeaveOtherBlocks : Prop :=
  ∀ (c : Instr) (s t : State), exec c s = .next t →
    (match c with
      | .powerOn .. => t.pending = s.pending
      | _ => t.time = s.time ∧ t.pending = s.pending) ∧
    (∀ b, b ∉ reachesOf c → SameBlock b s t) ∧
    (match c with
      | .powerOn .. | .hostFrameReceived .. | .frameSent | .setSourcePreference .. | .setAdapterLimit ..
      | .setCharge .. | .setDischargeLimit .. | .setLinkDevice .. | .setPostureThresholds .. | .setKeyboard ..
      | .setFanCurvePoint .. | .setWake .. | .setRecovery .. | .setRoute .. => True
      | _ => t.gather = s.gather) ∧
    (c.request = none →
      match c with
      | .powerOn .. | .hostFrameReceived .. | .frameGapTimeout | .frameSent => True
      | _ =>
        t.hlk.queue = s.hlk.queue ∧ t.hlk.rx = s.hlk.rx ∧ t.hlk.series = s.hlk.series ∧ t.hlk.held = s.hlk.held ∧
          t.hlk.resetPending = s.hlk.resetPending)
end

