-- ==== Sys2Proof/Laws/State.lean ====
section
/-! SUPPORT. What each update of State leaves of each field: one law per field per update, and the laws
of the records that come in pairs or fives. -/

namespace Sys2Proof.Machine

@[simp] theorem State.setTime_time (s : State) (v : Time) : (s.setTime v).time = v := (rfl)
@[simp] theorem State.setTime_pth (s : State) (v : Time) : (s.setTime v).pth = s.pth := (rfl)
@[simp] theorem State.setTime_chc (s : State) (v : Time) : (s.setTime v).chc = s.chc := (rfl)
@[simp] theorem State.setTime_bga (s : State) (v : Time) : (s.setTime v).bga = s.bga := (rfl)
@[simp] theorem State.setTime_plc (s : State) (v : Time) : (s.setTime v).plc = s.plc := (rfl)
@[simp] theorem State.setTime_hsi (s : State) (v : Time) : (s.setTime v).hsi = s.hsi := (rfl)
@[simp] theorem State.setTime_psm (s : State) (v : Time) : (s.setTime v).psm = s.psm := (rfl)
@[simp] theorem State.setTime_kbs (s : State) (v : Time) : (s.setTime v).kbs = s.kbs := (rfl)
@[simp] theorem State.setTime_thc (s : State) (v : Time) : (s.setTime v).thc = s.thc := (rfl)
@[simp] theorem State.setTime_swc (s : State) (v : Time) : (s.setTime v).swc = s.swc := (rfl)
@[simp] theorem State.setTime_fsu (s : State) (v : Time) : (s.setTime v).fsu = s.fsu := (rfl)
@[simp] theorem State.setTime_evr (s : State) (v : Time) : (s.setTime v).evr = s.evr := (rfl)
@[simp] theorem State.setTime_hlk (s : State) (v : Time) : (s.setTime v).hlk = s.hlk := (rfl)
@[simp] theorem State.setTime_sts (s : State) (v : Time) : (s.setTime v).sts = s.sts := (rfl)
@[simp] theorem State.setTime_pending (s : State) (v : Time) : (s.setTime v).pending = s.pending := (rfl)

@[simp] theorem State.setPth_time (s : State) (v : Pth) : (s.setPth v).time = s.time := (rfl)
@[simp] theorem State.setPth_pth (s : State) (v : Pth) : (s.setPth v).pth = v := (rfl)
@[simp] theorem State.setPth_chc (s : State) (v : Pth) : (s.setPth v).chc = s.chc := (rfl)
@[simp] theorem State.setPth_bga (s : State) (v : Pth) : (s.setPth v).bga = s.bga := (rfl)
@[simp] theorem State.setPth_plc (s : State) (v : Pth) : (s.setPth v).plc = s.plc := (rfl)
@[simp] theorem State.setPth_hsi (s : State) (v : Pth) : (s.setPth v).hsi = s.hsi := (rfl)
@[simp] theorem State.setPth_psm (s : State) (v : Pth) : (s.setPth v).psm = s.psm := (rfl)
@[simp] theorem State.setPth_kbs (s : State) (v : Pth) : (s.setPth v).kbs = s.kbs := (rfl)
@[simp] theorem State.setPth_thc (s : State) (v : Pth) : (s.setPth v).thc = s.thc := (rfl)
@[simp] theorem State.setPth_swc (s : State) (v : Pth) : (s.setPth v).swc = s.swc := (rfl)
@[simp] theorem State.setPth_fsu (s : State) (v : Pth) : (s.setPth v).fsu = s.fsu := (rfl)
@[simp] theorem State.setPth_evr (s : State) (v : Pth) : (s.setPth v).evr = s.evr := (rfl)
@[simp] theorem State.setPth_hlk (s : State) (v : Pth) : (s.setPth v).hlk = s.hlk := (rfl)
@[simp] theorem State.setPth_sts (s : State) (v : Pth) : (s.setPth v).sts = s.sts := (rfl)
@[simp] theorem State.setPth_pending (s : State) (v : Pth) : (s.setPth v).pending = s.pending := (rfl)

@[simp] theorem State.setChc_time (s : State) (v : Chc) : (s.setChc v).time = s.time := (rfl)
@[simp] theorem State.setChc_pth (s : State) (v : Chc) : (s.setChc v).pth = s.pth := (rfl)
@[simp] theorem State.setChc_chc (s : State) (v : Chc) : (s.setChc v).chc = v := (rfl)
@[simp] theorem State.setChc_bga (s : State) (v : Chc) : (s.setChc v).bga = s.bga := (rfl)
@[simp] theorem State.setChc_plc (s : State) (v : Chc) : (s.setChc v).plc = s.plc := (rfl)
@[simp] theorem State.setChc_hsi (s : State) (v : Chc) : (s.setChc v).hsi = s.hsi := (rfl)
@[simp] theorem State.setChc_psm (s : State) (v : Chc) : (s.setChc v).psm = s.psm := (rfl)
@[simp] theorem State.setChc_kbs (s : State) (v : Chc) : (s.setChc v).kbs = s.kbs := (rfl)
@[simp] theorem State.setChc_thc (s : State) (v : Chc) : (s.setChc v).thc = s.thc := (rfl)
@[simp] theorem State.setChc_swc (s : State) (v : Chc) : (s.setChc v).swc = s.swc := (rfl)
@[simp] theorem State.setChc_fsu (s : State) (v : Chc) : (s.setChc v).fsu = s.fsu := (rfl)
@[simp] theorem State.setChc_evr (s : State) (v : Chc) : (s.setChc v).evr = s.evr := (rfl)
@[simp] theorem State.setChc_hlk (s : State) (v : Chc) : (s.setChc v).hlk = s.hlk := (rfl)
@[simp] theorem State.setChc_sts (s : State) (v : Chc) : (s.setChc v).sts = s.sts := (rfl)
@[simp] theorem State.setChc_pending (s : State) (v : Chc) : (s.setChc v).pending = s.pending := (rfl)

@[simp] theorem State.setBga_time (s : State) (v : Bga) : (s.setBga v).time = s.time := (rfl)
@[simp] theorem State.setBga_pth (s : State) (v : Bga) : (s.setBga v).pth = s.pth := (rfl)
@[simp] theorem State.setBga_chc (s : State) (v : Bga) : (s.setBga v).chc = s.chc := (rfl)
@[simp] theorem State.setBga_bga (s : State) (v : Bga) : (s.setBga v).bga = v := (rfl)
@[simp] theorem State.setBga_plc (s : State) (v : Bga) : (s.setBga v).plc = s.plc := (rfl)
@[simp] theorem State.setBga_hsi (s : State) (v : Bga) : (s.setBga v).hsi = s.hsi := (rfl)
@[simp] theorem State.setBga_psm (s : State) (v : Bga) : (s.setBga v).psm = s.psm := (rfl)
@[simp] theorem State.setBga_kbs (s : State) (v : Bga) : (s.setBga v).kbs = s.kbs := (rfl)
@[simp] theorem State.setBga_thc (s : State) (v : Bga) : (s.setBga v).thc = s.thc := (rfl)
@[simp] theorem State.setBga_swc (s : State) (v : Bga) : (s.setBga v).swc = s.swc := (rfl)
@[simp] theorem State.setBga_fsu (s : State) (v : Bga) : (s.setBga v).fsu = s.fsu := (rfl)
@[simp] theorem State.setBga_evr (s : State) (v : Bga) : (s.setBga v).evr = s.evr := (rfl)
@[simp] theorem State.setBga_hlk (s : State) (v : Bga) : (s.setBga v).hlk = s.hlk := (rfl)
@[simp] theorem State.setBga_sts (s : State) (v : Bga) : (s.setBga v).sts = s.sts := (rfl)
@[simp] theorem State.setBga_pending (s : State) (v : Bga) : (s.setBga v).pending = s.pending := (rfl)

@[simp] theorem State.setPlc_time (s : State) (v : Plc) : (s.setPlc v).time = s.time := (rfl)
@[simp] theorem State.setPlc_pth (s : State) (v : Plc) : (s.setPlc v).pth = s.pth := (rfl)
@[simp] theorem State.setPlc_chc (s : State) (v : Plc) : (s.setPlc v).chc = s.chc := (rfl)
@[simp] theorem State.setPlc_bga (s : State) (v : Plc) : (s.setPlc v).bga = s.bga := (rfl)
@[simp] theorem State.setPlc_plc (s : State) (v : Plc) : (s.setPlc v).plc = v := (rfl)
@[simp] theorem State.setPlc_hsi (s : State) (v : Plc) : (s.setPlc v).hsi = s.hsi := (rfl)
@[simp] theorem State.setPlc_psm (s : State) (v : Plc) : (s.setPlc v).psm = s.psm := (rfl)
@[simp] theorem State.setPlc_kbs (s : State) (v : Plc) : (s.setPlc v).kbs = s.kbs := (rfl)
@[simp] theorem State.setPlc_thc (s : State) (v : Plc) : (s.setPlc v).thc = s.thc := (rfl)
@[simp] theorem State.setPlc_swc (s : State) (v : Plc) : (s.setPlc v).swc = s.swc := (rfl)
@[simp] theorem State.setPlc_fsu (s : State) (v : Plc) : (s.setPlc v).fsu = s.fsu := (rfl)
@[simp] theorem State.setPlc_evr (s : State) (v : Plc) : (s.setPlc v).evr = s.evr := (rfl)
@[simp] theorem State.setPlc_hlk (s : State) (v : Plc) : (s.setPlc v).hlk = s.hlk := (rfl)
@[simp] theorem State.setPlc_sts (s : State) (v : Plc) : (s.setPlc v).sts = s.sts := (rfl)
@[simp] theorem State.setPlc_pending (s : State) (v : Plc) : (s.setPlc v).pending = s.pending := (rfl)

@[simp] theorem State.setHsi_time (s : State) (v : Hsi) : (s.setHsi v).time = s.time := (rfl)
@[simp] theorem State.setHsi_pth (s : State) (v : Hsi) : (s.setHsi v).pth = s.pth := (rfl)
@[simp] theorem State.setHsi_chc (s : State) (v : Hsi) : (s.setHsi v).chc = s.chc := (rfl)
@[simp] theorem State.setHsi_bga (s : State) (v : Hsi) : (s.setHsi v).bga = s.bga := (rfl)
@[simp] theorem State.setHsi_plc (s : State) (v : Hsi) : (s.setHsi v).plc = s.plc := (rfl)
@[simp] theorem State.setHsi_hsi (s : State) (v : Hsi) : (s.setHsi v).hsi = v := (rfl)
@[simp] theorem State.setHsi_psm (s : State) (v : Hsi) : (s.setHsi v).psm = s.psm := (rfl)
@[simp] theorem State.setHsi_kbs (s : State) (v : Hsi) : (s.setHsi v).kbs = s.kbs := (rfl)
@[simp] theorem State.setHsi_thc (s : State) (v : Hsi) : (s.setHsi v).thc = s.thc := (rfl)
@[simp] theorem State.setHsi_swc (s : State) (v : Hsi) : (s.setHsi v).swc = s.swc := (rfl)
@[simp] theorem State.setHsi_fsu (s : State) (v : Hsi) : (s.setHsi v).fsu = s.fsu := (rfl)
@[simp] theorem State.setHsi_evr (s : State) (v : Hsi) : (s.setHsi v).evr = s.evr := (rfl)
@[simp] theorem State.setHsi_hlk (s : State) (v : Hsi) : (s.setHsi v).hlk = s.hlk := (rfl)
@[simp] theorem State.setHsi_sts (s : State) (v : Hsi) : (s.setHsi v).sts = s.sts := (rfl)
@[simp] theorem State.setHsi_pending (s : State) (v : Hsi) : (s.setHsi v).pending = s.pending := (rfl)

@[simp] theorem State.setPsm_time (s : State) (v : Psm) : (s.setPsm v).time = s.time := (rfl)
@[simp] theorem State.setPsm_pth (s : State) (v : Psm) : (s.setPsm v).pth = s.pth := (rfl)
@[simp] theorem State.setPsm_chc (s : State) (v : Psm) : (s.setPsm v).chc = s.chc := (rfl)
@[simp] theorem State.setPsm_bga (s : State) (v : Psm) : (s.setPsm v).bga = s.bga := (rfl)
@[simp] theorem State.setPsm_plc (s : State) (v : Psm) : (s.setPsm v).plc = s.plc := (rfl)
@[simp] theorem State.setPsm_hsi (s : State) (v : Psm) : (s.setPsm v).hsi = s.hsi := (rfl)
@[simp] theorem State.setPsm_psm (s : State) (v : Psm) : (s.setPsm v).psm = v := (rfl)
@[simp] theorem State.setPsm_kbs (s : State) (v : Psm) : (s.setPsm v).kbs = s.kbs := (rfl)
@[simp] theorem State.setPsm_thc (s : State) (v : Psm) : (s.setPsm v).thc = s.thc := (rfl)
@[simp] theorem State.setPsm_swc (s : State) (v : Psm) : (s.setPsm v).swc = s.swc := (rfl)
@[simp] theorem State.setPsm_fsu (s : State) (v : Psm) : (s.setPsm v).fsu = s.fsu := (rfl)
@[simp] theorem State.setPsm_evr (s : State) (v : Psm) : (s.setPsm v).evr = s.evr := (rfl)
@[simp] theorem State.setPsm_hlk (s : State) (v : Psm) : (s.setPsm v).hlk = s.hlk := (rfl)
@[simp] theorem State.setPsm_sts (s : State) (v : Psm) : (s.setPsm v).sts = s.sts := (rfl)
@[simp] theorem State.setPsm_pending (s : State) (v : Psm) : (s.setPsm v).pending = s.pending := (rfl)

@[simp] theorem State.setKbs_time (s : State) (v : Kbs) : (s.setKbs v).time = s.time := (rfl)
@[simp] theorem State.setKbs_pth (s : State) (v : Kbs) : (s.setKbs v).pth = s.pth := (rfl)
@[simp] theorem State.setKbs_chc (s : State) (v : Kbs) : (s.setKbs v).chc = s.chc := (rfl)
@[simp] theorem State.setKbs_bga (s : State) (v : Kbs) : (s.setKbs v).bga = s.bga := (rfl)
@[simp] theorem State.setKbs_plc (s : State) (v : Kbs) : (s.setKbs v).plc = s.plc := (rfl)
@[simp] theorem State.setKbs_hsi (s : State) (v : Kbs) : (s.setKbs v).hsi = s.hsi := (rfl)
@[simp] theorem State.setKbs_psm (s : State) (v : Kbs) : (s.setKbs v).psm = s.psm := (rfl)
@[simp] theorem State.setKbs_kbs (s : State) (v : Kbs) : (s.setKbs v).kbs = v := (rfl)
@[simp] theorem State.setKbs_thc (s : State) (v : Kbs) : (s.setKbs v).thc = s.thc := (rfl)
@[simp] theorem State.setKbs_swc (s : State) (v : Kbs) : (s.setKbs v).swc = s.swc := (rfl)
@[simp] theorem State.setKbs_fsu (s : State) (v : Kbs) : (s.setKbs v).fsu = s.fsu := (rfl)
@[simp] theorem State.setKbs_evr (s : State) (v : Kbs) : (s.setKbs v).evr = s.evr := (rfl)
@[simp] theorem State.setKbs_hlk (s : State) (v : Kbs) : (s.setKbs v).hlk = s.hlk := (rfl)
@[simp] theorem State.setKbs_sts (s : State) (v : Kbs) : (s.setKbs v).sts = s.sts := (rfl)
@[simp] theorem State.setKbs_pending (s : State) (v : Kbs) : (s.setKbs v).pending = s.pending := (rfl)

@[simp] theorem State.setThc_time (s : State) (v : Thc) : (s.setThc v).time = s.time := (rfl)
@[simp] theorem State.setThc_pth (s : State) (v : Thc) : (s.setThc v).pth = s.pth := (rfl)
@[simp] theorem State.setThc_chc (s : State) (v : Thc) : (s.setThc v).chc = s.chc := (rfl)
@[simp] theorem State.setThc_bga (s : State) (v : Thc) : (s.setThc v).bga = s.bga := (rfl)
@[simp] theorem State.setThc_plc (s : State) (v : Thc) : (s.setThc v).plc = s.plc := (rfl)
@[simp] theorem State.setThc_hsi (s : State) (v : Thc) : (s.setThc v).hsi = s.hsi := (rfl)
@[simp] theorem State.setThc_psm (s : State) (v : Thc) : (s.setThc v).psm = s.psm := (rfl)
@[simp] theorem State.setThc_kbs (s : State) (v : Thc) : (s.setThc v).kbs = s.kbs := (rfl)
@[simp] theorem State.setThc_thc (s : State) (v : Thc) : (s.setThc v).thc = v := (rfl)
@[simp] theorem State.setThc_swc (s : State) (v : Thc) : (s.setThc v).swc = s.swc := (rfl)
@[simp] theorem State.setThc_fsu (s : State) (v : Thc) : (s.setThc v).fsu = s.fsu := (rfl)
@[simp] theorem State.setThc_evr (s : State) (v : Thc) : (s.setThc v).evr = s.evr := (rfl)
@[simp] theorem State.setThc_hlk (s : State) (v : Thc) : (s.setThc v).hlk = s.hlk := (rfl)
@[simp] theorem State.setThc_sts (s : State) (v : Thc) : (s.setThc v).sts = s.sts := (rfl)
@[simp] theorem State.setThc_pending (s : State) (v : Thc) : (s.setThc v).pending = s.pending := (rfl)

@[simp] theorem State.setSwc_time (s : State) (v : Swc) : (s.setSwc v).time = s.time := (rfl)
@[simp] theorem State.setSwc_pth (s : State) (v : Swc) : (s.setSwc v).pth = s.pth := (rfl)
@[simp] theorem State.setSwc_chc (s : State) (v : Swc) : (s.setSwc v).chc = s.chc := (rfl)
@[simp] theorem State.setSwc_bga (s : State) (v : Swc) : (s.setSwc v).bga = s.bga := (rfl)
@[simp] theorem State.setSwc_plc (s : State) (v : Swc) : (s.setSwc v).plc = s.plc := (rfl)
@[simp] theorem State.setSwc_hsi (s : State) (v : Swc) : (s.setSwc v).hsi = s.hsi := (rfl)
@[simp] theorem State.setSwc_psm (s : State) (v : Swc) : (s.setSwc v).psm = s.psm := (rfl)
@[simp] theorem State.setSwc_kbs (s : State) (v : Swc) : (s.setSwc v).kbs = s.kbs := (rfl)
@[simp] theorem State.setSwc_thc (s : State) (v : Swc) : (s.setSwc v).thc = s.thc := (rfl)
@[simp] theorem State.setSwc_swc (s : State) (v : Swc) : (s.setSwc v).swc = v := (rfl)
@[simp] theorem State.setSwc_fsu (s : State) (v : Swc) : (s.setSwc v).fsu = s.fsu := (rfl)
@[simp] theorem State.setSwc_evr (s : State) (v : Swc) : (s.setSwc v).evr = s.evr := (rfl)
@[simp] theorem State.setSwc_hlk (s : State) (v : Swc) : (s.setSwc v).hlk = s.hlk := (rfl)
@[simp] theorem State.setSwc_sts (s : State) (v : Swc) : (s.setSwc v).sts = s.sts := (rfl)
@[simp] theorem State.setSwc_pending (s : State) (v : Swc) : (s.setSwc v).pending = s.pending := (rfl)

@[simp] theorem State.setFsu_time (s : State) (v : Fsu) : (s.setFsu v).time = s.time := (rfl)
@[simp] theorem State.setFsu_pth (s : State) (v : Fsu) : (s.setFsu v).pth = s.pth := (rfl)
@[simp] theorem State.setFsu_chc (s : State) (v : Fsu) : (s.setFsu v).chc = s.chc := (rfl)
@[simp] theorem State.setFsu_bga (s : State) (v : Fsu) : (s.setFsu v).bga = s.bga := (rfl)
@[simp] theorem State.setFsu_plc (s : State) (v : Fsu) : (s.setFsu v).plc = s.plc := (rfl)
@[simp] theorem State.setFsu_hsi (s : State) (v : Fsu) : (s.setFsu v).hsi = s.hsi := (rfl)
@[simp] theorem State.setFsu_psm (s : State) (v : Fsu) : (s.setFsu v).psm = s.psm := (rfl)
@[simp] theorem State.setFsu_kbs (s : State) (v : Fsu) : (s.setFsu v).kbs = s.kbs := (rfl)
@[simp] theorem State.setFsu_thc (s : State) (v : Fsu) : (s.setFsu v).thc = s.thc := (rfl)
@[simp] theorem State.setFsu_swc (s : State) (v : Fsu) : (s.setFsu v).swc = s.swc := (rfl)
@[simp] theorem State.setFsu_fsu (s : State) (v : Fsu) : (s.setFsu v).fsu = v := (rfl)
@[simp] theorem State.setFsu_evr (s : State) (v : Fsu) : (s.setFsu v).evr = s.evr := (rfl)
@[simp] theorem State.setFsu_hlk (s : State) (v : Fsu) : (s.setFsu v).hlk = s.hlk := (rfl)
@[simp] theorem State.setFsu_sts (s : State) (v : Fsu) : (s.setFsu v).sts = s.sts := (rfl)
@[simp] theorem State.setFsu_pending (s : State) (v : Fsu) : (s.setFsu v).pending = s.pending := (rfl)

@[simp] theorem State.setEvr_time (s : State) (v : Evr) : (s.setEvr v).time = s.time := (rfl)
@[simp] theorem State.setEvr_pth (s : State) (v : Evr) : (s.setEvr v).pth = s.pth := (rfl)
@[simp] theorem State.setEvr_chc (s : State) (v : Evr) : (s.setEvr v).chc = s.chc := (rfl)
@[simp] theorem State.setEvr_bga (s : State) (v : Evr) : (s.setEvr v).bga = s.bga := (rfl)
@[simp] theorem State.setEvr_plc (s : State) (v : Evr) : (s.setEvr v).plc = s.plc := (rfl)
@[simp] theorem State.setEvr_hsi (s : State) (v : Evr) : (s.setEvr v).hsi = s.hsi := (rfl)
@[simp] theorem State.setEvr_psm (s : State) (v : Evr) : (s.setEvr v).psm = s.psm := (rfl)
@[simp] theorem State.setEvr_kbs (s : State) (v : Evr) : (s.setEvr v).kbs = s.kbs := (rfl)
@[simp] theorem State.setEvr_thc (s : State) (v : Evr) : (s.setEvr v).thc = s.thc := (rfl)
@[simp] theorem State.setEvr_swc (s : State) (v : Evr) : (s.setEvr v).swc = s.swc := (rfl)
@[simp] theorem State.setEvr_fsu (s : State) (v : Evr) : (s.setEvr v).fsu = s.fsu := (rfl)
@[simp] theorem State.setEvr_evr (s : State) (v : Evr) : (s.setEvr v).evr = v := (rfl)
@[simp] theorem State.setEvr_hlk (s : State) (v : Evr) : (s.setEvr v).hlk = s.hlk := (rfl)
@[simp] theorem State.setEvr_sts (s : State) (v : Evr) : (s.setEvr v).sts = s.sts := (rfl)
@[simp] theorem State.setEvr_pending (s : State) (v : Evr) : (s.setEvr v).pending = s.pending := (rfl)

@[simp] theorem State.setHlk_time (s : State) (v : Hlk) : (s.setHlk v).time = s.time := (rfl)
@[simp] theorem State.setHlk_pth (s : State) (v : Hlk) : (s.setHlk v).pth = s.pth := (rfl)
@[simp] theorem State.setHlk_chc (s : State) (v : Hlk) : (s.setHlk v).chc = s.chc := (rfl)
@[simp] theorem State.setHlk_bga (s : State) (v : Hlk) : (s.setHlk v).bga = s.bga := (rfl)
@[simp] theorem State.setHlk_plc (s : State) (v : Hlk) : (s.setHlk v).plc = s.plc := (rfl)
@[simp] theorem State.setHlk_hsi (s : State) (v : Hlk) : (s.setHlk v).hsi = s.hsi := (rfl)
@[simp] theorem State.setHlk_psm (s : State) (v : Hlk) : (s.setHlk v).psm = s.psm := (rfl)
@[simp] theorem State.setHlk_kbs (s : State) (v : Hlk) : (s.setHlk v).kbs = s.kbs := (rfl)
@[simp] theorem State.setHlk_thc (s : State) (v : Hlk) : (s.setHlk v).thc = s.thc := (rfl)
@[simp] theorem State.setHlk_swc (s : State) (v : Hlk) : (s.setHlk v).swc = s.swc := (rfl)
@[simp] theorem State.setHlk_fsu (s : State) (v : Hlk) : (s.setHlk v).fsu = s.fsu := (rfl)
@[simp] theorem State.setHlk_evr (s : State) (v : Hlk) : (s.setHlk v).evr = s.evr := (rfl)
@[simp] theorem State.setHlk_hlk (s : State) (v : Hlk) : (s.setHlk v).hlk = v := (rfl)
@[simp] theorem State.setHlk_sts (s : State) (v : Hlk) : (s.setHlk v).sts = s.sts := (rfl)
@[simp] theorem State.setHlk_pending (s : State) (v : Hlk) : (s.setHlk v).pending = s.pending := (rfl)

@[simp] theorem State.setSts_time (s : State) (v : Sts) : (s.setSts v).time = s.time := (rfl)
@[simp] theorem State.setSts_pth (s : State) (v : Sts) : (s.setSts v).pth = s.pth := (rfl)
@[simp] theorem State.setSts_chc (s : State) (v : Sts) : (s.setSts v).chc = s.chc := (rfl)
@[simp] theorem State.setSts_bga (s : State) (v : Sts) : (s.setSts v).bga = s.bga := (rfl)
@[simp] theorem State.setSts_plc (s : State) (v : Sts) : (s.setSts v).plc = s.plc := (rfl)
@[simp] theorem State.setSts_hsi (s : State) (v : Sts) : (s.setSts v).hsi = s.hsi := (rfl)
@[simp] theorem State.setSts_psm (s : State) (v : Sts) : (s.setSts v).psm = s.psm := (rfl)
@[simp] theorem State.setSts_kbs (s : State) (v : Sts) : (s.setSts v).kbs = s.kbs := (rfl)
@[simp] theorem State.setSts_thc (s : State) (v : Sts) : (s.setSts v).thc = s.thc := (rfl)
@[simp] theorem State.setSts_swc (s : State) (v : Sts) : (s.setSts v).swc = s.swc := (rfl)
@[simp] theorem State.setSts_fsu (s : State) (v : Sts) : (s.setSts v).fsu = s.fsu := (rfl)
@[simp] theorem State.setSts_evr (s : State) (v : Sts) : (s.setSts v).evr = s.evr := (rfl)
@[simp] theorem State.setSts_hlk (s : State) (v : Sts) : (s.setSts v).hlk = s.hlk := (rfl)
@[simp] theorem State.setSts_sts (s : State) (v : Sts) : (s.setSts v).sts = v := (rfl)
@[simp] theorem State.setSts_pending (s : State) (v : Sts) : (s.setSts v).pending = s.pending := (rfl)

@[simp] theorem State.setPending_time (s : State) (v : List Instr) : (s.setPending v).time = s.time := (rfl)
@[simp] theorem State.setPending_pth (s : State) (v : List Instr) : (s.setPending v).pth = s.pth := (rfl)
@[simp] theorem State.setPending_chc (s : State) (v : List Instr) : (s.setPending v).chc = s.chc := (rfl)
@[simp] theorem State.setPending_bga (s : State) (v : List Instr) : (s.setPending v).bga = s.bga := (rfl)
@[simp] theorem State.setPending_plc (s : State) (v : List Instr) : (s.setPending v).plc = s.plc := (rfl)
@[simp] theorem State.setPending_hsi (s : State) (v : List Instr) : (s.setPending v).hsi = s.hsi := (rfl)
@[simp] theorem State.setPending_psm (s : State) (v : List Instr) : (s.setPending v).psm = s.psm := (rfl)
@[simp] theorem State.setPending_kbs (s : State) (v : List Instr) : (s.setPending v).kbs = s.kbs := (rfl)
@[simp] theorem State.setPending_thc (s : State) (v : List Instr) : (s.setPending v).thc = s.thc := (rfl)
@[simp] theorem State.setPending_swc (s : State) (v : List Instr) : (s.setPending v).swc = s.swc := (rfl)
@[simp] theorem State.setPending_fsu (s : State) (v : List Instr) : (s.setPending v).fsu = s.fsu := (rfl)
@[simp] theorem State.setPending_evr (s : State) (v : List Instr) : (s.setPending v).evr = s.evr := (rfl)
@[simp] theorem State.setPending_hlk (s : State) (v : List Instr) : (s.setPending v).hlk = s.hlk := (rfl)
@[simp] theorem State.setPending_sts (s : State) (v : List Instr) : (s.setPending v).sts = s.sts := (rfl)
@[simp] theorem State.setPending_pending (s : State) (v : List Instr) : (s.setPending v).pending = v := (rfl)

/-- `setPack` changes `pth` alone. -/
@[simp] theorem State.setPack_frame (s : State) (p : PackId) (r : Pack) :
    (s.setPack p r).time = s.time ∧
      (s.setPack p r).chc = s.chc ∧
      (s.setPack p r).bga = s.bga ∧
      (s.setPack p r).plc = s.plc ∧
      (s.setPack p r).hsi = s.hsi ∧
      (s.setPack p r).psm = s.psm ∧
      (s.setPack p r).kbs = s.kbs ∧
      (s.setPack p r).thc = s.thc ∧
      (s.setPack p r).swc = s.swc ∧
      (s.setPack p r).fsu = s.fsu ∧
      (s.setPack p r).evr = s.evr ∧
      (s.setPack p r).hlk = s.hlk ∧
      (s.setPack p r).sts = s.sts ∧
      (s.setPack p r).pending = s.pending := by
  cases p <;> simp [State.setPack]

@[simp] theorem State.pack_setPack (s : State) (p : PackId) (r : Pack) : (s.setPack p r).pack p = r := by
  cases p <;> rfl

theorem State.pack_setPack_other (s : State) {p q : PackId} (r : Pack) (h : q ≠ p) :
    (s.setPack p r).pack q = s.pack q := by
  cases p <;> cases q <;> first | rfl | exact absurd rfl h

/-- `setCharge` changes `chc` alone. -/
@[simp] theorem State.setCharge_frame (s : State) (p : PackId) (r : Charge) :
    (s.setCharge p r).time = s.time ∧
      (s.setCharge p r).pth = s.pth ∧
      (s.setCharge p r).bga = s.bga ∧
      (s.setCharge p r).plc = s.plc ∧
      (s.setCharge p r).hsi = s.hsi ∧
      (s.setCharge p r).psm = s.psm ∧
      (s.setCharge p r).kbs = s.kbs ∧
      (s.setCharge p r).thc = s.thc ∧
      (s.setCharge p r).swc = s.swc ∧
      (s.setCharge p r).fsu = s.fsu ∧
      (s.setCharge p r).evr = s.evr ∧
      (s.setCharge p r).hlk = s.hlk ∧
      (s.setCharge p r).sts = s.sts ∧
      (s.setCharge p r).pending = s.pending := by
  cases p <;> simp [State.setCharge]

@[simp] theorem State.charge_setCharge (s : State) (p : PackId) (r : Charge) : (s.setCharge p r).charge p = r := by
  cases p <;> rfl

theorem State.charge_setCharge_other (s : State) {p q : PackId} (r : Charge) (h : q ≠ p) :
    (s.setCharge p r).charge q = s.charge q := by
  cases p <;> cases q <;> first | rfl | exact absurd rfl h

/-- `setPoll` changes `plc` alone. -/
@[simp] theorem State.setPoll_frame (s : State) (p : PackId) (r : Poll) :
    (s.setPoll p r).time = s.time ∧
      (s.setPoll p r).pth = s.pth ∧
      (s.setPoll p r).chc = s.chc ∧
      (s.setPoll p r).bga = s.bga ∧
      (s.setPoll p r).hsi = s.hsi ∧
      (s.setPoll p r).psm = s.psm ∧
      (s.setPoll p r).kbs = s.kbs ∧
      (s.setPoll p r).thc = s.thc ∧
      (s.setPoll p r).swc = s.swc ∧
      (s.setPoll p r).fsu = s.fsu ∧
      (s.setPoll p r).evr = s.evr ∧
      (s.setPoll p r).hlk = s.hlk ∧
      (s.setPoll p r).sts = s.sts ∧
      (s.setPoll p r).pending = s.pending := by
  cases p <;> simp [State.setPoll]

@[simp] theorem State.poll_setPoll (s : State) (p : PackId) (r : Poll) : (s.setPoll p r).poll p = r := by
  cases p <;> rfl

theorem State.poll_setPoll_other (s : State) {p q : PackId} (r : Poll) (h : q ≠ p) :
    (s.setPoll p r).poll q = s.poll q := by
  cases p <;> cases q <;> first | rfl | exact absurd rfl h

/-- `setSensorPoll` changes `plc` alone. -/
@[simp] theorem State.setSensorPoll_frame (s : State) (p : Sensor) (r : Poll) :
    (s.setSensorPoll p r).time = s.time ∧
      (s.setSensorPoll p r).pth = s.pth ∧
      (s.setSensorPoll p r).chc = s.chc ∧
      (s.setSensorPoll p r).bga = s.bga ∧
      (s.setSensorPoll p r).hsi = s.hsi ∧
      (s.setSensorPoll p r).psm = s.psm ∧
      (s.setSensorPoll p r).kbs = s.kbs ∧
      (s.setSensorPoll p r).thc = s.thc ∧
      (s.setSensorPoll p r).swc = s.swc ∧
      (s.setSensorPoll p r).fsu = s.fsu ∧
      (s.setSensorPoll p r).evr = s.evr ∧
      (s.setSensorPoll p r).hlk = s.hlk ∧
      (s.setSensorPoll p r).sts = s.sts ∧
      (s.setSensorPoll p r).pending = s.pending := by
  cases p <;> simp [State.setSensorPoll]

@[simp] theorem State.sensorPoll_setSensorPoll (s : State) (p : Sensor) (r : Poll) : (s.setSensorPoll p r).sensorPoll p = r := by
  cases p <;> rfl

theorem State.sensorPoll_setSensorPoll_other (s : State) {p q : Sensor} (r : Poll) (h : q ≠ p) :
    (s.setSensorPoll p r).sensorPoll q = s.sensorPoll q := by
  cases p <;> cases q <;> first | rfl | exact absurd rfl h

/-- `setSensorRun` changes `plc` alone. -/
@[simp] theorem State.setSensorRun_frame (s : State) (p : Sensor) (r : Nat) :
    (s.setSensorRun p r).time = s.time ∧
      (s.setSensorRun p r).pth = s.pth ∧
      (s.setSensorRun p r).chc = s.chc ∧
      (s.setSensorRun p r).bga = s.bga ∧
      (s.setSensorRun p r).hsi = s.hsi ∧
      (s.setSensorRun p r).psm = s.psm ∧
      (s.setSensorRun p r).kbs = s.kbs ∧
      (s.setSensorRun p r).thc = s.thc ∧
      (s.setSensorRun p r).swc = s.swc ∧
      (s.setSensorRun p r).fsu = s.fsu ∧
      (s.setSensorRun p r).evr = s.evr ∧
      (s.setSensorRun p r).hlk = s.hlk ∧
      (s.setSensorRun p r).sts = s.sts ∧
      (s.setSensorRun p r).pending = s.pending := by
  cases p <;> simp [State.setSensorRun]

@[simp] theorem State.sensorRun_setSensorRun (s : State) (p : Sensor) (r : Nat) : (s.setSensorRun p r).sensorRun p = r := by
  cases p <;> rfl

theorem State.sensorRun_setSensorRun_other (s : State) {p q : Sensor} (r : Nat) (h : q ≠ p) :
    (s.setSensorRun p r).sensorRun q = s.sensorRun q := by
  cases p <;> cases q <;> first | rfl | exact absurd rfl h

/-- `setJob` changes `fsu` alone. -/
@[simp] theorem State.setJob_frame (s : State) (p : Job) (r : JobRec) :
    (s.setJob p r).time = s.time ∧
      (s.setJob p r).pth = s.pth ∧
      (s.setJob p r).chc = s.chc ∧
      (s.setJob p r).bga = s.bga ∧
      (s.setJob p r).plc = s.plc ∧
      (s.setJob p r).hsi = s.hsi ∧
      (s.setJob p r).psm = s.psm ∧
      (s.setJob p r).kbs = s.kbs ∧
      (s.setJob p r).thc = s.thc ∧
      (s.setJob p r).swc = s.swc ∧
      (s.setJob p r).evr = s.evr ∧
      (s.setJob p r).hlk = s.hlk ∧
      (s.setJob p r).sts = s.sts ∧
      (s.setJob p r).pending = s.pending := by
  cases p <;> simp [State.setJob]

@[simp] theorem State.job_setJob (s : State) (p : Job) (r : JobRec) : (s.setJob p r).job p = r := by
  cases p <;> rfl

theorem State.job_setJob_other (s : State) {p q : Job} (r : JobRec) (h : q ≠ p) :
    (s.setJob p r).job q = s.job q := by
  cases p <;> cases q <;> first | rfl | exact absurd rfl h

/-- `setInput` changes `thc` alone. -/
@[simp] theorem State.setInput_frame (s : State) (p : ThermalInput) (r : Input) :
    (s.setInput p r).time = s.time ∧
      (s.setInput p r).pth = s.pth ∧
      (s.setInput p r).chc = s.chc ∧
      (s.setInput p r).bga = s.bga ∧
      (s.setInput p r).plc = s.plc ∧
      (s.setInput p r).hsi = s.hsi ∧
      (s.setInput p r).psm = s.psm ∧
      (s.setInput p r).kbs = s.kbs ∧
      (s.setInput p r).swc = s.swc ∧
      (s.setInput p r).fsu = s.fsu ∧
      (s.setInput p r).evr = s.evr ∧
      (s.setInput p r).hlk = s.hlk ∧
      (s.setInput p r).sts = s.sts ∧
      (s.setInput p r).pending = s.pending := by
  cases p <;> simp [State.setInput]

@[simp] theorem State.input_setInput (s : State) (p : ThermalInput) (r : Input) : (s.setInput p r).input p = r := by
  cases p <;> rfl

theorem State.input_setInput_other (s : State) {p q : ThermalInput} (r : Input) (h : q ≠ p) :
    (s.setInput p r).input q = s.input q := by
  cases p <;> cases q <;> first | rfl | exact absurd rfl h

/-- `setFan` changes `thc` alone. -/
@[simp] theorem State.setFan_frame (s : State) (p : Fan) (r : FanRec) :
    (s.setFan p r).time = s.time ∧
      (s.setFan p r).pth = s.pth ∧
      (s.setFan p r).chc = s.chc ∧
      (s.setFan p r).bga = s.bga ∧
      (s.setFan p r).plc = s.plc ∧
      (s.setFan p r).hsi = s.hsi ∧
      (s.setFan p r).psm = s.psm ∧
      (s.setFan p r).kbs = s.kbs ∧
      (s.setFan p r).swc = s.swc ∧
      (s.setFan p r).fsu = s.fsu ∧
      (s.setFan p r).evr = s.evr ∧
      (s.setFan p r).hlk = s.hlk ∧
      (s.setFan p r).sts = s.sts ∧
      (s.setFan p r).pending = s.pending := by
  cases p <;> simp [State.setFan]

@[simp] theorem State.fan_setFan (s : State) (p : Fan) (r : FanRec) : (s.setFan p r).fan p = r := by
  cases p <;> rfl

theorem State.fan_setFan_other (s : State) {p q : Fan} (r : FanRec) (h : q ≠ p) :
    (s.setFan p r).fan q = s.fan q := by
  cases p <;> cases q <;> first | rfl | exact absurd rfl h

/-- `setList` changes `evr` alone. -/
@[simp] theorem State.setList_frame (s : State) (p : Channel) (r : List Pending) :
    (s.setList p r).time = s.time ∧
      (s.setList p r).pth = s.pth ∧
      (s.setList p r).chc = s.chc ∧
      (s.setList p r).bga = s.bga ∧
      (s.setList p r).plc = s.plc ∧
      (s.setList p r).hsi = s.hsi ∧
      (s.setList p r).psm = s.psm ∧
      (s.setList p r).kbs = s.kbs ∧
      (s.setList p r).thc = s.thc ∧
      (s.setList p r).swc = s.swc ∧
      (s.setList p r).fsu = s.fsu ∧
      (s.setList p r).hlk = s.hlk ∧
      (s.setList p r).sts = s.sts ∧
      (s.setList p r).pending = s.pending := by
  cases p <;> simp [State.setList]

@[simp] theorem State.list_setList (s : State) (p : Channel) (r : List Pending) : (s.setList p r).list p = r := by
  cases p <;> rfl

theorem State.list_setList_other (s : State) {p q : Channel} (r : List Pending) (h : q ≠ p) :
    (s.setList p r).list q = s.list q := by
  cases p <;> cases q <;> first | rfl | exact absurd rfl h

/-- `setMonitor` changes `hsi` alone. -/
@[simp] theorem State.setMonitor_frame (s : State) (p : HingeSource) (r : Monitor) :
    (s.setMonitor p r).time = s.time ∧
      (s.setMonitor p r).pth = s.pth ∧
      (s.setMonitor p r).chc = s.chc ∧
      (s.setMonitor p r).bga = s.bga ∧
      (s.setMonitor p r).plc = s.plc ∧
      (s.setMonitor p r).psm = s.psm ∧
      (s.setMonitor p r).kbs = s.kbs ∧
      (s.setMonitor p r).thc = s.thc ∧
      (s.setMonitor p r).swc = s.swc ∧
      (s.setMonitor p r).fsu = s.fsu ∧
      (s.setMonitor p r).evr = s.evr ∧
      (s.setMonitor p r).hlk = s.hlk ∧
      (s.setMonitor p r).sts = s.sts ∧
      (s.setMonitor p r).pending = s.pending := by
  cases p <;> simp [State.setMonitor]

@[simp] theorem State.monitor_setMonitor (s : State) (p : HingeSource) (r : Monitor) : (s.setMonitor p r).monitor p = r := by
  cases p <;> rfl

theorem State.monitor_setMonitor_other (s : State) {p q : HingeSource} (r : Monitor) (h : q ≠ p) :
    (s.setMonitor p r).monitor q = s.monitor q := by
  cases p <;> cases q <;> first | rfl | exact absurd rfl h

/-- `setPersistence` changes `hsi` alone. -/
@[simp] theorem State.setPersistence_frame (s : State) (p : HingeSource) (r : Nat) :
    (s.setPersistence p r).time = s.time ∧
      (s.setPersistence p r).pth = s.pth ∧
      (s.setPersistence p r).chc = s.chc ∧
      (s.setPersistence p r).bga = s.bga ∧
      (s.setPersistence p r).plc = s.plc ∧
      (s.setPersistence p r).psm = s.psm ∧
      (s.setPersistence p r).kbs = s.kbs ∧
      (s.setPersistence p r).thc = s.thc ∧
      (s.setPersistence p r).swc = s.swc ∧
      (s.setPersistence p r).fsu = s.fsu ∧
      (s.setPersistence p r).evr = s.evr ∧
      (s.setPersistence p r).hlk = s.hlk ∧
      (s.setPersistence p r).sts = s.sts ∧
      (s.setPersistence p r).pending = s.pending := by
  cases p <;> simp [State.setPersistence]

/-- `setPack` leaves the rest of `pth`. -/
@[simp] theorem State.setPack_rest (s : State) (p : PackId) (r : Pack) :
    (s.setPack p r).pth.path = s.pth.path ∧ (s.setPack p r).pth.settled = s.pth.settled ∧
      (s.setPack p r).pth.swAdp = s.pth.swAdp ∧ (s.setPack p r).pth.swPa = s.pth.swPa ∧
      (s.setPack p r).pth.swPb = s.pth.swPb ∧ (s.setPack p r).pth.ejectOk = s.pth.ejectOk ∧
      (s.setPack p r).pth.knownMv = s.pth.knownMv ∧ (s.setPack p r).pth.ejectWindow = s.pth.ejectWindow ∧
      (s.setPack p r).pth.preference = s.pth.preference ∧ (s.setPack p r).pth.adapter = s.pth.adapter := by
  cases p <;> simp [State.setPack]

/-- `setCharge` leaves the rest of `chc`. -/
@[simp] theorem State.setCharge_rest (s : State) (p : PackId) (r : Charge) :
    (s.setCharge p r).chc.order = s.chc.order ∧ (s.setCharge p r).chc.threshold = s.chc.threshold ∧
      (s.setCharge p r).chc.table = s.chc.table ∧ (s.setCharge p r).chc.default0 = s.chc.default0 ∧
      (s.setCharge p r).chc.default1 = s.chc.default1 ∧ (s.setCharge p r).chc.openRow = s.chc.openRow ∧
      (s.setCharge p r).chc.latches = s.chc.latches ∧ (s.setCharge p r).chc.committing = s.chc.committing ∧
      (s.setCharge p r).chc.desired = s.chc.desired ∧ (s.setCharge p r).chc.inForce = s.chc.inForce ∧
      (s.setCharge p r).chc.inFlight = s.chc.inFlight ∧ (s.setCharge p r).chc.flightVoid = s.chc.flightVoid ∧
      (s.setCharge p r).chc.next = s.chc.next ∧ (s.setCharge p r).chc.chgEn = s.chc.chgEn ∧
      (s.setCharge p r).chc.deadline = s.chc.deadline ∧ (s.setCharge p r).chc.caught = s.chc.caught := by
  cases p <;> simp [State.setCharge]

/-- `setPoll` leaves the rest of `plc`. -/
@[simp] theorem State.setPoll_rest (s : State) (p : PackId) (r : Poll) :
    (s.setPoll p r).plc.devices = s.plc.devices ∧ (s.setPoll p r).plc.link = s.plc.link ∧
      (s.setPoll p r).plc.wire = s.plc.wire ∧ (s.setPoll p r).plc.discard = s.plc.discard ∧
      (s.setPoll p r).plc.gone = s.plc.gone ∧ (s.setPoll p r).plc.sclHigh = s.plc.sclHigh ∧
      (s.setPoll p r).plc.sdaHigh = s.plc.sdaHigh ∧ (s.setPoll p r).plc.chargerSlot = s.plc.chargerSlot ∧
      (s.setPoll p r).plc.passSlot = s.plc.passSlot ∧ (s.setPoll p r).plc.packSlot = s.plc.packSlot ∧
      (s.setPoll p r).plc.sensorSlot = s.plc.sensorSlot ∧ (s.setPoll p r).plc.write = s.plc.write ∧
      (s.setPoll p r).plc.work = s.plc.work ∧ (s.setPoll p r).plc.asked = s.plc.asked ∧
      (s.setPoll p r).plc.pollTs0 = s.plc.pollTs0 ∧ (s.setPoll p r).plc.pollTs1 = s.plc.pollTs1 ∧
      (s.setPoll p r).plc.runTs0 = s.plc.runTs0 ∧ (s.setPoll p r).plc.runTs1 = s.plc.runTs1 ∧
      (s.setPoll p r).plc.reading = s.plc.reading ∧ (s.setPoll p r).plc.alternation = s.plc.alternation ∧
      (s.setPoll p r).plc.pass = s.plc.pass ∧ (s.setPoll p r).plc.caught = s.plc.caught ∧
      (s.setPoll p r).plc.result = s.plc.result := by
  cases p <;> simp [State.setPoll]

/-- `setSensorPoll` leaves the rest of `plc`. -/
@[simp] theorem State.setSensorPoll_rest (s : State) (p : Sensor) (r : Poll) :
    (s.setSensorPoll p r).plc.devices = s.plc.devices ∧ (s.setSensorPoll p r).plc.link = s.plc.link ∧
      (s.setSensorPoll p r).plc.wire = s.plc.wire ∧ (s.setSensorPoll p r).plc.discard = s.plc.discard ∧
      (s.setSensorPoll p r).plc.gone = s.plc.gone ∧ (s.setSensorPoll p r).plc.sclHigh = s.plc.sclHigh ∧
      (s.setSensorPoll p r).plc.sdaHigh = s.plc.sdaHigh ∧
      (s.setSensorPoll p r).plc.chargerSlot = s.plc.chargerSlot ∧
      (s.setSensorPoll p r).plc.passSlot = s.plc.passSlot ∧
      (s.setSensorPoll p r).plc.packSlot = s.plc.packSlot ∧
      (s.setSensorPoll p r).plc.sensorSlot = s.plc.sensorSlot ∧ (s.setSensorPoll p r).plc.write = s.plc.write ∧
      (s.setSensorPoll p r).plc.work = s.plc.work ∧ (s.setSensorPoll p r).plc.asked = s.plc.asked ∧
      (s.setSensorPoll p r).plc.pollA = s.plc.pollA ∧ (s.setSensorPoll p r).plc.pollB = s.plc.pollB ∧
      (s.setSensorPoll p r).plc.runTs0 = s.plc.runTs0 ∧ (s.setSensorPoll p r).plc.runTs1 = s.plc.runTs1 ∧
      (s.setSensorPoll p r).plc.reading = s.plc.reading ∧
      (s.setSensorPoll p r).plc.alternation = s.plc.alternation ∧ (s.setSensorPoll p r).plc.pass = s.plc.pass ∧
      (s.setSensorPoll p r).plc.caught = s.plc.caught ∧ (s.setSensorPoll p r).plc.result = s.plc.result := by
  cases p <;> simp [State.setSensorPoll]

/-- `setSensorRun` leaves the rest of `plc`. -/
@[simp] theorem State.setSensorRun_rest (s : State) (p : Sensor) (r : Nat) :
    (s.setSensorRun p r).plc.devices = s.plc.devices ∧ (s.setSensorRun p r).plc.link = s.plc.link ∧
      (s.setSensorRun p r).plc.wire = s.plc.wire ∧ (s.setSensorRun p r).plc.discard = s.plc.discard ∧
      (s.setSensorRun p r).plc.gone = s.plc.gone ∧ (s.setSensorRun p r).plc.sclHigh = s.plc.sclHigh ∧
      (s.setSensorRun p r).plc.sdaHigh = s.plc.sdaHigh ∧
      (s.setSensorRun p r).plc.chargerSlot = s.plc.chargerSlot ∧
      (s.setSensorRun p r).plc.passSlot = s.plc.passSlot ∧ (s.setSensorRun p r).plc.packSlot = s.plc.packSlot ∧
      (s.setSensorRun p r).plc.sensorSlot = s.plc.sensorSlot ∧ (s.setSensorRun p r).plc.write = s.plc.write ∧
      (s.setSensorRun p r).plc.work = s.plc.work ∧ (s.setSensorRun p r).plc.asked = s.plc.asked ∧
      (s.setSensorRun p r).plc.pollA = s.plc.pollA ∧ (s.setSensorRun p r).plc.pollB = s.plc.pollB ∧
      (s.setSensorRun p r).plc.pollTs0 = s.plc.pollTs0 ∧ (s.setSensorRun p r).plc.pollTs1 = s.plc.pollTs1 ∧
      (s.setSensorRun p r).plc.reading = s.plc.reading ∧
      (s.setSensorRun p r).plc.alternation = s.plc.alternation ∧ (s.setSensorRun p r).plc.pass = s.plc.pass ∧
      (s.setSensorRun p r).plc.caught = s.plc.caught ∧ (s.setSensorRun p r).plc.result = s.plc.result := by
  cases p <;> simp [State.setSensorRun]

/-- `setJob` leaves the rest of `fsu`. -/
@[simp] theorem State.setJob_rest (s : State) (p : Job) (r : JobRec) :
    (s.setJob p r).fsu.table = s.fsu.table := by
  cases p <;> simp [State.setJob]

/-- `setInput` leaves the rest of `thc`. -/
@[simp] theorem State.setInput_rest (s : State) (p : ThermalInput) (r : Input) :
    (s.setInput p r).thc.grace = s.thc.grace ∧ (s.setInput p r).thc.fan0 = s.thc.fan0 ∧
      (s.setInput p r).thc.fan1 = s.thc.fan1 ∧ (s.setInput p r).thc.curves = s.thc.curves ∧
      (s.setInput p r).thc.floor = s.thc.floor ∧ (s.setInput p r).thc.trip = s.thc.trip ∧
      (s.setInput p r).thc.holds = s.thc.holds ∧ (s.setInput p r).thc.derate = s.thc.derate := by
  cases p <;> simp [State.setInput]

/-- `setFan` leaves the rest of `thc`. -/
@[simp] theorem State.setFan_rest (s : State) (p : Fan) (r : FanRec) :
    (s.setFan p r).thc.inputs = s.thc.inputs ∧ (s.setFan p r).thc.grace = s.thc.grace ∧
      (s.setFan p r).thc.curves = s.thc.curves ∧ (s.setFan p r).thc.floor = s.thc.floor ∧
      (s.setFan p r).thc.trip = s.thc.trip ∧ (s.setFan p r).thc.holds = s.thc.holds ∧
      (s.setFan p r).thc.derate = s.thc.derate := by
  cases p <;> simp [State.setFan]

/-- `setList` leaves the rest of `evr`. -/
@[simp] theorem State.setList_rest (s : State) (p : Channel) (r : List Pending) :
    (s.setList p r).evr.routes = s.evr.routes ∧ (s.setList p r).evr.button = s.evr.button ∧
      (s.setList p r).evr.keys = s.evr.keys ∧ (s.setList p r).evr.capture = s.evr.capture ∧
      (s.setList p r).evr.fault = s.evr.fault := by
  cases p <;> simp [State.setList]

/-- `setMonitor` leaves the rest of `hsi`. -/
@[simp] theorem State.setMonitor_rest (s : State) (p : HingeSource) (r : Monitor) :
    (s.setMonitor p r).hsi.nominal = s.hsi.nominal ∧ (s.setMonitor p r).hsi.closedRef = s.hsi.closedRef ∧
      (s.setMonitor p r).hsi.hysteresis = s.hsi.hysteresis ∧ (s.setMonitor p r).hsi.sin = s.hsi.sin ∧
      (s.setMonitor p r).hsi.cos = s.hsi.cos ∧ (s.setMonitor p r).hsi.collection = s.hsi.collection ∧
      (s.setMonitor p r).hsi.raw = s.hsi.raw ∧ (s.setMonitor p r).hsi.reported = s.hsi.reported ∧
      (s.setMonitor p r).hsi.awaitFirst = s.hsi.awaitFirst ∧
      (s.setMonitor p r).hsi.magnitude = s.hsi.magnitude ∧ (s.setMonitor p r).hsi.rejected = s.hsi.rejected ∧
      (s.setMonitor p r).hsi.speed = s.hsi.speed ∧ (s.setMonitor p r).hsi.history = s.hsi.history ∧
      (s.setMonitor p r).hsi.persistence = s.hsi.persistence ∧
      (s.setMonitor p r).hsi.validity = s.hsi.validity ∧ (s.setMonitor p r).hsi.stored = s.hsi.stored ∧
      (s.setMonitor p r).hsi.standIn = s.hsi.standIn ∧ (s.setMonitor p r).hsi.captures = s.hsi.captures ∧
      (s.setMonitor p r).hsi.lost = s.hsi.lost := by
  cases p <;> simp [State.setMonitor]

/-- `setPersistence` leaves the rest of `hsi`. -/
@[simp] theorem State.setPersistence_rest (s : State) (p : HingeSource) (r : Nat) :
    (s.setPersistence p r).hsi.nominal = s.hsi.nominal ∧
      (s.setPersistence p r).hsi.closedRef = s.hsi.closedRef ∧
      (s.setPersistence p r).hsi.hysteresis = s.hsi.hysteresis ∧ (s.setPersistence p r).hsi.sin = s.hsi.sin ∧
      (s.setPersistence p r).hsi.cos = s.hsi.cos ∧ (s.setPersistence p r).hsi.collection = s.hsi.collection ∧
      (s.setPersistence p r).hsi.raw = s.hsi.raw ∧ (s.setPersistence p r).hsi.reported = s.hsi.reported ∧
      (s.setPersistence p r).hsi.awaitFirst = s.hsi.awaitFirst ∧
      (s.setPersistence p r).hsi.magnitude = s.hsi.magnitude ∧
      (s.setPersistence p r).hsi.rejected = s.hsi.rejected ∧ (s.setPersistence p r).hsi.speed = s.hsi.speed ∧
      (s.setPersistence p r).hsi.history = s.hsi.history ∧
      (s.setPersistence p r).hsi.monitors = s.hsi.monitors ∧
      (s.setPersistence p r).hsi.validity = s.hsi.validity ∧ (s.setPersistence p r).hsi.stored = s.hsi.stored ∧
      (s.setPersistence p r).hsi.standIn = s.hsi.standIn ∧
      (s.setPersistence p r).hsi.captures = s.hsi.captures ∧ (s.setPersistence p r).hsi.lost = s.hsi.lost := by
  cases p <;> simp [State.setPersistence]

/-- `setAdapter` changes the adapter record alone. -/
@[simp] theorem State.setAdapter_frame (s : State) (a : Adapter) :
    (s.setAdapter a).time = s.time ∧
      (s.setAdapter a).chc = s.chc ∧
      (s.setAdapter a).bga = s.bga ∧
      (s.setAdapter a).plc = s.plc ∧
      (s.setAdapter a).hsi = s.hsi ∧
      (s.setAdapter a).psm = s.psm ∧
      (s.setAdapter a).kbs = s.kbs ∧
      (s.setAdapter a).thc = s.thc ∧
      (s.setAdapter a).swc = s.swc ∧
      (s.setAdapter a).fsu = s.fsu ∧
      (s.setAdapter a).evr = s.evr ∧
      (s.setAdapter a).hlk = s.hlk ∧
      (s.setAdapter a).sts = s.sts ∧
      (s.setAdapter a).pending = s.pending := by
  simp [State.setAdapter]

@[simp] theorem State.setAdapter_pth (s : State) (a : Adapter) :
    (s.setAdapter a).pth = { s.pth with adapter := a } := (rfl)

end Sys2Proof.Machine
end

