-- ==== Sys2Proof/Laws/Records.lean ====
section
/-! SUPPORT. What the updates of a single record leave of its fields. -/

namespace Sys2Proof.Machine

@[simp] theorem Pth.setPath_rest (k : Pth) (p : PathState) :
    (k.setPath p).adapter = k.adapter ∧ (k.setPath p).packA = k.packA ∧ (k.setPath p).packB = k.packB ∧
      (k.setPath p).preference = k.preference ∧ (k.setPath p).ejectOk = k.ejectOk ∧
      (k.setPath p).ejectWindow = k.ejectWindow ∧ (k.setPath p).knownMv = k.knownMv ∧
      (k.setPath p).settled = k.settled ∧ (k.setPath p).postponed = k.postponed ∧ (k.setPath p).path = p := by
  simp [Pth.setPath]

@[simp] theorem Plc.serve_rest (k : Plc) (c : Client) :
    (k.serve c).devices = k.devices ∧ (k.serve c).pass = k.pass ∧ (k.serve c).caught = k.caught ∧
      (k.serve c).result = k.result ∧ (k.serve c).asked = k.asked ∧ (k.serve c).write = k.write ∧
      (k.serve c).work = k.work ∧ (k.serve c).discard = k.discard ∧ (k.serve c).gone = k.gone := by
  cases c <;> simp [Plc.serve]

@[simp] theorem Plc.released_rest (k : Plc) :
    k.released.devices = k.devices ∧ k.released.pass = k.pass ∧ k.released.caught = k.caught ∧
      k.released.result = k.result ∧ k.released.asked = k.asked ∧ k.released.write = k.write ∧
      k.released.work = k.work ∧ k.released.link = .idle ∧ k.released.wire = none := by
  simp [Plc.released]

@[simp] theorem Plc.endPolls_rest (k : Plc) :
    k.endPolls.devices = k.devices ∧ k.endPolls.pass = k.pass ∧ k.endPolls.caught = k.caught ∧
      k.endPolls.result = k.result := by
  simp [Plc.endPolls]

@[simp] theorem Plc.savePass_rest (k : Plc) :
    k.savePass.devices = k.devices ∧ k.savePass.result = k.result ∧ k.savePass.asked = k.asked := by
  simp only [Plc.savePass]
  split <;> simp

@[simp] theorem Plc.restart_rest (k : Plc) : k.restart.result = k.result ∧ k.restart.asked = k.asked := by
  simp [Plc.restart]

@[simp] theorem Chc.closeRow_rest (c : Chc) :
    c.closeRow.order = c.order ∧ c.closeRow.threshold = c.threshold ∧ c.closeRow.table = c.table ∧
      c.closeRow.a = c.a ∧ c.closeRow.b = c.b ∧ c.closeRow.openRow = none ∧
      c.closeRow.latches = List.replicate 8 none ∧ c.closeRow.committing = none ∧ c.closeRow.inForce = c.inForce ∧
      c.closeRow.inFlight = c.inFlight ∧ c.closeRow.flightVoid = c.flightVoid ∧ c.closeRow.next = c.next ∧
      c.closeRow.chgEn = c.chgEn := by
  simp [Chc.closeRow]

@[simp] theorem Chc.putRow_rest (c : Chc) (row : Nat) (es : List ProfileEntry) (b : Bool) :
    (c.putRow row es b).order = c.order ∧ (c.putRow row es b).threshold = c.threshold ∧
      (c.putRow row es b).openRow = c.openRow ∧ (c.putRow row es b).latches = c.latches ∧
      (c.putRow row es b).a = c.a ∧ (c.putRow row es b).b = c.b ∧ (c.putRow row es b).inForce = c.inForce ∧
      (c.putRow row es b).inFlight = c.inFlight ∧ (c.putRow row es b).flightVoid = c.flightVoid ∧
      (c.putRow row es b).next = c.next ∧ (c.putRow row es b).chgEn = c.chgEn := by
  simp only [Chc.putRow]
  split <;> simp

@[simp] theorem Bga.grant_rest (b : Bga) (ma : Nat) :
    (b.grant ma).applied = ma ∧ (b.grant ma).computed = b.computed ∧ (b.grant ma).mode = b.mode ∧
      (b.grant ma).throttle = b.throttle ∧ (b.grant ma).release = b.release ∧
      (b.grant ma).episodeStart = b.episodeStart ∧ (b.grant ma).episodeOwner = b.episodeOwner ∧
      (b.grant ma).dischargeA = b.dischargeA ∧ (b.grant ma).dischargeB = b.dischargeB := by
  simp [Bga.grant]

/-- CHG_EN is never wanted against the law of R43. -/
theorem State.enableWanted_obeysGrant {s : State} (h : s.enableWanted = true) : s.grantBars = false := by
  unfold State.enableWanted at h
  split at h <;> simp_all

/-- A current in force within the applied grant is no matter for R43. -/
theorem State.grantBars_within {s : State} (h : overGrant s.bga.applied s.chc.inForce = false) : s.grantBars = false := by
  simp [State.grantBars, h]

@[simp] theorem Kbs.toIdle_rest (k : Kbs) :
    k.toIdle.queue = k.queue ∧ k.toIdle.settings = k.settings ∧ k.toIdle.keys = k.keys ∧
      k.toIdle.overflow = k.overflow := by
  simp [Kbs.toIdle]

@[simp] theorem Kbs.deriveAsleep_rest (k : Kbs) :
    k.deriveAsleep.queue = k.queue ∧ k.deriveAsleep.settings = k.settings ∧ k.deriveAsleep.keys = k.keys ∧
      k.deriveAsleep.overflow = k.overflow := by
  simp only [Kbs.deriveAsleep]
  repeat' split
  all_goals simp

@[simp] theorem Kbs.deriveAwake_rest (k : Kbs) :
    k.deriveAwake.queue = k.queue ∧ k.deriveAwake.settings = k.settings ∧ k.deriveAwake.keys = k.keys ∧
      k.deriveAwake.overflow = k.overflow := by
  simp only [Kbs.deriveAwake]
  split <;> simp

@[simp] theorem Kbs.cleared_rest (k : Kbs) :
    k.cleared.queue = k.queue ∧ k.cleared.settings = k.settings ∧ k.cleared.overflow = k.overflow := by
  simp [Kbs.cleared]

@[simp] theorem Hsi.quiesce_rest (h : Hsi) :
    h.quiesce.monitors = h.monitors ∧ h.quiesce.validity = h.validity ∧ h.quiesce.captures = h.captures ∧
      h.quiesce.raw = h.raw ∧ h.quiesce.reported = h.reported ∧ h.quiesce.rejected = h.rejected ∧
      h.quiesce.hysteresis = h.hysteresis ∧ h.quiesce.nominal = h.nominal ∧ h.quiesce.lost = h.lost ∧
      h.quiesce.closedRef = h.closedRef := by
  simp [Hsi.quiesce]

@[simp] theorem Hsi.load_rest (h : Hsi) :
    h.load.captures = h.captures ∧ h.load.raw = h.raw ∧ h.load.reported = h.reported ∧ h.load.lost = h.lost ∧
      h.load.rejected = h.rejected := by
  simp [Hsi.load]

@[simp] theorem Hsi.reject_rest (h : Hsi) (sin cos : Int) :
    (h.reject sin cos).monitors = h.monitors ∧ (h.reject sin cos).validity = h.validity ∧
      (h.reject sin cos).captures = h.captures ∧ (h.reject sin cos).raw = h.raw ∧
      (h.reject sin cos).reported = h.reported ∧ (h.reject sin cos).rejected = true ∧
      (h.reject sin cos).hysteresis = h.hysteresis ∧ (h.reject sin cos).nominal = h.nominal ∧
      (h.reject sin cos).lost = h.lost ∧ (h.reject sin cos).closedRef = h.closedRef := by
  cases h
  exact ⟨rfl, rfl, rfl, rfl, rfl, rfl, rfl, rfl, rfl, rfl⟩

@[simp] theorem Hsi.report_rest (h : Hsi) (raw : Nat) :
    (h.report raw).monitors = h.monitors ∧ (h.report raw).validity = h.validity ∧
      (h.report raw).captures = h.captures ∧ (h.report raw).raw = h.raw ∧ (h.report raw).rejected = h.rejected ∧
      (h.report raw).hysteresis = h.hysteresis ∧ (h.report raw).nominal = h.nominal ∧
      (h.report raw).lost = h.lost ∧ (h.report raw).closedRef = h.closedRef := by
  cases h
  simp only [Hsi.report]
  split <;> simp

@[simp] theorem passPeak_rest (c : Collection) (h : Hsi) :
    (passPeak c h).monitors = h.monitors ∧ (passPeak c h).validity = h.validity ∧
      (passPeak c h).captures = h.captures ∧ (passPeak c h).raw = h.raw ∧ (passPeak c h).rejected = h.rejected ∧
      (passPeak c h).hysteresis = h.hysteresis ∧ (passPeak c h).nominal = h.nominal ∧
      (passPeak c h).lost = h.lost ∧ (passPeak c h).closedRef = h.closedRef := by
  cases h
  simp only [passPeak]
  split <;> simp

@[simp] theorem enterWindow_rest (before raw : Nat) (sin cos : Int) (h : Hsi) :
    (enterWindow before raw sin cos h).monitors = h.monitors ∧
      (enterWindow before raw sin cos h).validity = h.validity ∧
      (enterWindow before raw sin cos h).captures = h.captures ∧
      (enterWindow before raw sin cos h).raw = h.raw ∧
      (enterWindow before raw sin cos h).rejected = h.rejected ∧
      (enterWindow before raw sin cos h).hysteresis = h.hysteresis ∧
      (enterWindow before raw sin cos h).nominal = h.nominal ∧ (enterWindow before raw sin cos h).lost = h.lost ∧
      (enterWindow before raw sin cos h).closedRef = h.closedRef := by
  cases h
  simp only [enterWindow]
  repeat' split
  all_goals simp

@[simp] theorem collect_rest (before raw : Nat) (sin cos : Int) (h : Hsi) :
    (collect before raw sin cos h).monitors = h.monitors ∧ (collect before raw sin cos h).validity = h.validity ∧
      (collect before raw sin cos h).captures = h.captures ∧ (collect before raw sin cos h).raw = h.raw ∧
      (collect before raw sin cos h).rejected = h.rejected ∧
      (collect before raw sin cos h).hysteresis = h.hysteresis ∧
      (collect before raw sin cos h).nominal = h.nominal ∧ (collect before raw sin cos h).lost = h.lost ∧
      (collect before raw sin cos h).closedRef = h.closedRef := by
  cases h
  simp only [collect]
  repeat' split
  all_goals simp

@[simp] theorem Hsi.accept_rest (h : Hsi) (sin cos : Int) :
    (h.accept sin cos).monitors = h.monitors ∧ (h.accept sin cos).validity = h.validity ∧
      (h.accept sin cos).captures = h.captures ∧
      (h.accept sin cos).raw = direction (h.cos.correct cos) (h.sin.correct sin) ∧
      (h.accept sin cos).rejected = false ∧ (h.accept sin cos).hysteresis = h.hysteresis ∧
      (h.accept sin cos).nominal = h.nominal ∧ (h.accept sin cos).lost = h.lost ∧
      (h.accept sin cos).closedRef = h.closedRef := by
  cases h
  simp only [Hsi.accept]
  split <;> simp

@[simp] theorem Psm.setLine_rest (p : Psm) (x : HingeSwitch) (l : SwitchLine) :
    (p.setLine x l).conflict = p.conflict ∧ (p.setLine x l).settings = p.settings ∧
      (p.setLine x l).evaluated = p.evaluated ∧ (p.setLine x l).current = p.current ∧
      (p.setLine x l).candidate = p.candidate ∧ (p.setLine x l).angle = p.angle ∧
      (p.setLine x l).validity = p.validity ∧ (p.setLine x l).band = p.band ∧ (p.setLine x l).dwell = p.dwell := by
  cases x <;> simp [Psm.setLine]

end Sys2Proof.Machine
end

