-- ==== Sys2Proof/Laws/Frames.lean ====
section
/-! SUPPORT. The frame of each operation of the blocks: the blocks it leaves as they were, and of the blocks
it changes the fields the laws of Safety.lean speak of that it leaves. -/

namespace Sys2Proof.Machine

@[simp] theorem answer_snd (st : Status) (b : List Byte) (s : State) : (answer st b s).2 = s := (rfl)

@[simp] theorem answer_fst (st : Status) (b : List Byte) (s : State) : (answer st b s).1 = ⟨st, b⟩ := (rfl)

@[simp] theorem refuse_snd (st : Status) (s : State) : (refuse st s).2 = s := (rfl)

@[simp] theorem refuse_fst (st : Status) (s : State) : (refuse st s).1 = ⟨st, []⟩ := (rfl)

@[simp] theorem txChoose_frame (s : State) :
    (txChoose s).time = s.time ∧ (txChoose s).pth = s.pth ∧ (txChoose s).chc = s.chc ∧
      (txChoose s).bga = s.bga ∧ (txChoose s).plc = s.plc ∧ (txChoose s).hsi = s.hsi ∧
      (txChoose s).psm = s.psm ∧ (txChoose s).kbs = s.kbs ∧ (txChoose s).thc = s.thc ∧
      (txChoose s).swc = s.swc ∧ (txChoose s).fsu = s.fsu ∧ (txChoose s).evr = s.evr ∧
      (txChoose s).sts = s.sts ∧ (txChoose s).pending = s.pending ∧ (txChoose s).hlk.queue = s.hlk.queue ∧
      (txChoose s).hlk.resetPending = s.hlk.resetPending ∧ (txChoose s).hlk.rx = s.hlk.rx ∧
      (txChoose s).hlk.series = s.hlk.series ∧ (txChoose s).hlk.held = s.hlk.held := by
  simp only [txChoose]
  repeat' split
  all_goals simp

@[simp] theorem requestNotice_frame (c : Channel) (count : Nat) (s : State) :
    (requestNotice c count s).time = s.time ∧ (requestNotice c count s).pth = s.pth ∧
      (requestNotice c count s).chc = s.chc ∧ (requestNotice c count s).bga = s.bga ∧
      (requestNotice c count s).plc = s.plc ∧ (requestNotice c count s).hsi = s.hsi ∧
      (requestNotice c count s).psm = s.psm ∧ (requestNotice c count s).kbs = s.kbs ∧
      (requestNotice c count s).thc = s.thc ∧ (requestNotice c count s).swc = s.swc ∧
      (requestNotice c count s).fsu = s.fsu ∧ (requestNotice c count s).evr = s.evr ∧
      (requestNotice c count s).sts = s.sts ∧ (requestNotice c count s).pending = s.pending ∧
      (requestNotice c count s).hlk.queue = s.hlk.queue ∧
      (requestNotice c count s).hlk.resetPending = s.hlk.resetPending ∧
      (requestNotice c count s).hlk.rx = s.hlk.rx ∧ (requestNotice c count s).hlk.series = s.hlk.series ∧
      (requestNotice c count s).hlk.held = s.hlk.held := by
  simp only [requestNotice]
  repeat' split
  all_goals simp

@[simp] theorem putList_frame (c : Channel) (l : List Pending) (s : State) :
    (putList c l s).time = s.time ∧ (putList c l s).pth = s.pth ∧ (putList c l s).chc = s.chc ∧
      (putList c l s).bga = s.bga ∧ (putList c l s).plc = s.plc ∧ (putList c l s).hsi = s.hsi ∧
      (putList c l s).psm = s.psm ∧ (putList c l s).kbs = s.kbs ∧ (putList c l s).thc = s.thc ∧
      (putList c l s).swc = s.swc ∧ (putList c l s).fsu = s.fsu ∧ (putList c l s).sts = s.sts ∧
      (putList c l s).pending = s.pending ∧ (putList c l s).evr.routes = s.evr.routes ∧
      (putList c l s).evr.button = s.evr.button ∧ (putList c l s).evr.keys = s.evr.keys ∧
      (putList c l s).evr.capture = s.evr.capture ∧ (putList c l s).evr.fault = s.evr.fault ∧
      (putList c l s).hlk.queue = s.hlk.queue ∧ (putList c l s).hlk.resetPending = s.hlk.resetPending ∧
      (putList c l s).hlk.rx = s.hlk.rx ∧ (putList c l s).hlk.series = s.hlk.series ∧
      (putList c l s).hlk.held = s.hlk.held := by
  simp only [putList]
  repeat' split
  all_goals simp

@[simp] theorem raiseOn_frame (c : Channel) (e : EvSource) (d : Detail) (s : State) :
    (raiseOn c e d s).time = s.time ∧ (raiseOn c e d s).pth = s.pth ∧ (raiseOn c e d s).chc = s.chc ∧
      (raiseOn c e d s).bga = s.bga ∧ (raiseOn c e d s).plc = s.plc ∧ (raiseOn c e d s).hsi = s.hsi ∧
      (raiseOn c e d s).psm = s.psm ∧ (raiseOn c e d s).kbs = s.kbs ∧ (raiseOn c e d s).thc = s.thc ∧
      (raiseOn c e d s).swc = s.swc ∧ (raiseOn c e d s).fsu = s.fsu ∧ (raiseOn c e d s).sts = s.sts ∧
      (raiseOn c e d s).pending = s.pending ∧ (raiseOn c e d s).evr.routes = s.evr.routes ∧
      (raiseOn c e d s).evr.button = s.evr.button ∧ (raiseOn c e d s).evr.keys = s.evr.keys ∧
      (raiseOn c e d s).evr.capture = s.evr.capture ∧ (raiseOn c e d s).evr.fault = s.evr.fault ∧
      (raiseOn c e d s).hlk.queue = s.hlk.queue ∧ (raiseOn c e d s).hlk.resetPending = s.hlk.resetPending ∧
      (raiseOn c e d s).hlk.rx = s.hlk.rx ∧ (raiseOn c e d s).hlk.series = s.hlk.series ∧
      (raiseOn c e d s).hlk.held = s.hlk.held := by
  simp only [raiseOn]
  repeat' split
  all_goals simp

@[simp] theorem raise_frame (e : EvSource) (d : Detail) (s : State) :
    (raise e d s).time = s.time ∧ (raise e d s).pth = s.pth ∧ (raise e d s).chc = s.chc ∧
      (raise e d s).bga = s.bga ∧ (raise e d s).plc = s.plc ∧ (raise e d s).hsi = s.hsi ∧
      (raise e d s).psm = s.psm ∧ (raise e d s).kbs = s.kbs ∧ (raise e d s).thc = s.thc ∧
      (raise e d s).swc = s.swc ∧ (raise e d s).fsu = s.fsu ∧ (raise e d s).sts = s.sts ∧
      (raise e d s).pending = s.pending ∧ (raise e d s).evr.routes = s.evr.routes ∧
      (raise e d s).evr.button = s.evr.button ∧ (raise e d s).evr.keys = s.evr.keys ∧
      (raise e d s).evr.capture = s.evr.capture ∧ (raise e d s).evr.fault = s.evr.fault ∧
      (raise e d s).hlk.queue = s.hlk.queue ∧ (raise e d s).hlk.resetPending = s.hlk.resetPending ∧
      (raise e d s).hlk.rx = s.hlk.rx ∧ (raise e d s).hlk.series = s.hlk.series ∧
      (raise e d s).hlk.held = s.hlk.held := by
  simp only [raise]
  repeat' split
  all_goals simp

@[simp] theorem State.setCondition_frame (s : State) (e : EvSource) (b : Bool) :
    (State.setCondition s e b).time = s.time ∧ (State.setCondition s e b).pth = s.pth ∧
      (State.setCondition s e b).chc = s.chc ∧ (State.setCondition s e b).bga = s.bga ∧
      (State.setCondition s e b).plc = s.plc ∧ (State.setCondition s e b).hsi = s.hsi ∧
      (State.setCondition s e b).psm = s.psm ∧ (State.setCondition s e b).kbs = s.kbs ∧
      (State.setCondition s e b).thc = s.thc ∧ (State.setCondition s e b).swc = s.swc ∧
      (State.setCondition s e b).fsu = s.fsu ∧ (State.setCondition s e b).hlk = s.hlk ∧
      (State.setCondition s e b).sts = s.sts ∧ (State.setCondition s e b).pending = s.pending ∧
      (State.setCondition s e b).evr.routes = s.evr.routes ∧
      (State.setCondition s e b).evr.listS = s.evr.listS ∧ (State.setCondition s e b).evr.listP = s.evr.listP := by
  simp only [State.setCondition]
  repeat' split
  all_goals simp

@[simp] theorem joinLevel_frame (c : Channel) (e : EvSource) (s : State) :
    (joinLevel c e s).time = s.time ∧ (joinLevel c e s).pth = s.pth ∧ (joinLevel c e s).chc = s.chc ∧
      (joinLevel c e s).bga = s.bga ∧ (joinLevel c e s).plc = s.plc ∧ (joinLevel c e s).hsi = s.hsi ∧
      (joinLevel c e s).psm = s.psm ∧ (joinLevel c e s).kbs = s.kbs ∧ (joinLevel c e s).thc = s.thc ∧
      (joinLevel c e s).swc = s.swc ∧ (joinLevel c e s).fsu = s.fsu ∧ (joinLevel c e s).sts = s.sts ∧
      (joinLevel c e s).pending = s.pending ∧ (joinLevel c e s).evr.routes = s.evr.routes ∧
      (joinLevel c e s).evr.button = s.evr.button ∧ (joinLevel c e s).evr.keys = s.evr.keys ∧
      (joinLevel c e s).evr.capture = s.evr.capture ∧ (joinLevel c e s).evr.fault = s.evr.fault ∧
      (joinLevel c e s).hlk.queue = s.hlk.queue ∧ (joinLevel c e s).hlk.resetPending = s.hlk.resetPending ∧
      (joinLevel c e s).hlk.rx = s.hlk.rx ∧ (joinLevel c e s).hlk.series = s.hlk.series ∧
      (joinLevel c e s).hlk.held = s.hlk.held := by
  simp only [joinLevel]
  repeat' split
  all_goals simp

@[simp] theorem leaveList_frame (c : Channel) (e : EvSource) (s : State) :
    (leaveList c e s).time = s.time ∧ (leaveList c e s).pth = s.pth ∧ (leaveList c e s).chc = s.chc ∧
      (leaveList c e s).bga = s.bga ∧ (leaveList c e s).plc = s.plc ∧ (leaveList c e s).hsi = s.hsi ∧
      (leaveList c e s).psm = s.psm ∧ (leaveList c e s).kbs = s.kbs ∧ (leaveList c e s).thc = s.thc ∧
      (leaveList c e s).swc = s.swc ∧ (leaveList c e s).fsu = s.fsu ∧ (leaveList c e s).sts = s.sts ∧
      (leaveList c e s).pending = s.pending ∧ (leaveList c e s).evr.routes = s.evr.routes ∧
      (leaveList c e s).evr.button = s.evr.button ∧ (leaveList c e s).evr.keys = s.evr.keys ∧
      (leaveList c e s).evr.capture = s.evr.capture ∧ (leaveList c e s).evr.fault = s.evr.fault ∧
      (leaveList c e s).hlk.queue = s.hlk.queue ∧ (leaveList c e s).hlk.resetPending = s.hlk.resetPending ∧
      (leaveList c e s).hlk.rx = s.hlk.rx ∧ (leaveList c e s).hlk.series = s.hlk.series ∧
      (leaveList c e s).hlk.held = s.hlk.held := by
  simp only [leaveList]
  repeat' split
  all_goals simp

@[simp] theorem setLevel_frame (e : EvSource) (b : Bool) (s : State) :
    (setLevel e b s).time = s.time ∧ (setLevel e b s).pth = s.pth ∧ (setLevel e b s).chc = s.chc ∧
      (setLevel e b s).bga = s.bga ∧ (setLevel e b s).plc = s.plc ∧ (setLevel e b s).hsi = s.hsi ∧
      (setLevel e b s).psm = s.psm ∧ (setLevel e b s).kbs = s.kbs ∧ (setLevel e b s).thc = s.thc ∧
      (setLevel e b s).swc = s.swc ∧ (setLevel e b s).fsu = s.fsu ∧ (setLevel e b s).sts = s.sts ∧
      (setLevel e b s).pending = s.pending ∧ (setLevel e b s).evr.routes = s.evr.routes ∧
      (setLevel e b s).hlk.queue = s.hlk.queue ∧ (setLevel e b s).hlk.resetPending = s.hlk.resetPending ∧
      (setLevel e b s).hlk.rx = s.hlk.rx ∧ (setLevel e b s).hlk.series = s.hlk.series ∧
      (setLevel e b s).hlk.held = s.hlk.held := by
  simp only [setLevel]
  repeat' split
  all_goals simp

@[simp] theorem noticesOnArrival_frame (s : State) :
    (noticesOnArrival s).time = s.time ∧ (noticesOnArrival s).pth = s.pth ∧ (noticesOnArrival s).chc = s.chc ∧
      (noticesOnArrival s).bga = s.bga ∧ (noticesOnArrival s).plc = s.plc ∧ (noticesOnArrival s).hsi = s.hsi ∧
      (noticesOnArrival s).psm = s.psm ∧ (noticesOnArrival s).kbs = s.kbs ∧ (noticesOnArrival s).thc = s.thc ∧
      (noticesOnArrival s).swc = s.swc ∧ (noticesOnArrival s).fsu = s.fsu ∧ (noticesOnArrival s).evr = s.evr ∧
      (noticesOnArrival s).sts = s.sts ∧ (noticesOnArrival s).pending = s.pending ∧
      (noticesOnArrival s).hlk.queue = s.hlk.queue ∧
      (noticesOnArrival s).hlk.resetPending = s.hlk.resetPending ∧ (noticesOnArrival s).hlk.rx = s.hlk.rx ∧
      (noticesOnArrival s).hlk.series = s.hlk.series ∧ (noticesOnArrival s).hlk.held = s.hlk.held := by
  simp only [noticesOnArrival]
  repeat' split
  all_goals simp

@[simp] theorem State.setFaultRec_frame (s : State) (c : FaultCode) (r : FaultRec) :
    (State.setFaultRec s c r).time = s.time ∧ (State.setFaultRec s c r).pth = s.pth ∧
      (State.setFaultRec s c r).chc = s.chc ∧ (State.setFaultRec s c r).bga = s.bga ∧
      (State.setFaultRec s c r).plc = s.plc ∧ (State.setFaultRec s c r).hsi = s.hsi ∧
      (State.setFaultRec s c r).psm = s.psm ∧ (State.setFaultRec s c r).kbs = s.kbs ∧
      (State.setFaultRec s c r).thc = s.thc ∧ (State.setFaultRec s c r).swc = s.swc ∧
      (State.setFaultRec s c r).evr = s.evr ∧ (State.setFaultRec s c r).hlk = s.hlk ∧
      (State.setFaultRec s c r).sts = s.sts ∧ (State.setFaultRec s c r).pending = s.pending := by
  simp only [State.setFaultRec]
  repeat' split
  all_goals simp

@[simp] theorem recordFault_frame (c : FaultCode) (d : Detail) (s : State) :
    (recordFault c d s).time = s.time ∧ (recordFault c d s).pth = s.pth ∧ (recordFault c d s).chc = s.chc ∧
      (recordFault c d s).bga = s.bga ∧ (recordFault c d s).plc = s.plc ∧ (recordFault c d s).hsi = s.hsi ∧
      (recordFault c d s).psm = s.psm ∧ (recordFault c d s).kbs = s.kbs ∧ (recordFault c d s).thc = s.thc ∧
      (recordFault c d s).swc = s.swc ∧ (recordFault c d s).sts = s.sts ∧
      (recordFault c d s).pending = s.pending ∧ (recordFault c d s).evr.routes = s.evr.routes ∧
      (recordFault c d s).hlk.queue = s.hlk.queue ∧ (recordFault c d s).hlk.resetPending = s.hlk.resetPending ∧
      (recordFault c d s).hlk.rx = s.hlk.rx ∧ (recordFault c d s).hlk.series = s.hlk.series ∧
      (recordFault c d s).hlk.held = s.hlk.held := by
  simp only [recordFault]
  repeat' split
  all_goals simp

@[simp] theorem requestQfull_frame (kind : Nat) (h : ReqHead) (s : State) :
    (requestQfull kind h s).time = s.time ∧ (requestQfull kind h s).pth = s.pth ∧
      (requestQfull kind h s).chc = s.chc ∧ (requestQfull kind h s).bga = s.bga ∧
      (requestQfull kind h s).plc = s.plc ∧ (requestQfull kind h s).hsi = s.hsi ∧
      (requestQfull kind h s).psm = s.psm ∧ (requestQfull kind h s).kbs = s.kbs ∧
      (requestQfull kind h s).thc = s.thc ∧ (requestQfull kind h s).swc = s.swc ∧
      (requestQfull kind h s).fsu = s.fsu ∧ (requestQfull kind h s).evr = s.evr ∧
      (requestQfull kind h s).sts = s.sts ∧ (requestQfull kind h s).pending = s.pending ∧
      (requestQfull kind h s).hlk.queue = s.hlk.queue ∧
      (requestQfull kind h s).hlk.resetPending = s.hlk.resetPending ∧
      (requestQfull kind h s).hlk.rx = s.hlk.rx ∧ (requestQfull kind h s).hlk.series = s.hlk.series ∧
      (requestQfull kind h s).hlk.held = s.hlk.held := by
  simp only [requestQfull]
  repeat' split
  all_goals simp

@[simp] theorem linkDone_frame (o : PassOutcome) (s : State) :
    (linkDone o s).time = s.time ∧ (linkDone o s).pth = s.pth ∧ (linkDone o s).chc = s.chc ∧
      (linkDone o s).bga = s.bga ∧ (linkDone o s).plc = s.plc ∧ (linkDone o s).hsi = s.hsi ∧
      (linkDone o s).psm = s.psm ∧ (linkDone o s).kbs = s.kbs ∧ (linkDone o s).thc = s.thc ∧
      (linkDone o s).swc = s.swc ∧ (linkDone o s).fsu = s.fsu ∧ (linkDone o s).sts = s.sts ∧
      (linkDone o s).pending = s.pending ∧ (linkDone o s).evr.routes = s.evr.routes ∧
      (linkDone o s).evr.button = s.evr.button ∧ (linkDone o s).evr.keys = s.evr.keys ∧
      (linkDone o s).evr.capture = s.evr.capture ∧ (linkDone o s).evr.fault = s.evr.fault ∧
      (linkDone o s).hlk.queue = s.hlk.queue ∧ (linkDone o s).hlk.resetPending = s.hlk.resetPending ∧
      (linkDone o s).hlk.rx = s.hlk.rx ∧ (linkDone o s).hlk.series = s.hlk.series ∧
      (linkDone o s).hlk.held = s.hlk.held := by
  simp only [linkDone]
  repeat' split
  all_goals simp

@[simp] theorem abandonCatch_frame (s : State) :
    (abandonCatch s).time = s.time ∧ (abandonCatch s).pth = s.pth ∧ (abandonCatch s).chc = s.chc ∧
      (abandonCatch s).bga = s.bga ∧ (abandonCatch s).hsi = s.hsi ∧ (abandonCatch s).psm = s.psm ∧
      (abandonCatch s).kbs = s.kbs ∧ (abandonCatch s).thc = s.thc ∧ (abandonCatch s).swc = s.swc ∧
      (abandonCatch s).fsu = s.fsu ∧ (abandonCatch s).sts = s.sts ∧ (abandonCatch s).pending = s.pending ∧
      (abandonCatch s).plc.devices = s.plc.devices ∧ (abandonCatch s).plc.pass = s.plc.pass ∧
      (abandonCatch s).plc.asked = s.plc.asked ∧ (abandonCatch s).evr.routes = s.evr.routes ∧
      (abandonCatch s).evr.button = s.evr.button ∧ (abandonCatch s).evr.keys = s.evr.keys ∧
      (abandonCatch s).evr.capture = s.evr.capture ∧ (abandonCatch s).evr.fault = s.evr.fault ∧
      (abandonCatch s).hlk.queue = s.hlk.queue ∧ (abandonCatch s).hlk.resetPending = s.hlk.resetPending ∧
      (abandonCatch s).hlk.rx = s.hlk.rx ∧ (abandonCatch s).hlk.series = s.hlk.series ∧
      (abandonCatch s).hlk.held = s.hlk.held := by
  simp only [abandonCatch]
  repeat' split
  all_goals simp

@[simp] theorem dropCatch_frame (j : Job) (s : State) :
    (dropCatch j s).time = s.time ∧ (dropCatch j s).pth = s.pth ∧ (dropCatch j s).bga = s.bga ∧
      (dropCatch j s).hsi = s.hsi ∧ (dropCatch j s).psm = s.psm ∧ (dropCatch j s).kbs = s.kbs ∧
      (dropCatch j s).thc = s.thc ∧ (dropCatch j s).swc = s.swc ∧ (dropCatch j s).fsu = s.fsu ∧
      (dropCatch j s).sts = s.sts ∧ (dropCatch j s).pending = s.pending ∧
      (dropCatch j s).chc.order = s.chc.order ∧ (dropCatch j s).chc.threshold = s.chc.threshold ∧
      (dropCatch j s).chc.openRow = s.chc.openRow ∧ (dropCatch j s).chc.latches = s.chc.latches ∧
      (dropCatch j s).chc.table = s.chc.table ∧ (dropCatch j s).plc.devices = s.plc.devices ∧
      (dropCatch j s).plc.pass = s.plc.pass ∧ (dropCatch j s).plc.asked = s.plc.asked ∧
      (dropCatch j s).evr.routes = s.evr.routes ∧ (dropCatch j s).evr.button = s.evr.button ∧
      (dropCatch j s).evr.keys = s.evr.keys ∧ (dropCatch j s).evr.capture = s.evr.capture ∧
      (dropCatch j s).evr.fault = s.evr.fault ∧ (dropCatch j s).hlk.queue = s.hlk.queue ∧
      (dropCatch j s).hlk.resetPending = s.hlk.resetPending ∧ (dropCatch j s).hlk.rx = s.hlk.rx ∧
      (dropCatch j s).hlk.series = s.hlk.series ∧ (dropCatch j s).hlk.held = s.hlk.held := by
  simp only [dropCatch]
  repeat' split
  all_goals simp

@[simp] theorem raiseJobState_frame (j : Job) (st : JobState) (cause : Part) (s : State) :
    (raiseJobState j st cause s).time = s.time ∧ (raiseJobState j st cause s).pth = s.pth ∧
      (raiseJobState j st cause s).chc = s.chc ∧ (raiseJobState j st cause s).bga = s.bga ∧
      (raiseJobState j st cause s).plc = s.plc ∧ (raiseJobState j st cause s).hsi = s.hsi ∧
      (raiseJobState j st cause s).psm = s.psm ∧ (raiseJobState j st cause s).kbs = s.kbs ∧
      (raiseJobState j st cause s).thc = s.thc ∧ (raiseJobState j st cause s).swc = s.swc ∧
      (raiseJobState j st cause s).fsu = s.fsu ∧ (raiseJobState j st cause s).sts = s.sts ∧
      (raiseJobState j st cause s).pending = s.pending ∧
      (raiseJobState j st cause s).evr.routes = s.evr.routes ∧
      (raiseJobState j st cause s).evr.button = s.evr.button ∧
      (raiseJobState j st cause s).evr.keys = s.evr.keys ∧
      (raiseJobState j st cause s).evr.capture = s.evr.capture ∧
      (raiseJobState j st cause s).evr.fault = s.evr.fault ∧
      (raiseJobState j st cause s).hlk.queue = s.hlk.queue ∧
      (raiseJobState j st cause s).hlk.resetPending = s.hlk.resetPending ∧
      (raiseJobState j st cause s).hlk.rx = s.hlk.rx ∧ (raiseJobState j st cause s).hlk.series = s.hlk.series ∧
      (raiseJobState j st cause s).hlk.held = s.hlk.held := by
  simp only [raiseJobState]
  repeat' split
  all_goals simp

@[simp] theorem enterQuiescing_frame (j : Job) (d : Destination) (c : Cause) (s : State) :
    (enterQuiescing j d c s).time = s.time ∧ (enterQuiescing j d c s).pth = s.pth ∧
      (enterQuiescing j d c s).chc = s.chc ∧ (enterQuiescing j d c s).bga = s.bga ∧
      (enterQuiescing j d c s).plc = s.plc ∧ (enterQuiescing j d c s).hsi = s.hsi ∧
      (enterQuiescing j d c s).psm = s.psm ∧ (enterQuiescing j d c s).kbs = s.kbs ∧
      (enterQuiescing j d c s).thc = s.thc ∧ (enterQuiescing j d c s).swc = s.swc ∧
      (enterQuiescing j d c s).evr = s.evr ∧ (enterQuiescing j d c s).hlk = s.hlk ∧
      (enterQuiescing j d c s).sts = s.sts ∧ (enterQuiescing j d c s).pending = s.pending ∧
      (enterQuiescing j d c s).fsu.table = s.fsu.table := by
  simp only [enterQuiescing]
  repeat' split
  all_goals simp

@[simp] theorem arrive_frame (j : Job) (d : Destination) (s : State) :
    (arrive j d s).time = s.time ∧ (arrive j d s).pth = s.pth ∧ (arrive j d s).bga = s.bga ∧
      (arrive j d s).hsi = s.hsi ∧ (arrive j d s).psm = s.psm ∧ (arrive j d s).kbs = s.kbs ∧
      (arrive j d s).thc = s.thc ∧ (arrive j d s).swc = s.swc ∧ (arrive j d s).sts = s.sts ∧
      (arrive j d s).pending = s.pending ∧ (arrive j d s).chc.order = s.chc.order ∧
      (arrive j d s).chc.threshold = s.chc.threshold ∧ (arrive j d s).chc.openRow = s.chc.openRow ∧
      (arrive j d s).chc.latches = s.chc.latches ∧ (arrive j d s).chc.table = s.chc.table ∧
      (arrive j d s).plc.devices = s.plc.devices ∧ (arrive j d s).plc.pass = s.plc.pass ∧
      (arrive j d s).plc.asked = s.plc.asked ∧ (arrive j d s).fsu.table = s.fsu.table ∧
      (arrive j d s).evr.routes = s.evr.routes ∧ (arrive j d s).evr.button = s.evr.button ∧
      (arrive j d s).evr.keys = s.evr.keys ∧ (arrive j d s).evr.capture = s.evr.capture ∧
      (arrive j d s).evr.fault = s.evr.fault ∧ (arrive j d s).hlk.queue = s.hlk.queue ∧
      (arrive j d s).hlk.resetPending = s.hlk.resetPending ∧ (arrive j d s).hlk.rx = s.hlk.rx ∧
      (arrive j d s).hlk.series = s.hlk.series ∧ (arrive j d s).hlk.held = s.hlk.held := by
  simp only [arrive]
  repeat' split
  all_goals simp

@[simp] theorem memberDone_frame (j : Job) (m : Member) (s : State) :
    (memberDone j m s).time = s.time ∧ (memberDone j m s).pth = s.pth ∧ (memberDone j m s).bga = s.bga ∧
      (memberDone j m s).hsi = s.hsi ∧ (memberDone j m s).psm = s.psm ∧ (memberDone j m s).kbs = s.kbs ∧
      (memberDone j m s).thc = s.thc ∧ (memberDone j m s).swc = s.swc ∧ (memberDone j m s).sts = s.sts ∧
      (memberDone j m s).pending = s.pending ∧ (memberDone j m s).chc.order = s.chc.order ∧
      (memberDone j m s).chc.threshold = s.chc.threshold ∧ (memberDone j m s).chc.openRow = s.chc.openRow ∧
      (memberDone j m s).chc.latches = s.chc.latches ∧ (memberDone j m s).chc.table = s.chc.table ∧
      (memberDone j m s).plc.devices = s.plc.devices ∧ (memberDone j m s).plc.pass = s.plc.pass ∧
      (memberDone j m s).plc.asked = s.plc.asked ∧ (memberDone j m s).fsu.table = s.fsu.table ∧
      (memberDone j m s).evr.routes = s.evr.routes ∧ (memberDone j m s).evr.button = s.evr.button ∧
      (memberDone j m s).evr.keys = s.evr.keys ∧ (memberDone j m s).evr.capture = s.evr.capture ∧
      (memberDone j m s).evr.fault = s.evr.fault ∧ (memberDone j m s).hlk.queue = s.hlk.queue ∧
      (memberDone j m s).hlk.resetPending = s.hlk.resetPending ∧ (memberDone j m s).hlk.rx = s.hlk.rx ∧
      (memberDone j m s).hlk.series = s.hlk.series ∧ (memberDone j m s).hlk.held = s.hlk.held := by
  simp only [memberDone]
  repeat' split
  all_goals simp

@[simp] theorem haltedToOff_frame (j : Job) (c : Cause) (s : State) :
    (haltedToOff j c s).time = s.time ∧ (haltedToOff j c s).pth = s.pth ∧ (haltedToOff j c s).bga = s.bga ∧
      (haltedToOff j c s).hsi = s.hsi ∧ (haltedToOff j c s).psm = s.psm ∧ (haltedToOff j c s).kbs = s.kbs ∧
      (haltedToOff j c s).thc = s.thc ∧ (haltedToOff j c s).swc = s.swc ∧ (haltedToOff j c s).sts = s.sts ∧
      (haltedToOff j c s).pending = s.pending ∧ (haltedToOff j c s).chc.order = s.chc.order ∧
      (haltedToOff j c s).chc.threshold = s.chc.threshold ∧ (haltedToOff j c s).chc.openRow = s.chc.openRow ∧
      (haltedToOff j c s).chc.latches = s.chc.latches ∧ (haltedToOff j c s).chc.table = s.chc.table ∧
      (haltedToOff j c s).plc.devices = s.plc.devices ∧ (haltedToOff j c s).plc.pass = s.plc.pass ∧
      (haltedToOff j c s).plc.asked = s.plc.asked ∧ (haltedToOff j c s).fsu.table = s.fsu.table ∧
      (haltedToOff j c s).evr.routes = s.evr.routes ∧ (haltedToOff j c s).evr.button = s.evr.button ∧
      (haltedToOff j c s).evr.keys = s.evr.keys ∧ (haltedToOff j c s).evr.capture = s.evr.capture ∧
      (haltedToOff j c s).evr.fault = s.evr.fault ∧ (haltedToOff j c s).hlk.queue = s.hlk.queue ∧
      (haltedToOff j c s).hlk.resetPending = s.hlk.resetPending ∧ (haltedToOff j c s).hlk.rx = s.hlk.rx ∧
      (haltedToOff j c s).hlk.series = s.hlk.series ∧ (haltedToOff j c s).hlk.held = s.hlk.held := by
  simp only [haltedToOff]
  repeat' split
  all_goals simp

@[simp] theorem actOnJob_frame (c : FaultCode) (s : State) :
    (actOnJob c s).time = s.time ∧ (actOnJob c s).pth = s.pth ∧ (actOnJob c s).bga = s.bga ∧
      (actOnJob c s).hsi = s.hsi ∧ (actOnJob c s).psm = s.psm ∧ (actOnJob c s).kbs = s.kbs ∧
      (actOnJob c s).thc = s.thc ∧ (actOnJob c s).swc = s.swc ∧ (actOnJob c s).sts = s.sts ∧
      (actOnJob c s).pending = s.pending ∧ (actOnJob c s).chc.order = s.chc.order ∧
      (actOnJob c s).chc.threshold = s.chc.threshold ∧ (actOnJob c s).chc.openRow = s.chc.openRow ∧
      (actOnJob c s).chc.latches = s.chc.latches ∧ (actOnJob c s).chc.table = s.chc.table ∧
      (actOnJob c s).plc.devices = s.plc.devices ∧ (actOnJob c s).plc.pass = s.plc.pass ∧
      (actOnJob c s).plc.asked = s.plc.asked ∧ (actOnJob c s).fsu.table = s.fsu.table ∧
      (actOnJob c s).evr.routes = s.evr.routes ∧ (actOnJob c s).evr.button = s.evr.button ∧
      (actOnJob c s).evr.keys = s.evr.keys ∧ (actOnJob c s).evr.capture = s.evr.capture ∧
      (actOnJob c s).evr.fault = s.evr.fault ∧ (actOnJob c s).hlk.queue = s.hlk.queue ∧
      (actOnJob c s).hlk.resetPending = s.hlk.resetPending ∧ (actOnJob c s).hlk.rx = s.hlk.rx ∧
      (actOnJob c s).hlk.series = s.hlk.series ∧ (actOnJob c s).hlk.held = s.hlk.held := by
  simp only [actOnJob]
  repeat' split
  all_goals simp

@[simp] theorem occur_frame (c : FaultCode) (d : Detail) (s : State) :
    (occur c d s).time = s.time ∧ (occur c d s).pth = s.pth ∧ (occur c d s).bga = s.bga ∧
      (occur c d s).hsi = s.hsi ∧ (occur c d s).psm = s.psm ∧ (occur c d s).kbs = s.kbs ∧
      (occur c d s).thc = s.thc ∧ (occur c d s).swc = s.swc ∧ (occur c d s).sts = s.sts ∧
      (occur c d s).pending = s.pending ∧ (occur c d s).chc.order = s.chc.order ∧
      (occur c d s).chc.threshold = s.chc.threshold ∧ (occur c d s).chc.openRow = s.chc.openRow ∧
      (occur c d s).chc.latches = s.chc.latches ∧ (occur c d s).chc.table = s.chc.table ∧
      (occur c d s).plc.devices = s.plc.devices ∧ (occur c d s).plc.pass = s.plc.pass ∧
      (occur c d s).plc.asked = s.plc.asked ∧ (occur c d s).evr.routes = s.evr.routes ∧
      (occur c d s).hlk.queue = s.hlk.queue ∧ (occur c d s).hlk.resetPending = s.hlk.resetPending ∧
      (occur c d s).hlk.rx = s.hlk.rx ∧ (occur c d s).hlk.series = s.hlk.series ∧
      (occur c d s).hlk.held = s.hlk.held := by
  simp only [occur]
  repeat' split
  all_goals simp

@[simp] theorem enterRun_frame (j : Job) (s : State) :
    (enterRun j s).time = s.time ∧ (enterRun j s).pth = s.pth ∧ (enterRun j s).chc = s.chc ∧
      (enterRun j s).bga = s.bga ∧ (enterRun j s).plc = s.plc ∧ (enterRun j s).hsi = s.hsi ∧
      (enterRun j s).psm = s.psm ∧ (enterRun j s).kbs = s.kbs ∧ (enterRun j s).thc = s.thc ∧
      (enterRun j s).swc = s.swc ∧ (enterRun j s).evr = s.evr ∧ (enterRun j s).hlk = s.hlk ∧
      (enterRun j s).sts = s.sts ∧ (enterRun j s).pending = s.pending ∧ (enterRun j s).fsu.table = s.fsu.table := by
  simp only [enterRun]
  repeat' split
  all_goals simp

@[simp] theorem queueKey_frame (e : KeyEvent) (s : State) :
    (queueKey e s).time = s.time ∧ (queueKey e s).pth = s.pth ∧ (queueKey e s).chc = s.chc ∧
      (queueKey e s).bga = s.bga ∧ (queueKey e s).plc = s.plc ∧ (queueKey e s).hsi = s.hsi ∧
      (queueKey e s).psm = s.psm ∧ (queueKey e s).thc = s.thc ∧ (queueKey e s).swc = s.swc ∧
      (queueKey e s).fsu = s.fsu ∧ (queueKey e s).sts = s.sts ∧ (queueKey e s).pending = s.pending ∧
      (queueKey e s).kbs.settings = s.kbs.settings ∧ (queueKey e s).evr.routes = s.evr.routes ∧
      (queueKey e s).hlk.queue = s.hlk.queue ∧ (queueKey e s).hlk.resetPending = s.hlk.resetPending ∧
      (queueKey e s).hlk.rx = s.hlk.rx ∧ (queueKey e s).hlk.series = s.hlk.series ∧
      (queueKey e s).hlk.held = s.hlk.held := by
  simp only [queueKey]
  repeat' split
  all_goals simp

@[simp] theorem releaseHeld_frame (es : List KeyEntry) (n : Nat) (s : State) :
    (releaseHeld es n s).time = s.time ∧ (releaseHeld es n s).pth = s.pth ∧ (releaseHeld es n s).chc = s.chc ∧
      (releaseHeld es n s).bga = s.bga ∧ (releaseHeld es n s).plc = s.plc ∧ (releaseHeld es n s).hsi = s.hsi ∧
      (releaseHeld es n s).psm = s.psm ∧ (releaseHeld es n s).thc = s.thc ∧ (releaseHeld es n s).swc = s.swc ∧
      (releaseHeld es n s).fsu = s.fsu ∧ (releaseHeld es n s).sts = s.sts ∧
      (releaseHeld es n s).pending = s.pending ∧ (releaseHeld es n s).kbs.settings = s.kbs.settings ∧
      (releaseHeld es n s).evr.routes = s.evr.routes ∧ (releaseHeld es n s).hlk.queue = s.hlk.queue ∧
      (releaseHeld es n s).hlk.resetPending = s.hlk.resetPending ∧ (releaseHeld es n s).hlk.rx = s.hlk.rx ∧
      (releaseHeld es n s).hlk.series = s.hlk.series ∧ (releaseHeld es n s).hlk.held = s.hlk.held := by
  induction es generalizing n s with
  | nil => simp [releaseHeld]
  | cons e es ih =>
    simp only [releaseHeld, ih]
    split <;> simp

@[simp] theorem enterSuppressed_frame (s : State) :
    (enterSuppressed s).time = s.time ∧ (enterSuppressed s).pth = s.pth ∧ (enterSuppressed s).chc = s.chc ∧
      (enterSuppressed s).bga = s.bga ∧ (enterSuppressed s).plc = s.plc ∧ (enterSuppressed s).hsi = s.hsi ∧
      (enterSuppressed s).psm = s.psm ∧ (enterSuppressed s).thc = s.thc ∧ (enterSuppressed s).swc = s.swc ∧
      (enterSuppressed s).fsu = s.fsu ∧ (enterSuppressed s).sts = s.sts ∧
      (enterSuppressed s).pending = s.pending ∧ (enterSuppressed s).kbs.settings = s.kbs.settings ∧
      (enterSuppressed s).evr.routes = s.evr.routes ∧ (enterSuppressed s).hlk.queue = s.hlk.queue ∧
      (enterSuppressed s).hlk.resetPending = s.hlk.resetPending ∧ (enterSuppressed s).hlk.rx = s.hlk.rx ∧
      (enterSuppressed s).hlk.series = s.hlk.series ∧ (enterSuppressed s).hlk.held = s.hlk.held := by
  simp only [enterSuppressed]
  repeat' split
  all_goals simp

@[simp] theorem deriveScanMode_frame (s : State) :
    (deriveScanMode s).time = s.time ∧ (deriveScanMode s).pth = s.pth ∧ (deriveScanMode s).chc = s.chc ∧
      (deriveScanMode s).bga = s.bga ∧ (deriveScanMode s).plc = s.plc ∧ (deriveScanMode s).hsi = s.hsi ∧
      (deriveScanMode s).psm = s.psm ∧ (deriveScanMode s).thc = s.thc ∧ (deriveScanMode s).swc = s.swc ∧
      (deriveScanMode s).fsu = s.fsu ∧ (deriveScanMode s).sts = s.sts ∧ (deriveScanMode s).pending = s.pending ∧
      (deriveScanMode s).kbs.settings = s.kbs.settings ∧ (deriveScanMode s).evr.routes = s.evr.routes ∧
      (deriveScanMode s).hlk.queue = s.hlk.queue ∧ (deriveScanMode s).hlk.resetPending = s.hlk.resetPending ∧
      (deriveScanMode s).hlk.rx = s.hlk.rx ∧ (deriveScanMode s).hlk.series = s.hlk.series ∧
      (deriveScanMode s).hlk.held = s.hlk.held := by
  simp only [deriveScanMode]
  repeat' split
  all_goals simp

@[simp] theorem quiesceKeys_frame (s : State) :
    (quiesceKeys s).time = s.time ∧ (quiesceKeys s).pth = s.pth ∧ (quiesceKeys s).bga = s.bga ∧
      (quiesceKeys s).hsi = s.hsi ∧ (quiesceKeys s).psm = s.psm ∧ (quiesceKeys s).thc = s.thc ∧
      (quiesceKeys s).swc = s.swc ∧ (quiesceKeys s).sts = s.sts ∧ (quiesceKeys s).pending = s.pending ∧
      (quiesceKeys s).chc.order = s.chc.order ∧ (quiesceKeys s).chc.threshold = s.chc.threshold ∧
      (quiesceKeys s).chc.openRow = s.chc.openRow ∧ (quiesceKeys s).chc.latches = s.chc.latches ∧
      (quiesceKeys s).chc.table = s.chc.table ∧ (quiesceKeys s).plc.devices = s.plc.devices ∧
      (quiesceKeys s).plc.pass = s.plc.pass ∧ (quiesceKeys s).plc.asked = s.plc.asked ∧
      (quiesceKeys s).kbs.settings = s.kbs.settings ∧ (quiesceKeys s).fsu.table = s.fsu.table ∧
      (quiesceKeys s).evr.routes = s.evr.routes ∧ (quiesceKeys s).hlk.queue = s.hlk.queue ∧
      (quiesceKeys s).hlk.resetPending = s.hlk.resetPending ∧ (quiesceKeys s).hlk.rx = s.hlk.rx ∧
      (quiesceKeys s).hlk.series = s.hlk.series ∧ (quiesceKeys s).hlk.held = s.hlk.held := by
  simp only [quiesceKeys]
  repeat' split
  all_goals simp

@[simp] theorem returnKeys_frame (fromOff : Bool) (s : State) :
    (returnKeys fromOff s).time = s.time ∧ (returnKeys fromOff s).pth = s.pth ∧
      (returnKeys fromOff s).chc = s.chc ∧ (returnKeys fromOff s).bga = s.bga ∧
      (returnKeys fromOff s).plc = s.plc ∧ (returnKeys fromOff s).hsi = s.hsi ∧
      (returnKeys fromOff s).psm = s.psm ∧ (returnKeys fromOff s).thc = s.thc ∧
      (returnKeys fromOff s).swc = s.swc ∧ (returnKeys fromOff s).fsu = s.fsu ∧
      (returnKeys fromOff s).sts = s.sts ∧ (returnKeys fromOff s).pending = s.pending ∧
      (returnKeys fromOff s).kbs.settings = s.kbs.settings ∧ (returnKeys fromOff s).evr.routes = s.evr.routes ∧
      (returnKeys fromOff s).hlk.queue = s.hlk.queue ∧
      (returnKeys fromOff s).hlk.resetPending = s.hlk.resetPending ∧ (returnKeys fromOff s).hlk.rx = s.hlk.rx ∧
      (returnKeys fromOff s).hlk.series = s.hlk.series ∧ (returnKeys fromOff s).hlk.held = s.hlk.held := by
  simp only [returnKeys]
  repeat' split
  all_goals simp

@[simp] theorem deriveFan_frame (f : Fan) (s : State) :
    (deriveFan f s).time = s.time ∧ (deriveFan f s).pth = s.pth ∧ (deriveFan f s).chc = s.chc ∧
      (deriveFan f s).bga = s.bga ∧ (deriveFan f s).plc = s.plc ∧ (deriveFan f s).hsi = s.hsi ∧
      (deriveFan f s).psm = s.psm ∧ (deriveFan f s).kbs = s.kbs ∧ (deriveFan f s).swc = s.swc ∧
      (deriveFan f s).fsu = s.fsu ∧ (deriveFan f s).evr = s.evr ∧ (deriveFan f s).hlk = s.hlk ∧
      (deriveFan f s).sts = s.sts ∧ (deriveFan f s).pending = s.pending ∧
      (deriveFan f s).thc.holds = s.thc.holds ∧ (deriveFan f s).thc.inputs = s.thc.inputs ∧
      (deriveFan f s).thc.floor = s.thc.floor ∧ (deriveFan f s).thc.trip = s.thc.trip ∧
      (deriveFan f s).thc.curves = s.thc.curves := by
  simp only [deriveFan]
  repeat' split
  all_goals simp

@[simp] theorem deriveFans_frame (s : State) :
    (deriveFans s).time = s.time ∧ (deriveFans s).pth = s.pth ∧ (deriveFans s).chc = s.chc ∧
      (deriveFans s).bga = s.bga ∧ (deriveFans s).plc = s.plc ∧ (deriveFans s).hsi = s.hsi ∧
      (deriveFans s).psm = s.psm ∧ (deriveFans s).kbs = s.kbs ∧ (deriveFans s).swc = s.swc ∧
      (deriveFans s).fsu = s.fsu ∧ (deriveFans s).evr = s.evr ∧ (deriveFans s).hlk = s.hlk ∧
      (deriveFans s).sts = s.sts ∧ (deriveFans s).pending = s.pending ∧ (deriveFans s).thc.holds = s.thc.holds ∧
      (deriveFans s).thc.inputs = s.thc.inputs ∧ (deriveFans s).thc.floor = s.thc.floor ∧
      (deriveFans s).thc.trip = s.thc.trip ∧ (deriveFans s).thc.curves = s.thc.curves := by
  simp only [deriveFans]
  repeat' split
  all_goals simp

@[simp] theorem setDerate_frame (d : Derate) (s : State) :
    (setDerate d s).time = s.time ∧ (setDerate d s).pth = s.pth ∧ (setDerate d s).chc = s.chc ∧
      (setDerate d s).bga = s.bga ∧ (setDerate d s).plc = s.plc ∧ (setDerate d s).hsi = s.hsi ∧
      (setDerate d s).psm = s.psm ∧ (setDerate d s).kbs = s.kbs ∧ (setDerate d s).swc = s.swc ∧
      (setDerate d s).fsu = s.fsu ∧ (setDerate d s).evr = s.evr ∧ (setDerate d s).hlk = s.hlk ∧
      (setDerate d s).sts = s.sts ∧ (setDerate d s).pending = s.pending ∧
      (setDerate d s).thc.holds = s.thc.holds ∧ (setDerate d s).thc.inputs = s.thc.inputs ∧
      (setDerate d s).thc.floor = s.thc.floor ∧ (setDerate d s).thc.trip = s.thc.trip ∧
      (setDerate d s).thc.curves = s.thc.curves := by
  simp only [setDerate]
  repeat' split
  all_goals simp

@[simp] theorem warnCheck_frame (i : ThermalInput) (s : State) :
    (warnCheck i s).time = s.time ∧ (warnCheck i s).pth = s.pth ∧ (warnCheck i s).chc = s.chc ∧
      (warnCheck i s).bga = s.bga ∧ (warnCheck i s).plc = s.plc ∧ (warnCheck i s).hsi = s.hsi ∧
      (warnCheck i s).psm = s.psm ∧ (warnCheck i s).kbs = s.kbs ∧ (warnCheck i s).swc = s.swc ∧
      (warnCheck i s).fsu = s.fsu ∧ (warnCheck i s).sts = s.sts ∧ (warnCheck i s).pending = s.pending ∧
      (warnCheck i s).thc.holds = s.thc.holds ∧ (warnCheck i s).thc.floor = s.thc.floor ∧
      (warnCheck i s).thc.trip = s.thc.trip ∧ (warnCheck i s).thc.curves = s.thc.curves ∧
      (warnCheck i s).evr.routes = s.evr.routes ∧ (warnCheck i s).evr.button = s.evr.button ∧
      (warnCheck i s).evr.keys = s.evr.keys ∧ (warnCheck i s).evr.capture = s.evr.capture ∧
      (warnCheck i s).evr.fault = s.evr.fault ∧ (warnCheck i s).hlk.queue = s.hlk.queue ∧
      (warnCheck i s).hlk.resetPending = s.hlk.resetPending ∧ (warnCheck i s).hlk.rx = s.hlk.rx ∧
      (warnCheck i s).hlk.series = s.hlk.series ∧ (warnCheck i s).hlk.held = s.hlk.held := by
  simp only [warnCheck]
  repeat' split
  all_goals simp

@[simp] theorem loseInput_frame (i : ThermalInput) (s : State) :
    (loseInput i s).time = s.time ∧ (loseInput i s).pth = s.pth ∧ (loseInput i s).chc = s.chc ∧
      (loseInput i s).bga = s.bga ∧ (loseInput i s).plc = s.plc ∧ (loseInput i s).hsi = s.hsi ∧
      (loseInput i s).psm = s.psm ∧ (loseInput i s).kbs = s.kbs ∧ (loseInput i s).swc = s.swc ∧
      (loseInput i s).fsu = s.fsu ∧ (loseInput i s).evr = s.evr ∧ (loseInput i s).hlk = s.hlk ∧
      (loseInput i s).sts = s.sts ∧ (loseInput i s).pending = s.pending ∧
      (loseInput i s).thc.holds = s.thc.holds ∧ (loseInput i s).thc.floor = s.thc.floor ∧
      (loseInput i s).thc.trip = s.thc.trip ∧ (loseInput i s).thc.curves = s.thc.curves := by
  simp only [loseInput]
  repeat' split
  all_goals simp

@[simp] theorem quiesceThermal_frame (s : State) :
    (quiesceThermal s).time = s.time ∧ (quiesceThermal s).pth = s.pth ∧ (quiesceThermal s).bga = s.bga ∧
      (quiesceThermal s).hsi = s.hsi ∧ (quiesceThermal s).psm = s.psm ∧ (quiesceThermal s).kbs = s.kbs ∧
      (quiesceThermal s).swc = s.swc ∧ (quiesceThermal s).sts = s.sts ∧ (quiesceThermal s).pending = s.pending ∧
      (quiesceThermal s).chc.order = s.chc.order ∧ (quiesceThermal s).chc.threshold = s.chc.threshold ∧
      (quiesceThermal s).chc.openRow = s.chc.openRow ∧ (quiesceThermal s).chc.latches = s.chc.latches ∧
      (quiesceThermal s).chc.table = s.chc.table ∧ (quiesceThermal s).plc.devices = s.plc.devices ∧
      (quiesceThermal s).plc.pass = s.plc.pass ∧ (quiesceThermal s).plc.asked = s.plc.asked ∧
      (quiesceThermal s).thc.holds = s.thc.holds ∧ (quiesceThermal s).thc.inputs = s.thc.inputs ∧
      (quiesceThermal s).thc.floor = s.thc.floor ∧ (quiesceThermal s).thc.trip = s.thc.trip ∧
      (quiesceThermal s).thc.curves = s.thc.curves ∧ (quiesceThermal s).fsu.table = s.fsu.table ∧
      (quiesceThermal s).evr.routes = s.evr.routes ∧ (quiesceThermal s).evr.button = s.evr.button ∧
      (quiesceThermal s).evr.keys = s.evr.keys ∧ (quiesceThermal s).evr.capture = s.evr.capture ∧
      (quiesceThermal s).evr.fault = s.evr.fault ∧ (quiesceThermal s).hlk.queue = s.hlk.queue ∧
      (quiesceThermal s).hlk.resetPending = s.hlk.resetPending ∧ (quiesceThermal s).hlk.rx = s.hlk.rx ∧
      (quiesceThermal s).hlk.series = s.hlk.series ∧ (quiesceThermal s).hlk.held = s.hlk.held := by
  simp only [quiesceThermal]
  repeat' split
  all_goals simp

@[simp] theorem returnThermal_frame (fromOff : Bool) (s : State) :
    (returnThermal fromOff s).time = s.time ∧ (returnThermal fromOff s).pth = s.pth ∧
      (returnThermal fromOff s).chc = s.chc ∧ (returnThermal fromOff s).bga = s.bga ∧
      (returnThermal fromOff s).plc = s.plc ∧ (returnThermal fromOff s).hsi = s.hsi ∧
      (returnThermal fromOff s).psm = s.psm ∧ (returnThermal fromOff s).kbs = s.kbs ∧
      (returnThermal fromOff s).swc = s.swc ∧ (returnThermal fromOff s).fsu = s.fsu ∧
      (returnThermal fromOff s).evr = s.evr ∧ (returnThermal fromOff s).hlk = s.hlk ∧
      (returnThermal fromOff s).sts = s.sts ∧ (returnThermal fromOff s).pending = s.pending ∧
      (returnThermal fromOff s).thc.inputs = s.thc.inputs ∧ (returnThermal fromOff s).thc.floor = s.thc.floor ∧
      (returnThermal fromOff s).thc.trip = s.thc.trip ∧ (returnThermal fromOff s).thc.curves = s.thc.curves := by
  simp only [returnThermal]
  repeat' split
  all_goals simp

@[simp] theorem platformToThermal_frame (before : Platform) (s : State) :
    (platformToThermal before s).time = s.time ∧ (platformToThermal before s).pth = s.pth ∧
      (platformToThermal before s).chc = s.chc ∧ (platformToThermal before s).bga = s.bga ∧
      (platformToThermal before s).plc = s.plc ∧ (platformToThermal before s).hsi = s.hsi ∧
      (platformToThermal before s).psm = s.psm ∧ (platformToThermal before s).kbs = s.kbs ∧
      (platformToThermal before s).swc = s.swc ∧ (platformToThermal before s).fsu = s.fsu ∧
      (platformToThermal before s).evr = s.evr ∧ (platformToThermal before s).hlk = s.hlk ∧
      (platformToThermal before s).sts = s.sts ∧ (platformToThermal before s).pending = s.pending ∧
      (platformToThermal before s).thc.holds = s.thc.holds ∧
      (platformToThermal before s).thc.inputs = s.thc.inputs ∧
      (platformToThermal before s).thc.floor = s.thc.floor ∧
      (platformToThermal before s).thc.trip = s.thc.trip ∧
      (platformToThermal before s).thc.curves = s.thc.curves := by
  simp only [platformToThermal]
  repeat' split
  all_goals simp

@[simp] theorem State.setDevice_frame (s : State) (entry : Nat) (d : LinkDevice) :
    (State.setDevice s entry d).time = s.time ∧ (State.setDevice s entry d).pth = s.pth ∧
      (State.setDevice s entry d).chc = s.chc ∧ (State.setDevice s entry d).bga = s.bga ∧
      (State.setDevice s entry d).hsi = s.hsi ∧ (State.setDevice s entry d).psm = s.psm ∧
      (State.setDevice s entry d).kbs = s.kbs ∧ (State.setDevice s entry d).thc = s.thc ∧
      (State.setDevice s entry d).swc = s.swc ∧ (State.setDevice s entry d).fsu = s.fsu ∧
      (State.setDevice s entry d).evr = s.evr ∧ (State.setDevice s entry d).hlk = s.hlk ∧
      (State.setDevice s entry d).sts = s.sts ∧ (State.setDevice s entry d).pending = s.pending ∧
      (State.setDevice s entry d).plc.pass = s.plc.pass ∧
      (State.setDevice s entry d).plc.caught = s.plc.caught ∧
      (State.setDevice s entry d).plc.result = s.plc.result ∧
      (State.setDevice s entry d).plc.asked = s.plc.asked := by
  simp only [State.setDevice]
  repeat' split
  all_goals simp

@[simp] theorem ripenPack_frame (p : PackId) (s : State) :
    (ripenPack p s).time = s.time ∧ (ripenPack p s).pth = s.pth ∧ (ripenPack p s).chc = s.chc ∧
      (ripenPack p s).bga = s.bga ∧ (ripenPack p s).hsi = s.hsi ∧ (ripenPack p s).psm = s.psm ∧
      (ripenPack p s).kbs = s.kbs ∧ (ripenPack p s).thc = s.thc ∧ (ripenPack p s).swc = s.swc ∧
      (ripenPack p s).fsu = s.fsu ∧ (ripenPack p s).evr = s.evr ∧ (ripenPack p s).hlk = s.hlk ∧
      (ripenPack p s).sts = s.sts ∧ (ripenPack p s).pending = s.pending ∧
      (ripenPack p s).plc.devices = s.plc.devices ∧ (ripenPack p s).plc.pass = s.plc.pass ∧
      (ripenPack p s).plc.caught = s.plc.caught ∧ (ripenPack p s).plc.result = s.plc.result ∧
      (ripenPack p s).plc.asked = s.plc.asked := by
  simp only [ripenPack]
  repeat' split
  all_goals simp

@[simp] theorem ripenSensor_frame (x : Sensor) (s : State) :
    (ripenSensor x s).time = s.time ∧ (ripenSensor x s).pth = s.pth ∧ (ripenSensor x s).chc = s.chc ∧
      (ripenSensor x s).bga = s.bga ∧ (ripenSensor x s).hsi = s.hsi ∧ (ripenSensor x s).psm = s.psm ∧
      (ripenSensor x s).kbs = s.kbs ∧ (ripenSensor x s).thc = s.thc ∧ (ripenSensor x s).swc = s.swc ∧
      (ripenSensor x s).fsu = s.fsu ∧ (ripenSensor x s).evr = s.evr ∧ (ripenSensor x s).hlk = s.hlk ∧
      (ripenSensor x s).sts = s.sts ∧ (ripenSensor x s).pending = s.pending ∧
      (ripenSensor x s).plc.devices = s.plc.devices ∧ (ripenSensor x s).plc.pass = s.plc.pass ∧
      (ripenSensor x s).plc.caught = s.plc.caught ∧ (ripenSensor x s).plc.result = s.plc.result ∧
      (ripenSensor x s).plc.asked = s.plc.asked := by
  simp only [ripenSensor]
  repeat' split
  all_goals simp

@[simp] theorem recomputePack_frame (p : PackId) (s : State) :
    (recomputePack p s).time = s.time ∧ (recomputePack p s).pth = s.pth ∧ (recomputePack p s).chc = s.chc ∧
      (recomputePack p s).bga = s.bga ∧ (recomputePack p s).hsi = s.hsi ∧ (recomputePack p s).psm = s.psm ∧
      (recomputePack p s).kbs = s.kbs ∧ (recomputePack p s).thc = s.thc ∧ (recomputePack p s).swc = s.swc ∧
      (recomputePack p s).fsu = s.fsu ∧ (recomputePack p s).evr = s.evr ∧ (recomputePack p s).hlk = s.hlk ∧
      (recomputePack p s).sts = s.sts ∧ (recomputePack p s).pending = s.pending ∧
      (recomputePack p s).plc.devices = s.plc.devices ∧ (recomputePack p s).plc.pass = s.plc.pass ∧
      (recomputePack p s).plc.caught = s.plc.caught ∧ (recomputePack p s).plc.result = s.plc.result ∧
      (recomputePack p s).plc.asked = s.plc.asked := by
  simp only [recomputePack]
  repeat' split
  all_goals simp

@[simp] theorem refreshDue_frame (s : State) :
    (refreshDue s).time = s.time ∧ (refreshDue s).pth = s.pth ∧ (refreshDue s).chc = s.chc ∧
      (refreshDue s).bga = s.bga ∧ (refreshDue s).hsi = s.hsi ∧ (refreshDue s).psm = s.psm ∧
      (refreshDue s).kbs = s.kbs ∧ (refreshDue s).thc = s.thc ∧ (refreshDue s).swc = s.swc ∧
      (refreshDue s).fsu = s.fsu ∧ (refreshDue s).evr = s.evr ∧ (refreshDue s).hlk = s.hlk ∧
      (refreshDue s).sts = s.sts ∧ (refreshDue s).pending = s.pending ∧
      (refreshDue s).plc.devices = s.plc.devices ∧ (refreshDue s).plc.pass = s.plc.pass ∧
      (refreshDue s).plc.caught = s.plc.caught ∧ (refreshDue s).plc.result = s.plc.result ∧
      (refreshDue s).plc.asked = s.plc.asked := by
  simp only [refreshDue]
  repeat' split
  all_goals simp

@[simp] theorem askSnapshot_frame (p : PackId) (s : State) :
    (askSnapshot p s).time = s.time ∧ (askSnapshot p s).pth = s.pth ∧ (askSnapshot p s).chc = s.chc ∧
      (askSnapshot p s).bga = s.bga ∧ (askSnapshot p s).hsi = s.hsi ∧ (askSnapshot p s).psm = s.psm ∧
      (askSnapshot p s).kbs = s.kbs ∧ (askSnapshot p s).thc = s.thc ∧ (askSnapshot p s).swc = s.swc ∧
      (askSnapshot p s).fsu = s.fsu ∧ (askSnapshot p s).evr = s.evr ∧ (askSnapshot p s).hlk = s.hlk ∧
      (askSnapshot p s).sts = s.sts ∧ (askSnapshot p s).pending = s.pending ∧
      (askSnapshot p s).plc.devices = s.plc.devices ∧ (askSnapshot p s).plc.pass = s.plc.pass ∧
      (askSnapshot p s).plc.caught = s.plc.caught ∧ (askSnapshot p s).plc.result = s.plc.result ∧
      (askSnapshot p s).plc.asked = s.plc.asked := by
  simp only [askSnapshot]
  repeat' split
  all_goals simp

@[simp] theorem askIdentity_frame (p : PackId) (s : State) :
    (askIdentity p s).time = s.time ∧ (askIdentity p s).pth = s.pth ∧ (askIdentity p s).chc = s.chc ∧
      (askIdentity p s).bga = s.bga ∧ (askIdentity p s).hsi = s.hsi ∧ (askIdentity p s).psm = s.psm ∧
      (askIdentity p s).kbs = s.kbs ∧ (askIdentity p s).thc = s.thc ∧ (askIdentity p s).swc = s.swc ∧
      (askIdentity p s).fsu = s.fsu ∧ (askIdentity p s).evr = s.evr ∧ (askIdentity p s).hlk = s.hlk ∧
      (askIdentity p s).sts = s.sts ∧ (askIdentity p s).pending = s.pending ∧
      (askIdentity p s).plc.devices = s.plc.devices ∧ (askIdentity p s).plc.pass = s.plc.pass ∧
      (askIdentity p s).plc.caught = s.plc.caught ∧ (askIdentity p s).plc.result = s.plc.result := by
  simp only [askIdentity]
  repeat' split
  all_goals simp

@[simp] theorem placeItem_frame (p : PackId) (todo : List SnapItem) (got : Snapshot) (s : State) :
    (placeItem p todo got s).time = s.time ∧ (placeItem p todo got s).pth = s.pth ∧
      (placeItem p todo got s).chc = s.chc ∧ (placeItem p todo got s).bga = s.bga ∧
      (placeItem p todo got s).hsi = s.hsi ∧ (placeItem p todo got s).psm = s.psm ∧
      (placeItem p todo got s).kbs = s.kbs ∧ (placeItem p todo got s).thc = s.thc ∧
      (placeItem p todo got s).swc = s.swc ∧ (placeItem p todo got s).fsu = s.fsu ∧
      (placeItem p todo got s).evr = s.evr ∧ (placeItem p todo got s).hlk = s.hlk ∧
      (placeItem p todo got s).sts = s.sts ∧ (placeItem p todo got s).pending = s.pending ∧
      (placeItem p todo got s).plc.devices = s.plc.devices ∧ (placeItem p todo got s).plc.pass = s.plc.pass ∧
      (placeItem p todo got s).plc.caught = s.plc.caught ∧ (placeItem p todo got s).plc.result = s.plc.result ∧
      (placeItem p todo got s).plc.asked = s.plc.asked := by
  simp only [placeItem]
  repeat' split
  all_goals simp

@[simp] theorem startSnapshot_frame (p : PackId) (s : State) :
    (startSnapshot p s).time = s.time ∧ (startSnapshot p s).pth = s.pth ∧ (startSnapshot p s).chc = s.chc ∧
      (startSnapshot p s).bga = s.bga ∧ (startSnapshot p s).hsi = s.hsi ∧ (startSnapshot p s).psm = s.psm ∧
      (startSnapshot p s).kbs = s.kbs ∧ (startSnapshot p s).thc = s.thc ∧ (startSnapshot p s).swc = s.swc ∧
      (startSnapshot p s).fsu = s.fsu ∧ (startSnapshot p s).evr = s.evr ∧ (startSnapshot p s).hlk = s.hlk ∧
      (startSnapshot p s).sts = s.sts ∧ (startSnapshot p s).pending = s.pending ∧
      (startSnapshot p s).plc.devices = s.plc.devices ∧ (startSnapshot p s).plc.pass = s.plc.pass ∧
      (startSnapshot p s).plc.caught = s.plc.caught ∧ (startSnapshot p s).plc.result = s.plc.result ∧
      (startSnapshot p s).plc.asked = s.plc.asked := by
  simp only [startSnapshot]
  repeat' split
  all_goals simp

@[simp] theorem startIdentity_frame (p : PackId) (s : State) :
    (startIdentity p s).time = s.time ∧ (startIdentity p s).pth = s.pth ∧ (startIdentity p s).chc = s.chc ∧
      (startIdentity p s).bga = s.bga ∧ (startIdentity p s).hsi = s.hsi ∧ (startIdentity p s).psm = s.psm ∧
      (startIdentity p s).kbs = s.kbs ∧ (startIdentity p s).thc = s.thc ∧ (startIdentity p s).swc = s.swc ∧
      (startIdentity p s).fsu = s.fsu ∧ (startIdentity p s).evr = s.evr ∧ (startIdentity p s).hlk = s.hlk ∧
      (startIdentity p s).sts = s.sts ∧ (startIdentity p s).pending = s.pending ∧
      (startIdentity p s).plc.devices = s.plc.devices ∧ (startIdentity p s).plc.pass = s.plc.pass ∧
      (startIdentity p s).plc.caught = s.plc.caught ∧ (startIdentity p s).plc.result = s.plc.result := by
  simp only [startIdentity]
  repeat' split
  all_goals simp

@[simp] theorem fillPackPoll_frame (s : State) :
    (fillPackPoll s).time = s.time ∧ (fillPackPoll s).pth = s.pth ∧ (fillPackPoll s).chc = s.chc ∧
      (fillPackPoll s).bga = s.bga ∧ (fillPackPoll s).hsi = s.hsi ∧ (fillPackPoll s).psm = s.psm ∧
      (fillPackPoll s).kbs = s.kbs ∧ (fillPackPoll s).thc = s.thc ∧ (fillPackPoll s).swc = s.swc ∧
      (fillPackPoll s).fsu = s.fsu ∧ (fillPackPoll s).evr = s.evr ∧ (fillPackPoll s).hlk = s.hlk ∧
      (fillPackPoll s).sts = s.sts ∧ (fillPackPoll s).pending = s.pending ∧
      (fillPackPoll s).plc.devices = s.plc.devices ∧ (fillPackPoll s).plc.pass = s.plc.pass ∧
      (fillPackPoll s).plc.caught = s.plc.caught ∧ (fillPackPoll s).plc.result = s.plc.result := by
  simp only [fillPackPoll]
  repeat' split
  all_goals simp

@[simp] theorem startSensor_frame (x : Sensor) (s : State) :
    (startSensor x s).time = s.time ∧ (startSensor x s).pth = s.pth ∧ (startSensor x s).chc = s.chc ∧
      (startSensor x s).bga = s.bga ∧ (startSensor x s).hsi = s.hsi ∧ (startSensor x s).psm = s.psm ∧
      (startSensor x s).kbs = s.kbs ∧ (startSensor x s).thc = s.thc ∧ (startSensor x s).swc = s.swc ∧
      (startSensor x s).fsu = s.fsu ∧ (startSensor x s).evr = s.evr ∧ (startSensor x s).hlk = s.hlk ∧
      (startSensor x s).sts = s.sts ∧ (startSensor x s).pending = s.pending ∧
      (startSensor x s).plc.devices = s.plc.devices ∧ (startSensor x s).plc.pass = s.plc.pass ∧
      (startSensor x s).plc.caught = s.plc.caught ∧ (startSensor x s).plc.result = s.plc.result ∧
      (startSensor x s).plc.asked = s.plc.asked := by
  simp only [startSensor]
  repeat' split
  all_goals simp

@[simp] theorem fillSensorPoll_frame (s : State) :
    (fillSensorPoll s).time = s.time ∧ (fillSensorPoll s).pth = s.pth ∧ (fillSensorPoll s).chc = s.chc ∧
      (fillSensorPoll s).bga = s.bga ∧ (fillSensorPoll s).hsi = s.hsi ∧ (fillSensorPoll s).psm = s.psm ∧
      (fillSensorPoll s).kbs = s.kbs ∧ (fillSensorPoll s).thc = s.thc ∧ (fillSensorPoll s).swc = s.swc ∧
      (fillSensorPoll s).fsu = s.fsu ∧ (fillSensorPoll s).evr = s.evr ∧ (fillSensorPoll s).hlk = s.hlk ∧
      (fillSensorPoll s).sts = s.sts ∧ (fillSensorPoll s).pending = s.pending ∧
      (fillSensorPoll s).plc.devices = s.plc.devices ∧ (fillSensorPoll s).plc.pass = s.plc.pass ∧
      (fillSensorPoll s).plc.caught = s.plc.caught ∧ (fillSensorPoll s).plc.result = s.plc.result ∧
      (fillSensorPoll s).plc.asked = s.plc.asked := by
  simp only [fillSensorPoll]
  repeat' split
  all_goals simp

@[simp] theorem startTxn_frame (c : Client) (t : Txn) (s : State) :
    (startTxn c t s).time = s.time ∧ (startTxn c t s).pth = s.pth ∧ (startTxn c t s).chc = s.chc ∧
      (startTxn c t s).bga = s.bga ∧ (startTxn c t s).hsi = s.hsi ∧ (startTxn c t s).psm = s.psm ∧
      (startTxn c t s).kbs = s.kbs ∧ (startTxn c t s).thc = s.thc ∧ (startTxn c t s).swc = s.swc ∧
      (startTxn c t s).fsu = s.fsu ∧ (startTxn c t s).evr = s.evr ∧ (startTxn c t s).hlk = s.hlk ∧
      (startTxn c t s).sts = s.sts ∧ (startTxn c t s).pending = s.pending ∧
      (startTxn c t s).plc.devices = s.plc.devices ∧ (startTxn c t s).plc.pass = s.plc.pass ∧
      (startTxn c t s).plc.caught = s.plc.caught ∧ (startTxn c t s).plc.result = s.plc.result ∧
      (startTxn c t s).plc.asked = s.plc.asked := by
  simp only [startTxn]
  repeat' split
  all_goals simp

@[simp] theorem arbitrate_frame (s : State) :
    (arbitrate s).time = s.time ∧ (arbitrate s).pth = s.pth ∧ (arbitrate s).chc = s.chc ∧
      (arbitrate s).bga = s.bga ∧ (arbitrate s).hsi = s.hsi ∧ (arbitrate s).psm = s.psm ∧
      (arbitrate s).kbs = s.kbs ∧ (arbitrate s).thc = s.thc ∧ (arbitrate s).swc = s.swc ∧
      (arbitrate s).fsu = s.fsu ∧ (arbitrate s).evr = s.evr ∧ (arbitrate s).hlk = s.hlk ∧
      (arbitrate s).sts = s.sts ∧ (arbitrate s).pending = s.pending ∧
      (arbitrate s).plc.devices = s.plc.devices ∧ (arbitrate s).plc.pass = s.plc.pass ∧
      (arbitrate s).plc.caught = s.plc.caught ∧ (arbitrate s).plc.result = s.plc.result ∧
      (arbitrate s).plc.asked = s.plc.asked := by
  simp only [arbitrate]
  repeat' split
  all_goals simp

@[simp] theorem kick_frame (s : State) :
    (kick s).time = s.time ∧ (kick s).pth = s.pth ∧ (kick s).chc = s.chc ∧ (kick s).bga = s.bga ∧
      (kick s).hsi = s.hsi ∧ (kick s).psm = s.psm ∧ (kick s).kbs = s.kbs ∧ (kick s).thc = s.thc ∧
      (kick s).swc = s.swc ∧ (kick s).fsu = s.fsu ∧ (kick s).evr = s.evr ∧ (kick s).hlk = s.hlk ∧
      (kick s).sts = s.sts ∧ (kick s).pending = s.pending ∧ (kick s).plc.devices = s.plc.devices ∧
      (kick s).plc.pass = s.plc.pass ∧ (kick s).plc.caught = s.plc.caught ∧ (kick s).plc.result = s.plc.result := by
  simp only [kick]
  repeat' split
  all_goals simp

@[simp] theorem rolesToLink_frame (s : State) :
    (rolesToLink s).time = s.time ∧ (rolesToLink s).pth = s.pth ∧ (rolesToLink s).chc = s.chc ∧
      (rolesToLink s).bga = s.bga ∧ (rolesToLink s).hsi = s.hsi ∧ (rolesToLink s).psm = s.psm ∧
      (rolesToLink s).kbs = s.kbs ∧ (rolesToLink s).thc = s.thc ∧ (rolesToLink s).swc = s.swc ∧
      (rolesToLink s).fsu = s.fsu ∧ (rolesToLink s).evr = s.evr ∧ (rolesToLink s).hlk = s.hlk ∧
      (rolesToLink s).sts = s.sts ∧ (rolesToLink s).pending = s.pending ∧
      (rolesToLink s).plc.devices = s.plc.devices ∧ (rolesToLink s).plc.pass = s.plc.pass ∧
      (rolesToLink s).plc.caught = s.plc.caught ∧ (rolesToLink s).plc.result = s.plc.result := by
  simp only [rolesToLink]
  repeat' split
  all_goals simp

@[simp] theorem placeStage_frame (w : WriteWork) (s : State) :
    (placeStage w s).time = s.time ∧ (placeStage w s).pth = s.pth ∧ (placeStage w s).chc = s.chc ∧
      (placeStage w s).bga = s.bga ∧ (placeStage w s).hsi = s.hsi ∧ (placeStage w s).psm = s.psm ∧
      (placeStage w s).kbs = s.kbs ∧ (placeStage w s).thc = s.thc ∧ (placeStage w s).swc = s.swc ∧
      (placeStage w s).fsu = s.fsu ∧ (placeStage w s).evr = s.evr ∧ (placeStage w s).hlk = s.hlk ∧
      (placeStage w s).sts = s.sts ∧ (placeStage w s).pending = s.pending ∧
      (placeStage w s).plc.devices = s.plc.devices ∧ (placeStage w s).plc.pass = s.plc.pass ∧
      (placeStage w s).plc.caught = s.plc.caught ∧ (placeStage w s).plc.result = s.plc.result ∧
      (placeStage w s).plc.asked = s.plc.asked := by
  simp only [placeStage]
  repeat' split
  all_goals simp

@[simp] theorem placeSegment_frame (p : Pass) (s : State) :
    (placeSegment p s).time = s.time ∧ (placeSegment p s).pth = s.pth ∧ (placeSegment p s).chc = s.chc ∧
      (placeSegment p s).bga = s.bga ∧ (placeSegment p s).hsi = s.hsi ∧ (placeSegment p s).psm = s.psm ∧
      (placeSegment p s).kbs = s.kbs ∧ (placeSegment p s).thc = s.thc ∧ (placeSegment p s).swc = s.swc ∧
      (placeSegment p s).fsu = s.fsu ∧ (placeSegment p s).evr = s.evr ∧ (placeSegment p s).hlk = s.hlk ∧
      (placeSegment p s).sts = s.sts ∧ (placeSegment p s).pending = s.pending ∧
      (placeSegment p s).plc.devices = s.plc.devices ∧ (placeSegment p s).plc.caught = s.plc.caught ∧
      (placeSegment p s).plc.result = s.plc.result ∧ (placeSegment p s).plc.asked = s.plc.asked := by
  simp only [placeSegment]
  repeat' split
  all_goals simp

@[simp] theorem endPass_frame (p : Pass) (o : PassOutcome) (s : State) :
    (endPass p o s).time = s.time ∧ (endPass p o s).pth = s.pth ∧ (endPass p o s).chc = s.chc ∧
      (endPass p o s).bga = s.bga ∧ (endPass p o s).hsi = s.hsi ∧ (endPass p o s).psm = s.psm ∧
      (endPass p o s).kbs = s.kbs ∧ (endPass p o s).thc = s.thc ∧ (endPass p o s).swc = s.swc ∧
      (endPass p o s).fsu = s.fsu ∧ (endPass p o s).sts = s.sts ∧ (endPass p o s).pending = s.pending ∧
      (endPass p o s).plc.devices = s.plc.devices ∧ (endPass p o s).plc.caught = s.plc.caught ∧
      (endPass p o s).plc.asked = s.plc.asked ∧ (endPass p o s).evr.routes = s.evr.routes ∧
      (endPass p o s).evr.button = s.evr.button ∧ (endPass p o s).evr.keys = s.evr.keys ∧
      (endPass p o s).evr.capture = s.evr.capture ∧ (endPass p o s).evr.fault = s.evr.fault ∧
      (endPass p o s).hlk.queue = s.hlk.queue ∧ (endPass p o s).hlk.resetPending = s.hlk.resetPending ∧
      (endPass p o s).hlk.rx = s.hlk.rx ∧ (endPass p o s).hlk.series = s.hlk.series ∧
      (endPass p o s).hlk.held = s.hlk.held := by
  simp only [endPass]
  repeat' split
  all_goals simp

@[simp] theorem nextSegment_frame (p : Pass) (s : State) :
    (nextSegment p s).time = s.time ∧ (nextSegment p s).pth = s.pth ∧ (nextSegment p s).chc = s.chc ∧
      (nextSegment p s).bga = s.bga ∧ (nextSegment p s).hsi = s.hsi ∧ (nextSegment p s).psm = s.psm ∧
      (nextSegment p s).kbs = s.kbs ∧ (nextSegment p s).thc = s.thc ∧ (nextSegment p s).swc = s.swc ∧
      (nextSegment p s).fsu = s.fsu ∧ (nextSegment p s).sts = s.sts ∧ (nextSegment p s).pending = s.pending ∧
      (nextSegment p s).plc.devices = s.plc.devices ∧ (nextSegment p s).plc.caught = s.plc.caught ∧
      (nextSegment p s).plc.asked = s.plc.asked ∧ (nextSegment p s).evr.routes = s.evr.routes ∧
      (nextSegment p s).evr.button = s.evr.button ∧ (nextSegment p s).evr.keys = s.evr.keys ∧
      (nextSegment p s).evr.capture = s.evr.capture ∧ (nextSegment p s).evr.fault = s.evr.fault ∧
      (nextSegment p s).hlk.queue = s.hlk.queue ∧ (nextSegment p s).hlk.resetPending = s.hlk.resetPending ∧
      (nextSegment p s).hlk.rx = s.hlk.rx ∧ (nextSegment p s).hlk.series = s.hlk.series ∧
      (nextSegment p s).hlk.held = s.hlk.held := by
  simp only [nextSegment]
  repeat' split
  all_goals simp

@[simp] theorem segmentEnd_frame (p : Pass) (q : LinkPolicy) (o : TxOutcome) (s : State) :
    (segmentEnd p q o s).time = s.time ∧ (segmentEnd p q o s).pth = s.pth ∧ (segmentEnd p q o s).chc = s.chc ∧
      (segmentEnd p q o s).bga = s.bga ∧ (segmentEnd p q o s).hsi = s.hsi ∧ (segmentEnd p q o s).psm = s.psm ∧
      (segmentEnd p q o s).kbs = s.kbs ∧ (segmentEnd p q o s).thc = s.thc ∧ (segmentEnd p q o s).swc = s.swc ∧
      (segmentEnd p q o s).fsu = s.fsu ∧ (segmentEnd p q o s).sts = s.sts ∧
      (segmentEnd p q o s).pending = s.pending ∧ (segmentEnd p q o s).plc.devices = s.plc.devices ∧
      (segmentEnd p q o s).plc.caught = s.plc.caught ∧ (segmentEnd p q o s).plc.asked = s.plc.asked ∧
      (segmentEnd p q o s).evr.routes = s.evr.routes ∧ (segmentEnd p q o s).evr.button = s.evr.button ∧
      (segmentEnd p q o s).evr.keys = s.evr.keys ∧ (segmentEnd p q o s).evr.capture = s.evr.capture ∧
      (segmentEnd p q o s).evr.fault = s.evr.fault ∧ (segmentEnd p q o s).hlk.queue = s.hlk.queue ∧
      (segmentEnd p q o s).hlk.resetPending = s.hlk.resetPending ∧ (segmentEnd p q o s).hlk.rx = s.hlk.rx ∧
      (segmentEnd p q o s).hlk.series = s.hlk.series ∧ (segmentEnd p q o s).hlk.held = s.hlk.held := by
  simp only [segmentEnd]
  repeat' split
  all_goals simp

@[simp] theorem dropPollWork_frame (p : PackId) (s : State) :
    (dropPollWork p s).time = s.time ∧ (dropPollWork p s).pth = s.pth ∧ (dropPollWork p s).chc = s.chc ∧
      (dropPollWork p s).bga = s.bga ∧ (dropPollWork p s).hsi = s.hsi ∧ (dropPollWork p s).psm = s.psm ∧
      (dropPollWork p s).kbs = s.kbs ∧ (dropPollWork p s).thc = s.thc ∧ (dropPollWork p s).swc = s.swc ∧
      (dropPollWork p s).fsu = s.fsu ∧ (dropPollWork p s).evr = s.evr ∧ (dropPollWork p s).hlk = s.hlk ∧
      (dropPollWork p s).sts = s.sts ∧ (dropPollWork p s).pending = s.pending ∧
      (dropPollWork p s).plc.devices = s.plc.devices ∧ (dropPollWork p s).plc.pass = s.plc.pass ∧
      (dropPollWork p s).plc.caught = s.plc.caught ∧ (dropPollWork p s).plc.result = s.plc.result := by
  simp only [dropPollWork]
  repeat' split
  all_goals simp

@[simp] theorem endPassTo_frame (p : PackId) (s : State) :
    (endPassTo p s).time = s.time ∧ (endPassTo p s).pth = s.pth ∧ (endPassTo p s).chc = s.chc ∧
      (endPassTo p s).bga = s.bga ∧ (endPassTo p s).hsi = s.hsi ∧ (endPassTo p s).psm = s.psm ∧
      (endPassTo p s).kbs = s.kbs ∧ (endPassTo p s).thc = s.thc ∧ (endPassTo p s).swc = s.swc ∧
      (endPassTo p s).fsu = s.fsu ∧ (endPassTo p s).sts = s.sts ∧ (endPassTo p s).pending = s.pending ∧
      (endPassTo p s).plc.devices = s.plc.devices ∧ (endPassTo p s).plc.asked = s.plc.asked ∧
      (endPassTo p s).evr.routes = s.evr.routes ∧ (endPassTo p s).evr.button = s.evr.button ∧
      (endPassTo p s).evr.keys = s.evr.keys ∧ (endPassTo p s).evr.capture = s.evr.capture ∧
      (endPassTo p s).evr.fault = s.evr.fault ∧ (endPassTo p s).hlk.queue = s.hlk.queue ∧
      (endPassTo p s).hlk.resetPending = s.hlk.resetPending ∧ (endPassTo p s).hlk.rx = s.hlk.rx ∧
      (endPassTo p s).hlk.series = s.hlk.series ∧ (endPassTo p s).hlk.held = s.hlk.held := by
  simp only [endPassTo]
  repeat' split
  all_goals simp

@[simp] theorem markGone_frame (p : PackId) (s : State) :
    (markGone p s).time = s.time ∧ (markGone p s).pth = s.pth ∧ (markGone p s).chc = s.chc ∧
      (markGone p s).bga = s.bga ∧ (markGone p s).hsi = s.hsi ∧ (markGone p s).psm = s.psm ∧
      (markGone p s).kbs = s.kbs ∧ (markGone p s).thc = s.thc ∧ (markGone p s).swc = s.swc ∧
      (markGone p s).fsu = s.fsu ∧ (markGone p s).evr = s.evr ∧ (markGone p s).hlk = s.hlk ∧
      (markGone p s).sts = s.sts ∧ (markGone p s).pending = s.pending ∧
      (markGone p s).plc.devices = s.plc.devices ∧ (markGone p s).plc.pass = s.plc.pass ∧
      (markGone p s).plc.caught = s.plc.caught ∧ (markGone p s).plc.result = s.plc.result ∧
      (markGone p s).plc.asked = s.plc.asked := by
  simp only [markGone]
  repeat' split
  all_goals simp

@[simp] theorem removeFromLink_frame (p : PackId) (s : State) :
    (removeFromLink p s).time = s.time ∧ (removeFromLink p s).pth = s.pth ∧ (removeFromLink p s).chc = s.chc ∧
      (removeFromLink p s).bga = s.bga ∧ (removeFromLink p s).hsi = s.hsi ∧ (removeFromLink p s).psm = s.psm ∧
      (removeFromLink p s).kbs = s.kbs ∧ (removeFromLink p s).thc = s.thc ∧ (removeFromLink p s).swc = s.swc ∧
      (removeFromLink p s).fsu = s.fsu ∧ (removeFromLink p s).sts = s.sts ∧
      (removeFromLink p s).pending = s.pending ∧ (removeFromLink p s).plc.devices = s.plc.devices ∧
      (removeFromLink p s).evr.routes = s.evr.routes ∧ (removeFromLink p s).evr.button = s.evr.button ∧
      (removeFromLink p s).evr.keys = s.evr.keys ∧ (removeFromLink p s).evr.capture = s.evr.capture ∧
      (removeFromLink p s).evr.fault = s.evr.fault ∧ (removeFromLink p s).hlk.queue = s.hlk.queue ∧
      (removeFromLink p s).hlk.resetPending = s.hlk.resetPending ∧ (removeFromLink p s).hlk.rx = s.hlk.rx ∧
      (removeFromLink p s).hlk.series = s.hlk.series ∧ (removeFromLink p s).hlk.held = s.hlk.held := by
  simp only [removeFromLink]
  repeat' split
  all_goals simp

@[simp] theorem stick_frame (entry : Nat) (o : TxOutcome) (s : State) :
    (stick entry o s).time = s.time ∧ (stick entry o s).pth = s.pth ∧ (stick entry o s).chc = s.chc ∧
      (stick entry o s).bga = s.bga ∧ (stick entry o s).hsi = s.hsi ∧ (stick entry o s).psm = s.psm ∧
      (stick entry o s).kbs = s.kbs ∧ (stick entry o s).thc = s.thc ∧ (stick entry o s).swc = s.swc ∧
      (stick entry o s).fsu = s.fsu ∧ (stick entry o s).evr = s.evr ∧ (stick entry o s).hlk = s.hlk ∧
      (stick entry o s).sts = s.sts ∧ (stick entry o s).pending = s.pending ∧
      (stick entry o s).plc.pass = s.plc.pass ∧ (stick entry o s).plc.caught = s.plc.caught ∧
      (stick entry o s).plc.result = s.plc.result ∧ (stick entry o s).plc.asked = s.plc.asked := by
  simp only [stick]
  repeat' split
  all_goals simp

@[simp] theorem driveEnable_frame (s : State) :
    (driveEnable s).time = s.time ∧ (driveEnable s).pth = s.pth ∧ (driveEnable s).bga = s.bga ∧
      (driveEnable s).plc = s.plc ∧ (driveEnable s).hsi = s.hsi ∧ (driveEnable s).psm = s.psm ∧
      (driveEnable s).kbs = s.kbs ∧ (driveEnable s).thc = s.thc ∧ (driveEnable s).swc = s.swc ∧
      (driveEnable s).fsu = s.fsu ∧ (driveEnable s).evr = s.evr ∧ (driveEnable s).hlk = s.hlk ∧
      (driveEnable s).sts = s.sts ∧ (driveEnable s).pending = s.pending ∧
      (driveEnable s).chc.order = s.chc.order ∧ (driveEnable s).chc.threshold = s.chc.threshold ∧
      (driveEnable s).chc.openRow = s.chc.openRow ∧ (driveEnable s).chc.latches = s.chc.latches ∧
      (driveEnable s).chc.table = s.chc.table := by
  simp only [driveEnable]
  repeat' split
  all_goals simp

@[simp] theorem startWrite_frame (d : Setpoint) (s : State) :
    (startWrite d s).time = s.time ∧ (startWrite d s).pth = s.pth ∧ (startWrite d s).bga = s.bga ∧
      (startWrite d s).hsi = s.hsi ∧ (startWrite d s).psm = s.psm ∧ (startWrite d s).kbs = s.kbs ∧
      (startWrite d s).thc = s.thc ∧ (startWrite d s).swc = s.swc ∧ (startWrite d s).fsu = s.fsu ∧
      (startWrite d s).evr = s.evr ∧ (startWrite d s).hlk = s.hlk ∧ (startWrite d s).sts = s.sts ∧
      (startWrite d s).pending = s.pending ∧ (startWrite d s).chc.order = s.chc.order ∧
      (startWrite d s).chc.threshold = s.chc.threshold ∧ (startWrite d s).chc.openRow = s.chc.openRow ∧
      (startWrite d s).chc.latches = s.chc.latches ∧ (startWrite d s).chc.table = s.chc.table ∧
      (startWrite d s).plc.devices = s.plc.devices ∧ (startWrite d s).plc.pass = s.plc.pass ∧
      (startWrite d s).plc.caught = s.plc.caught ∧ (startWrite d s).plc.result = s.plc.result ∧
      (startWrite d s).plc.asked = s.plc.asked := by
  simp only [startWrite]
  repeat' split
  all_goals simp

@[simp] theorem slotIdle_frame (d : Setpoint) (s : State) :
    (slotIdle d s).time = s.time ∧ (slotIdle d s).pth = s.pth ∧ (slotIdle d s).bga = s.bga ∧
      (slotIdle d s).hsi = s.hsi ∧ (slotIdle d s).psm = s.psm ∧ (slotIdle d s).kbs = s.kbs ∧
      (slotIdle d s).thc = s.thc ∧ (slotIdle d s).swc = s.swc ∧ (slotIdle d s).fsu = s.fsu ∧
      (slotIdle d s).evr = s.evr ∧ (slotIdle d s).hlk = s.hlk ∧ (slotIdle d s).sts = s.sts ∧
      (slotIdle d s).pending = s.pending ∧ (slotIdle d s).chc.order = s.chc.order ∧
      (slotIdle d s).chc.threshold = s.chc.threshold ∧ (slotIdle d s).chc.openRow = s.chc.openRow ∧
      (slotIdle d s).chc.latches = s.chc.latches ∧ (slotIdle d s).chc.table = s.chc.table ∧
      (slotIdle d s).plc.devices = s.plc.devices ∧ (slotIdle d s).plc.pass = s.plc.pass ∧
      (slotIdle d s).plc.caught = s.plc.caught ∧ (slotIdle d s).plc.result = s.plc.result ∧
      (slotIdle d s).plc.asked = s.plc.asked := by
  simp only [slotIdle]
  repeat' split
  all_goals simp

@[simp] theorem slotBusy_frame (d : Setpoint) (s : State) :
    (slotBusy d s).time = s.time ∧ (slotBusy d s).pth = s.pth ∧ (slotBusy d s).bga = s.bga ∧
      (slotBusy d s).plc = s.plc ∧ (slotBusy d s).hsi = s.hsi ∧ (slotBusy d s).psm = s.psm ∧
      (slotBusy d s).kbs = s.kbs ∧ (slotBusy d s).thc = s.thc ∧ (slotBusy d s).swc = s.swc ∧
      (slotBusy d s).fsu = s.fsu ∧ (slotBusy d s).evr = s.evr ∧ (slotBusy d s).hlk = s.hlk ∧
      (slotBusy d s).sts = s.sts ∧ (slotBusy d s).pending = s.pending ∧ (slotBusy d s).chc.order = s.chc.order ∧
      (slotBusy d s).chc.threshold = s.chc.threshold ∧ (slotBusy d s).chc.openRow = s.chc.openRow ∧
      (slotBusy d s).chc.latches = s.chc.latches ∧ (slotBusy d s).chc.table = s.chc.table := by
  simp only [slotBusy]
  repeat' split
  all_goals simp

@[simp] theorem handleDesired_frame (d : Setpoint) (s : State) :
    (handleDesired d s).time = s.time ∧ (handleDesired d s).pth = s.pth ∧ (handleDesired d s).bga = s.bga ∧
      (handleDesired d s).hsi = s.hsi ∧ (handleDesired d s).psm = s.psm ∧ (handleDesired d s).kbs = s.kbs ∧
      (handleDesired d s).thc = s.thc ∧ (handleDesired d s).swc = s.swc ∧ (handleDesired d s).fsu = s.fsu ∧
      (handleDesired d s).evr = s.evr ∧ (handleDesired d s).hlk = s.hlk ∧ (handleDesired d s).sts = s.sts ∧
      (handleDesired d s).pending = s.pending ∧ (handleDesired d s).chc.order = s.chc.order ∧
      (handleDesired d s).chc.threshold = s.chc.threshold ∧ (handleDesired d s).chc.openRow = s.chc.openRow ∧
      (handleDesired d s).chc.latches = s.chc.latches ∧ (handleDesired d s).chc.table = s.chc.table ∧
      (handleDesired d s).plc.devices = s.plc.devices ∧ (handleDesired d s).plc.pass = s.plc.pass ∧
      (handleDesired d s).plc.caught = s.plc.caught ∧ (handleDesired d s).plc.result = s.plc.result ∧
      (handleDesired d s).plc.asked = s.plc.asked := by
  simp only [handleDesired]
  repeat' split
  all_goals simp

@[simp] theorem renewDesired_frame (s : State) :
    (renewDesired s).time = s.time ∧ (renewDesired s).pth = s.pth ∧ (renewDesired s).bga = s.bga ∧
      (renewDesired s).hsi = s.hsi ∧ (renewDesired s).psm = s.psm ∧ (renewDesired s).kbs = s.kbs ∧
      (renewDesired s).thc = s.thc ∧ (renewDesired s).swc = s.swc ∧ (renewDesired s).fsu = s.fsu ∧
      (renewDesired s).evr = s.evr ∧ (renewDesired s).hlk = s.hlk ∧ (renewDesired s).sts = s.sts ∧
      (renewDesired s).pending = s.pending ∧ (renewDesired s).chc.order = s.chc.order ∧
      (renewDesired s).chc.threshold = s.chc.threshold ∧ (renewDesired s).chc.openRow = s.chc.openRow ∧
      (renewDesired s).chc.latches = s.chc.latches ∧ (renewDesired s).chc.table = s.chc.table ∧
      (renewDesired s).plc.devices = s.plc.devices ∧ (renewDesired s).plc.pass = s.plc.pass ∧
      (renewDesired s).plc.caught = s.plc.caught ∧ (renewDesired s).plc.result = s.plc.result ∧
      (renewDesired s).plc.asked = s.plc.asked := by
  simp only [renewDesired]
  repeat' split
  all_goals simp

@[simp] theorem movePending_frame (s : State) :
    (movePending s).time = s.time ∧ (movePending s).pth = s.pth ∧ (movePending s).bga = s.bga ∧
      (movePending s).hsi = s.hsi ∧ (movePending s).psm = s.psm ∧ (movePending s).kbs = s.kbs ∧
      (movePending s).thc = s.thc ∧ (movePending s).swc = s.swc ∧ (movePending s).fsu = s.fsu ∧
      (movePending s).evr = s.evr ∧ (movePending s).hlk = s.hlk ∧ (movePending s).sts = s.sts ∧
      (movePending s).pending = s.pending ∧ (movePending s).chc.order = s.chc.order ∧
      (movePending s).chc.threshold = s.chc.threshold ∧ (movePending s).chc.openRow = s.chc.openRow ∧
      (movePending s).chc.latches = s.chc.latches ∧ (movePending s).chc.table = s.chc.table ∧
      (movePending s).plc.devices = s.plc.devices ∧ (movePending s).plc.pass = s.plc.pass ∧
      (movePending s).plc.caught = s.plc.caught ∧ (movePending s).plc.result = s.plc.result ∧
      (movePending s).plc.asked = s.plc.asked := by
  simp only [movePending]
  repeat' split
  all_goals simp

@[simp] theorem chargeAtRest_frame (s : State) :
    (chargeAtRest s).time = s.time ∧ (chargeAtRest s).pth = s.pth ∧ (chargeAtRest s).bga = s.bga ∧
      (chargeAtRest s).hsi = s.hsi ∧ (chargeAtRest s).psm = s.psm ∧ (chargeAtRest s).kbs = s.kbs ∧
      (chargeAtRest s).thc = s.thc ∧ (chargeAtRest s).swc = s.swc ∧ (chargeAtRest s).sts = s.sts ∧
      (chargeAtRest s).pending = s.pending ∧ (chargeAtRest s).chc.order = s.chc.order ∧
      (chargeAtRest s).chc.threshold = s.chc.threshold ∧ (chargeAtRest s).chc.openRow = s.chc.openRow ∧
      (chargeAtRest s).chc.latches = s.chc.latches ∧ (chargeAtRest s).chc.table = s.chc.table ∧
      (chargeAtRest s).plc.devices = s.plc.devices ∧ (chargeAtRest s).plc.pass = s.plc.pass ∧
      (chargeAtRest s).plc.asked = s.plc.asked ∧ (chargeAtRest s).fsu.table = s.fsu.table ∧
      (chargeAtRest s).evr.routes = s.evr.routes ∧ (chargeAtRest s).evr.button = s.evr.button ∧
      (chargeAtRest s).evr.keys = s.evr.keys ∧ (chargeAtRest s).evr.capture = s.evr.capture ∧
      (chargeAtRest s).evr.fault = s.evr.fault ∧ (chargeAtRest s).hlk.queue = s.hlk.queue ∧
      (chargeAtRest s).hlk.resetPending = s.hlk.resetPending ∧ (chargeAtRest s).hlk.rx = s.hlk.rx ∧
      (chargeAtRest s).hlk.series = s.hlk.series ∧ (chargeAtRest s).hlk.held = s.hlk.held := by
  simp only [chargeAtRest]
  repeat' split
  all_goals simp

@[simp] theorem writeComplete_frame (s : State) :
    (writeComplete s).time = s.time ∧ (writeComplete s).pth = s.pth ∧ (writeComplete s).bga = s.bga ∧
      (writeComplete s).hsi = s.hsi ∧ (writeComplete s).psm = s.psm ∧ (writeComplete s).kbs = s.kbs ∧
      (writeComplete s).thc = s.thc ∧ (writeComplete s).swc = s.swc ∧ (writeComplete s).sts = s.sts ∧
      (writeComplete s).pending = s.pending ∧ (writeComplete s).chc.order = s.chc.order ∧
      (writeComplete s).chc.threshold = s.chc.threshold ∧ (writeComplete s).chc.openRow = s.chc.openRow ∧
      (writeComplete s).chc.latches = s.chc.latches ∧ (writeComplete s).chc.table = s.chc.table ∧
      (writeComplete s).plc.devices = s.plc.devices ∧ (writeComplete s).plc.pass = s.plc.pass ∧
      (writeComplete s).plc.asked = s.plc.asked ∧ (writeComplete s).fsu.table = s.fsu.table ∧
      (writeComplete s).evr.routes = s.evr.routes ∧ (writeComplete s).evr.button = s.evr.button ∧
      (writeComplete s).evr.keys = s.evr.keys ∧ (writeComplete s).evr.capture = s.evr.capture ∧
      (writeComplete s).evr.fault = s.evr.fault ∧ (writeComplete s).hlk.queue = s.hlk.queue ∧
      (writeComplete s).hlk.resetPending = s.hlk.resetPending ∧ (writeComplete s).hlk.rx = s.hlk.rx ∧
      (writeComplete s).hlk.series = s.hlk.series ∧ (writeComplete s).hlk.held = s.hlk.held := by
  simp only [writeComplete]
  repeat' split
  all_goals simp

@[simp] theorem writeVoid_frame (s : State) :
    (writeVoid s).time = s.time ∧ (writeVoid s).pth = s.pth ∧ (writeVoid s).bga = s.bga ∧
      (writeVoid s).hsi = s.hsi ∧ (writeVoid s).psm = s.psm ∧ (writeVoid s).kbs = s.kbs ∧
      (writeVoid s).thc = s.thc ∧ (writeVoid s).swc = s.swc ∧ (writeVoid s).sts = s.sts ∧
      (writeVoid s).pending = s.pending ∧ (writeVoid s).chc.order = s.chc.order ∧
      (writeVoid s).chc.threshold = s.chc.threshold ∧ (writeVoid s).chc.openRow = s.chc.openRow ∧
      (writeVoid s).chc.latches = s.chc.latches ∧ (writeVoid s).chc.table = s.chc.table ∧
      (writeVoid s).plc.devices = s.plc.devices ∧ (writeVoid s).plc.pass = s.plc.pass ∧
      (writeVoid s).plc.asked = s.plc.asked ∧ (writeVoid s).fsu.table = s.fsu.table ∧
      (writeVoid s).evr.routes = s.evr.routes ∧ (writeVoid s).evr.button = s.evr.button ∧
      (writeVoid s).evr.keys = s.evr.keys ∧ (writeVoid s).evr.capture = s.evr.capture ∧
      (writeVoid s).evr.fault = s.evr.fault ∧ (writeVoid s).hlk.queue = s.hlk.queue ∧
      (writeVoid s).hlk.resetPending = s.hlk.resetPending ∧ (writeVoid s).hlk.rx = s.hlk.rx ∧
      (writeVoid s).hlk.series = s.hlk.series ∧ (writeVoid s).hlk.held = s.hlk.held := by
  simp only [writeVoid]
  repeat' split
  all_goals simp

@[simp] theorem writeFailed_frame (s : State) :
    (writeFailed s).time = s.time ∧ (writeFailed s).pth = s.pth ∧ (writeFailed s).bga = s.bga ∧
      (writeFailed s).hsi = s.hsi ∧ (writeFailed s).psm = s.psm ∧ (writeFailed s).kbs = s.kbs ∧
      (writeFailed s).thc = s.thc ∧ (writeFailed s).swc = s.swc ∧ (writeFailed s).sts = s.sts ∧
      (writeFailed s).pending = s.pending ∧ (writeFailed s).chc.order = s.chc.order ∧
      (writeFailed s).chc.threshold = s.chc.threshold ∧ (writeFailed s).chc.openRow = s.chc.openRow ∧
      (writeFailed s).chc.latches = s.chc.latches ∧ (writeFailed s).chc.table = s.chc.table ∧
      (writeFailed s).plc.devices = s.plc.devices ∧ (writeFailed s).plc.pass = s.plc.pass ∧
      (writeFailed s).plc.asked = s.plc.asked ∧ (writeFailed s).evr.routes = s.evr.routes ∧
      (writeFailed s).hlk.queue = s.hlk.queue ∧ (writeFailed s).hlk.resetPending = s.hlk.resetPending ∧
      (writeFailed s).hlk.rx = s.hlk.rx ∧ (writeFailed s).hlk.series = s.hlk.series ∧
      (writeFailed s).hlk.held = s.hlk.held := by
  simp only [writeFailed]
  repeat' split
  all_goals simp

@[simp] theorem writeCutShort_frame (s : State) :
    (writeCutShort s).time = s.time ∧ (writeCutShort s).pth = s.pth ∧ (writeCutShort s).bga = s.bga ∧
      (writeCutShort s).hsi = s.hsi ∧ (writeCutShort s).psm = s.psm ∧ (writeCutShort s).kbs = s.kbs ∧
      (writeCutShort s).thc = s.thc ∧ (writeCutShort s).swc = s.swc ∧ (writeCutShort s).sts = s.sts ∧
      (writeCutShort s).pending = s.pending ∧ (writeCutShort s).chc.order = s.chc.order ∧
      (writeCutShort s).chc.threshold = s.chc.threshold ∧ (writeCutShort s).chc.openRow = s.chc.openRow ∧
      (writeCutShort s).chc.latches = s.chc.latches ∧ (writeCutShort s).chc.table = s.chc.table ∧
      (writeCutShort s).plc.devices = s.plc.devices ∧ (writeCutShort s).plc.pass = s.plc.pass ∧
      (writeCutShort s).plc.asked = s.plc.asked ∧ (writeCutShort s).fsu.table = s.fsu.table ∧
      (writeCutShort s).evr.routes = s.evr.routes ∧ (writeCutShort s).evr.button = s.evr.button ∧
      (writeCutShort s).evr.keys = s.evr.keys ∧ (writeCutShort s).evr.capture = s.evr.capture ∧
      (writeCutShort s).evr.fault = s.evr.fault ∧ (writeCutShort s).hlk.queue = s.hlk.queue ∧
      (writeCutShort s).hlk.resetPending = s.hlk.resetPending ∧ (writeCutShort s).hlk.rx = s.hlk.rx ∧
      (writeCutShort s).hlk.series = s.hlk.series ∧ (writeCutShort s).hlk.held = s.hlk.held := by
  simp only [writeCutShort]
  repeat' split
  all_goals simp

@[simp] theorem reportPhase_frame (p : PackId) (st : ChargeState) (s : State) :
    (reportPhase p st s).time = s.time ∧ (reportPhase p st s).pth = s.pth ∧ (reportPhase p st s).chc = s.chc ∧
      (reportPhase p st s).bga = s.bga ∧ (reportPhase p st s).plc = s.plc ∧ (reportPhase p st s).hsi = s.hsi ∧
      (reportPhase p st s).psm = s.psm ∧ (reportPhase p st s).kbs = s.kbs ∧ (reportPhase p st s).thc = s.thc ∧
      (reportPhase p st s).swc = s.swc ∧ (reportPhase p st s).fsu = s.fsu ∧ (reportPhase p st s).sts = s.sts ∧
      (reportPhase p st s).pending = s.pending ∧ (reportPhase p st s).evr.routes = s.evr.routes ∧
      (reportPhase p st s).evr.button = s.evr.button ∧ (reportPhase p st s).evr.keys = s.evr.keys ∧
      (reportPhase p st s).evr.capture = s.evr.capture ∧ (reportPhase p st s).evr.fault = s.evr.fault ∧
      (reportPhase p st s).hlk.queue = s.hlk.queue ∧
      (reportPhase p st s).hlk.resetPending = s.hlk.resetPending ∧ (reportPhase p st s).hlk.rx = s.hlk.rx ∧
      (reportPhase p st s).hlk.series = s.hlk.series ∧ (reportPhase p st s).hlk.held = s.hlk.held := by
  simp only [reportPhase]
  repeat' split
  all_goals simp

@[simp] theorem enterState_frame (p : PackId) (st : ChargeState) (ph : Option SuspendedPhase) (s : State) :
    (enterState p st ph s).time = s.time ∧ (enterState p st ph s).pth = s.pth ∧
      (enterState p st ph s).bga = s.bga ∧ (enterState p st ph s).plc = s.plc ∧
      (enterState p st ph s).hsi = s.hsi ∧ (enterState p st ph s).psm = s.psm ∧
      (enterState p st ph s).kbs = s.kbs ∧ (enterState p st ph s).thc = s.thc ∧
      (enterState p st ph s).swc = s.swc ∧ (enterState p st ph s).fsu = s.fsu ∧
      (enterState p st ph s).sts = s.sts ∧ (enterState p st ph s).pending = s.pending ∧
      (enterState p st ph s).chc.order = s.chc.order ∧ (enterState p st ph s).chc.threshold = s.chc.threshold ∧
      (enterState p st ph s).chc.openRow = s.chc.openRow ∧ (enterState p st ph s).chc.latches = s.chc.latches ∧
      (enterState p st ph s).chc.table = s.chc.table ∧ (enterState p st ph s).evr.routes = s.evr.routes ∧
      (enterState p st ph s).evr.button = s.evr.button ∧ (enterState p st ph s).evr.keys = s.evr.keys ∧
      (enterState p st ph s).evr.capture = s.evr.capture ∧ (enterState p st ph s).evr.fault = s.evr.fault ∧
      (enterState p st ph s).hlk.queue = s.hlk.queue ∧
      (enterState p st ph s).hlk.resetPending = s.hlk.resetPending ∧ (enterState p st ph s).hlk.rx = s.hlk.rx ∧
      (enterState p st ph s).hlk.series = s.hlk.series ∧ (enterState p st ph s).hlk.held = s.hlk.held := by
  simp only [enterState]
  repeat' split
  all_goals simp

@[simp] theorem endSession_frame (p : PackId) (st : ChargeState) (s : State) :
    (endSession p st s).time = s.time ∧ (endSession p st s).pth = s.pth ∧ (endSession p st s).bga = s.bga ∧
      (endSession p st s).plc = s.plc ∧ (endSession p st s).hsi = s.hsi ∧ (endSession p st s).psm = s.psm ∧
      (endSession p st s).kbs = s.kbs ∧ (endSession p st s).thc = s.thc ∧ (endSession p st s).swc = s.swc ∧
      (endSession p st s).fsu = s.fsu ∧ (endSession p st s).sts = s.sts ∧
      (endSession p st s).pending = s.pending ∧ (endSession p st s).chc.order = s.chc.order ∧
      (endSession p st s).chc.threshold = s.chc.threshold ∧ (endSession p st s).chc.openRow = s.chc.openRow ∧
      (endSession p st s).chc.latches = s.chc.latches ∧ (endSession p st s).chc.table = s.chc.table ∧
      (endSession p st s).evr.routes = s.evr.routes ∧ (endSession p st s).evr.button = s.evr.button ∧
      (endSession p st s).evr.keys = s.evr.keys ∧ (endSession p st s).evr.capture = s.evr.capture ∧
      (endSession p st s).evr.fault = s.evr.fault ∧ (endSession p st s).hlk.queue = s.hlk.queue ∧
      (endSession p st s).hlk.resetPending = s.hlk.resetPending ∧ (endSession p st s).hlk.rx = s.hlk.rx ∧
      (endSession p st s).hlk.series = s.hlk.series ∧ (endSession p st s).hlk.held = s.hlk.held := by
  simp only [endSession]
  repeat' split
  all_goals simp

@[simp] theorem endIfActive_frame (p : PackId) (s : State) :
    (endIfActive p s).time = s.time ∧ (endIfActive p s).pth = s.pth ∧ (endIfActive p s).bga = s.bga ∧
      (endIfActive p s).plc = s.plc ∧ (endIfActive p s).hsi = s.hsi ∧ (endIfActive p s).psm = s.psm ∧
      (endIfActive p s).kbs = s.kbs ∧ (endIfActive p s).thc = s.thc ∧ (endIfActive p s).swc = s.swc ∧
      (endIfActive p s).fsu = s.fsu ∧ (endIfActive p s).sts = s.sts ∧ (endIfActive p s).pending = s.pending ∧
      (endIfActive p s).chc.order = s.chc.order ∧ (endIfActive p s).chc.threshold = s.chc.threshold ∧
      (endIfActive p s).chc.openRow = s.chc.openRow ∧ (endIfActive p s).chc.latches = s.chc.latches ∧
      (endIfActive p s).chc.table = s.chc.table ∧ (endIfActive p s).evr.routes = s.evr.routes ∧
      (endIfActive p s).evr.button = s.evr.button ∧ (endIfActive p s).evr.keys = s.evr.keys ∧
      (endIfActive p s).evr.capture = s.evr.capture ∧ (endIfActive p s).evr.fault = s.evr.fault ∧
      (endIfActive p s).hlk.queue = s.hlk.queue ∧ (endIfActive p s).hlk.resetPending = s.hlk.resetPending ∧
      (endIfActive p s).hlk.rx = s.hlk.rx ∧ (endIfActive p s).hlk.series = s.hlk.series ∧
      (endIfActive p s).hlk.held = s.hlk.held := by
  simp only [endIfActive]
  repeat' split
  all_goals simp

@[simp] theorem enterQualify_frame (p : PackId) (s : State) :
    (enterQualify p s).time = s.time ∧ (enterQualify p s).pth = s.pth ∧ (enterQualify p s).bga = s.bga ∧
      (enterQualify p s).hsi = s.hsi ∧ (enterQualify p s).psm = s.psm ∧ (enterQualify p s).kbs = s.kbs ∧
      (enterQualify p s).thc = s.thc ∧ (enterQualify p s).swc = s.swc ∧ (enterQualify p s).fsu = s.fsu ∧
      (enterQualify p s).sts = s.sts ∧ (enterQualify p s).pending = s.pending ∧
      (enterQualify p s).chc.order = s.chc.order ∧ (enterQualify p s).chc.threshold = s.chc.threshold ∧
      (enterQualify p s).chc.openRow = s.chc.openRow ∧ (enterQualify p s).chc.latches = s.chc.latches ∧
      (enterQualify p s).chc.table = s.chc.table ∧ (enterQualify p s).plc.devices = s.plc.devices ∧
      (enterQualify p s).plc.pass = s.plc.pass ∧ (enterQualify p s).plc.caught = s.plc.caught ∧
      (enterQualify p s).plc.result = s.plc.result ∧ (enterQualify p s).plc.asked = s.plc.asked ∧
      (enterQualify p s).evr.routes = s.evr.routes ∧ (enterQualify p s).evr.button = s.evr.button ∧
      (enterQualify p s).evr.keys = s.evr.keys ∧ (enterQualify p s).evr.capture = s.evr.capture ∧
      (enterQualify p s).evr.fault = s.evr.fault ∧ (enterQualify p s).hlk.queue = s.hlk.queue ∧
      (enterQualify p s).hlk.resetPending = s.hlk.resetPending ∧ (enterQualify p s).hlk.rx = s.hlk.rx ∧
      (enterQualify p s).hlk.series = s.hlk.series ∧ (enterQualify p s).hlk.held = s.hlk.held := by
  simp only [enterQualify]
  repeat' split
  all_goals simp

@[simp] theorem enterPhase_frame (p : PackId) (st : ChargeState) (s : State) :
    (enterPhase p st s).time = s.time ∧ (enterPhase p st s).pth = s.pth ∧ (enterPhase p st s).bga = s.bga ∧
      (enterPhase p st s).plc = s.plc ∧ (enterPhase p st s).hsi = s.hsi ∧ (enterPhase p st s).psm = s.psm ∧
      (enterPhase p st s).kbs = s.kbs ∧ (enterPhase p st s).thc = s.thc ∧ (enterPhase p st s).swc = s.swc ∧
      (enterPhase p st s).fsu = s.fsu ∧ (enterPhase p st s).sts = s.sts ∧
      (enterPhase p st s).pending = s.pending ∧ (enterPhase p st s).chc.order = s.chc.order ∧
      (enterPhase p st s).chc.threshold = s.chc.threshold ∧ (enterPhase p st s).chc.openRow = s.chc.openRow ∧
      (enterPhase p st s).chc.latches = s.chc.latches ∧ (enterPhase p st s).chc.table = s.chc.table ∧
      (enterPhase p st s).evr.routes = s.evr.routes ∧ (enterPhase p st s).evr.button = s.evr.button ∧
      (enterPhase p st s).evr.keys = s.evr.keys ∧ (enterPhase p st s).evr.capture = s.evr.capture ∧
      (enterPhase p st s).evr.fault = s.evr.fault ∧ (enterPhase p st s).hlk.queue = s.hlk.queue ∧
      (enterPhase p st s).hlk.resetPending = s.hlk.resetPending ∧ (enterPhase p st s).hlk.rx = s.hlk.rx ∧
      (enterPhase p st s).hlk.series = s.hlk.series ∧ (enterPhase p st s).hlk.held = s.hlk.held := by
  simp only [enterPhase]
  repeat' split
  all_goals simp

@[simp] theorem enterDone_frame (p : PackId) (s : State) :
    (enterDone p s).time = s.time ∧ (enterDone p s).pth = s.pth ∧ (enterDone p s).bga = s.bga ∧
      (enterDone p s).plc = s.plc ∧ (enterDone p s).hsi = s.hsi ∧ (enterDone p s).psm = s.psm ∧
      (enterDone p s).kbs = s.kbs ∧ (enterDone p s).thc = s.thc ∧ (enterDone p s).swc = s.swc ∧
      (enterDone p s).fsu = s.fsu ∧ (enterDone p s).sts = s.sts ∧ (enterDone p s).pending = s.pending ∧
      (enterDone p s).chc.order = s.chc.order ∧ (enterDone p s).chc.threshold = s.chc.threshold ∧
      (enterDone p s).chc.openRow = s.chc.openRow ∧ (enterDone p s).chc.latches = s.chc.latches ∧
      (enterDone p s).chc.table = s.chc.table ∧ (enterDone p s).evr.routes = s.evr.routes ∧
      (enterDone p s).evr.button = s.evr.button ∧ (enterDone p s).evr.keys = s.evr.keys ∧
      (enterDone p s).evr.capture = s.evr.capture ∧ (enterDone p s).evr.fault = s.evr.fault ∧
      (enterDone p s).hlk.queue = s.hlk.queue ∧ (enterDone p s).hlk.resetPending = s.hlk.resetPending ∧
      (enterDone p s).hlk.rx = s.hlk.rx ∧ (enterDone p s).hlk.series = s.hlk.series ∧
      (enterDone p s).hlk.held = s.hlk.held := by
  simp only [enterDone]
  repeat' split
  all_goals simp

@[simp] theorem qualifyDecision_frame (p : PackId) (snap : Snapshot) (s : State) :
    (qualifyDecision p snap s).time = s.time ∧ (qualifyDecision p snap s).pth = s.pth ∧
      (qualifyDecision p snap s).bga = s.bga ∧ (qualifyDecision p snap s).plc = s.plc ∧
      (qualifyDecision p snap s).hsi = s.hsi ∧ (qualifyDecision p snap s).psm = s.psm ∧
      (qualifyDecision p snap s).kbs = s.kbs ∧ (qualifyDecision p snap s).thc = s.thc ∧
      (qualifyDecision p snap s).swc = s.swc ∧ (qualifyDecision p snap s).fsu = s.fsu ∧
      (qualifyDecision p snap s).sts = s.sts ∧ (qualifyDecision p snap s).pending = s.pending ∧
      (qualifyDecision p snap s).chc.order = s.chc.order ∧
      (qualifyDecision p snap s).chc.threshold = s.chc.threshold ∧
      (qualifyDecision p snap s).chc.openRow = s.chc.openRow ∧
      (qualifyDecision p snap s).chc.latches = s.chc.latches ∧
      (qualifyDecision p snap s).chc.table = s.chc.table ∧
      (qualifyDecision p snap s).evr.routes = s.evr.routes ∧
      (qualifyDecision p snap s).evr.button = s.evr.button ∧ (qualifyDecision p snap s).evr.keys = s.evr.keys ∧
      (qualifyDecision p snap s).evr.capture = s.evr.capture ∧
      (qualifyDecision p snap s).evr.fault = s.evr.fault ∧ (qualifyDecision p snap s).hlk.queue = s.hlk.queue ∧
      (qualifyDecision p snap s).hlk.resetPending = s.hlk.resetPending ∧
      (qualifyDecision p snap s).hlk.rx = s.hlk.rx ∧ (qualifyDecision p snap s).hlk.series = s.hlk.series ∧
      (qualifyDecision p snap s).hlk.held = s.hlk.held := by
  simp only [qualifyDecision]
  repeat' split
  all_goals simp

@[simp] theorem recompute_frame (p : PackId) (s : State) :
    (recompute p s).time = s.time ∧ (recompute p s).pth = s.pth ∧ (recompute p s).bga = s.bga ∧
      (recompute p s).hsi = s.hsi ∧ (recompute p s).psm = s.psm ∧ (recompute p s).kbs = s.kbs ∧
      (recompute p s).thc = s.thc ∧ (recompute p s).swc = s.swc ∧ (recompute p s).fsu = s.fsu ∧
      (recompute p s).sts = s.sts ∧ (recompute p s).pending = s.pending ∧
      (recompute p s).chc.order = s.chc.order ∧ (recompute p s).chc.threshold = s.chc.threshold ∧
      (recompute p s).chc.openRow = s.chc.openRow ∧ (recompute p s).chc.latches = s.chc.latches ∧
      (recompute p s).chc.table = s.chc.table ∧ (recompute p s).plc.devices = s.plc.devices ∧
      (recompute p s).plc.pass = s.plc.pass ∧ (recompute p s).plc.caught = s.plc.caught ∧
      (recompute p s).plc.result = s.plc.result ∧ (recompute p s).plc.asked = s.plc.asked ∧
      (recompute p s).evr.routes = s.evr.routes ∧ (recompute p s).evr.button = s.evr.button ∧
      (recompute p s).evr.keys = s.evr.keys ∧ (recompute p s).evr.capture = s.evr.capture ∧
      (recompute p s).evr.fault = s.evr.fault ∧ (recompute p s).hlk.queue = s.hlk.queue ∧
      (recompute p s).hlk.resetPending = s.hlk.resetPending ∧ (recompute p s).hlk.rx = s.hlk.rx ∧
      (recompute p s).hlk.series = s.hlk.series ∧ (recompute p s).hlk.held = s.hlk.held := by
  simp only [recompute]
  repeat' split
  all_goals simp

@[simp] theorem taper_frame (p : PackId) (e : ProfileEntry) (snap : Snapshot) (s : State) :
    (taper p e snap s).time = s.time ∧ (taper p e snap s).pth = s.pth ∧ (taper p e snap s).bga = s.bga ∧
      (taper p e snap s).plc = s.plc ∧ (taper p e snap s).hsi = s.hsi ∧ (taper p e snap s).psm = s.psm ∧
      (taper p e snap s).kbs = s.kbs ∧ (taper p e snap s).thc = s.thc ∧ (taper p e snap s).swc = s.swc ∧
      (taper p e snap s).fsu = s.fsu ∧ (taper p e snap s).sts = s.sts ∧ (taper p e snap s).pending = s.pending ∧
      (taper p e snap s).chc.order = s.chc.order ∧ (taper p e snap s).chc.threshold = s.chc.threshold ∧
      (taper p e snap s).chc.openRow = s.chc.openRow ∧ (taper p e snap s).chc.latches = s.chc.latches ∧
      (taper p e snap s).chc.table = s.chc.table ∧ (taper p e snap s).evr.routes = s.evr.routes ∧
      (taper p e snap s).evr.button = s.evr.button ∧ (taper p e snap s).evr.keys = s.evr.keys ∧
      (taper p e snap s).evr.capture = s.evr.capture ∧ (taper p e snap s).evr.fault = s.evr.fault ∧
      (taper p e snap s).hlk.queue = s.hlk.queue ∧ (taper p e snap s).hlk.resetPending = s.hlk.resetPending ∧
      (taper p e snap s).hlk.rx = s.hlk.rx ∧ (taper p e snap s).hlk.series = s.hlk.series ∧
      (taper p e snap s).hlk.held = s.hlk.held := by
  simp only [taper]
  repeat' split
  all_goals simp

@[simp] theorem enterTopoff_frame (p : PackId) (s : State) :
    (enterTopoff p s).time = s.time ∧ (enterTopoff p s).pth = s.pth ∧ (enterTopoff p s).bga = s.bga ∧
      (enterTopoff p s).plc = s.plc ∧ (enterTopoff p s).hsi = s.hsi ∧ (enterTopoff p s).psm = s.psm ∧
      (enterTopoff p s).kbs = s.kbs ∧ (enterTopoff p s).thc = s.thc ∧ (enterTopoff p s).swc = s.swc ∧
      (enterTopoff p s).fsu = s.fsu ∧ (enterTopoff p s).sts = s.sts ∧ (enterTopoff p s).pending = s.pending ∧
      (enterTopoff p s).chc.order = s.chc.order ∧ (enterTopoff p s).chc.threshold = s.chc.threshold ∧
      (enterTopoff p s).chc.openRow = s.chc.openRow ∧ (enterTopoff p s).chc.latches = s.chc.latches ∧
      (enterTopoff p s).chc.table = s.chc.table ∧ (enterTopoff p s).evr.routes = s.evr.routes ∧
      (enterTopoff p s).evr.button = s.evr.button ∧ (enterTopoff p s).evr.keys = s.evr.keys ∧
      (enterTopoff p s).evr.capture = s.evr.capture ∧ (enterTopoff p s).evr.fault = s.evr.fault ∧
      (enterTopoff p s).hlk.queue = s.hlk.queue ∧ (enterTopoff p s).hlk.resetPending = s.hlk.resetPending ∧
      (enterTopoff p s).hlk.rx = s.hlk.rx ∧ (enterTopoff p s).hlk.series = s.hlk.series ∧
      (enterTopoff p s).hlk.held = s.hlk.held := by
  simp only [enterTopoff]
  repeat' split
  all_goals simp

@[simp] theorem progress_frame (p : PackId) (snap : Snapshot) (s : State) :
    (progress p snap s).time = s.time ∧ (progress p snap s).pth = s.pth ∧ (progress p snap s).bga = s.bga ∧
      (progress p snap s).plc = s.plc ∧ (progress p snap s).hsi = s.hsi ∧ (progress p snap s).psm = s.psm ∧
      (progress p snap s).kbs = s.kbs ∧ (progress p snap s).thc = s.thc ∧ (progress p snap s).swc = s.swc ∧
      (progress p snap s).fsu = s.fsu ∧ (progress p snap s).sts = s.sts ∧
      (progress p snap s).pending = s.pending ∧ (progress p snap s).chc.order = s.chc.order ∧
      (progress p snap s).chc.threshold = s.chc.threshold ∧ (progress p snap s).chc.openRow = s.chc.openRow ∧
      (progress p snap s).chc.latches = s.chc.latches ∧ (progress p snap s).chc.table = s.chc.table ∧
      (progress p snap s).evr.routes = s.evr.routes ∧ (progress p snap s).evr.button = s.evr.button ∧
      (progress p snap s).evr.keys = s.evr.keys ∧ (progress p snap s).evr.capture = s.evr.capture ∧
      (progress p snap s).evr.fault = s.evr.fault ∧ (progress p snap s).hlk.queue = s.hlk.queue ∧
      (progress p snap s).hlk.resetPending = s.hlk.resetPending ∧ (progress p snap s).hlk.rx = s.hlk.rx ∧
      (progress p snap s).hlk.series = s.hlk.series ∧ (progress p snap s).hlk.held = s.hlk.held := by
  simp only [progress]
  repeat' split
  all_goals simp

@[simp] theorem phaseSnapshot_frame (p : PackId) (snap : Snapshot) (s : State) :
    (phaseSnapshot p snap s).time = s.time ∧ (phaseSnapshot p snap s).pth = s.pth ∧
      (phaseSnapshot p snap s).bga = s.bga ∧ (phaseSnapshot p snap s).hsi = s.hsi ∧
      (phaseSnapshot p snap s).psm = s.psm ∧ (phaseSnapshot p snap s).kbs = s.kbs ∧
      (phaseSnapshot p snap s).thc = s.thc ∧ (phaseSnapshot p snap s).swc = s.swc ∧
      (phaseSnapshot p snap s).fsu = s.fsu ∧ (phaseSnapshot p snap s).sts = s.sts ∧
      (phaseSnapshot p snap s).pending = s.pending ∧ (phaseSnapshot p snap s).chc.order = s.chc.order ∧
      (phaseSnapshot p snap s).chc.threshold = s.chc.threshold ∧
      (phaseSnapshot p snap s).chc.openRow = s.chc.openRow ∧
      (phaseSnapshot p snap s).chc.latches = s.chc.latches ∧ (phaseSnapshot p snap s).chc.table = s.chc.table ∧
      (phaseSnapshot p snap s).plc.devices = s.plc.devices ∧ (phaseSnapshot p snap s).plc.pass = s.plc.pass ∧
      (phaseSnapshot p snap s).plc.caught = s.plc.caught ∧ (phaseSnapshot p snap s).plc.result = s.plc.result ∧
      (phaseSnapshot p snap s).plc.asked = s.plc.asked ∧ (phaseSnapshot p snap s).evr.routes = s.evr.routes ∧
      (phaseSnapshot p snap s).evr.button = s.evr.button ∧ (phaseSnapshot p snap s).evr.keys = s.evr.keys ∧
      (phaseSnapshot p snap s).evr.capture = s.evr.capture ∧ (phaseSnapshot p snap s).evr.fault = s.evr.fault ∧
      (phaseSnapshot p snap s).hlk.queue = s.hlk.queue ∧
      (phaseSnapshot p snap s).hlk.resetPending = s.hlk.resetPending ∧
      (phaseSnapshot p snap s).hlk.rx = s.hlk.rx ∧ (phaseSnapshot p snap s).hlk.series = s.hlk.series ∧
      (phaseSnapshot p snap s).hlk.held = s.hlk.held := by
  simp only [phaseSnapshot]
  repeat' split
  all_goals simp

@[simp] theorem suspendedSnapshot_frame (p : PackId) (r : SuspendReason) (snap : Snapshot) (s : State) :
    (suspendedSnapshot p r snap s).time = s.time ∧ (suspendedSnapshot p r snap s).pth = s.pth ∧
      (suspendedSnapshot p r snap s).bga = s.bga ∧ (suspendedSnapshot p r snap s).hsi = s.hsi ∧
      (suspendedSnapshot p r snap s).psm = s.psm ∧ (suspendedSnapshot p r snap s).kbs = s.kbs ∧
      (suspendedSnapshot p r snap s).thc = s.thc ∧ (suspendedSnapshot p r snap s).swc = s.swc ∧
      (suspendedSnapshot p r snap s).fsu = s.fsu ∧ (suspendedSnapshot p r snap s).sts = s.sts ∧
      (suspendedSnapshot p r snap s).pending = s.pending ∧
      (suspendedSnapshot p r snap s).chc.order = s.chc.order ∧
      (suspendedSnapshot p r snap s).chc.threshold = s.chc.threshold ∧
      (suspendedSnapshot p r snap s).chc.openRow = s.chc.openRow ∧
      (suspendedSnapshot p r snap s).chc.latches = s.chc.latches ∧
      (suspendedSnapshot p r snap s).chc.table = s.chc.table ∧
      (suspendedSnapshot p r snap s).plc.devices = s.plc.devices ∧
      (suspendedSnapshot p r snap s).plc.pass = s.plc.pass ∧
      (suspendedSnapshot p r snap s).plc.caught = s.plc.caught ∧
      (suspendedSnapshot p r snap s).plc.result = s.plc.result ∧
      (suspendedSnapshot p r snap s).plc.asked = s.plc.asked ∧
      (suspendedSnapshot p r snap s).evr.routes = s.evr.routes ∧
      (suspendedSnapshot p r snap s).evr.button = s.evr.button ∧
      (suspendedSnapshot p r snap s).evr.keys = s.evr.keys ∧
      (suspendedSnapshot p r snap s).evr.capture = s.evr.capture ∧
      (suspendedSnapshot p r snap s).evr.fault = s.evr.fault ∧
      (suspendedSnapshot p r snap s).hlk.queue = s.hlk.queue ∧
      (suspendedSnapshot p r snap s).hlk.resetPending = s.hlk.resetPending ∧
      (suspendedSnapshot p r snap s).hlk.rx = s.hlk.rx ∧
      (suspendedSnapshot p r snap s).hlk.series = s.hlk.series ∧
      (suspendedSnapshot p r snap s).hlk.held = s.hlk.held := by
  simp only [suspendedSnapshot]
  repeat' split
  all_goals simp

@[simp] theorem doneSnapshot_frame (p : PackId) (s : State) :
    (doneSnapshot p s).time = s.time ∧ (doneSnapshot p s).pth = s.pth ∧ (doneSnapshot p s).bga = s.bga ∧
      (doneSnapshot p s).plc = s.plc ∧ (doneSnapshot p s).hsi = s.hsi ∧ (doneSnapshot p s).psm = s.psm ∧
      (doneSnapshot p s).kbs = s.kbs ∧ (doneSnapshot p s).thc = s.thc ∧ (doneSnapshot p s).swc = s.swc ∧
      (doneSnapshot p s).fsu = s.fsu ∧ (doneSnapshot p s).sts = s.sts ∧ (doneSnapshot p s).pending = s.pending ∧
      (doneSnapshot p s).chc.order = s.chc.order ∧ (doneSnapshot p s).chc.threshold = s.chc.threshold ∧
      (doneSnapshot p s).chc.openRow = s.chc.openRow ∧ (doneSnapshot p s).chc.latches = s.chc.latches ∧
      (doneSnapshot p s).chc.table = s.chc.table ∧ (doneSnapshot p s).evr.routes = s.evr.routes ∧
      (doneSnapshot p s).evr.button = s.evr.button ∧ (doneSnapshot p s).evr.keys = s.evr.keys ∧
      (doneSnapshot p s).evr.capture = s.evr.capture ∧ (doneSnapshot p s).evr.fault = s.evr.fault ∧
      (doneSnapshot p s).hlk.queue = s.hlk.queue ∧ (doneSnapshot p s).hlk.resetPending = s.hlk.resetPending ∧
      (doneSnapshot p s).hlk.rx = s.hlk.rx ∧ (doneSnapshot p s).hlk.series = s.hlk.series ∧
      (doneSnapshot p s).hlk.held = s.hlk.held := by
  simp only [doneSnapshot]
  repeat' split
  all_goals simp

@[simp] theorem snapshotToCharge_frame (p : PackId) (snap : Snapshot) (s : State) :
    (snapshotToCharge p snap s).time = s.time ∧ (snapshotToCharge p snap s).pth = s.pth ∧
      (snapshotToCharge p snap s).bga = s.bga ∧ (snapshotToCharge p snap s).hsi = s.hsi ∧
      (snapshotToCharge p snap s).psm = s.psm ∧ (snapshotToCharge p snap s).kbs = s.kbs ∧
      (snapshotToCharge p snap s).thc = s.thc ∧ (snapshotToCharge p snap s).swc = s.swc ∧
      (snapshotToCharge p snap s).fsu = s.fsu ∧ (snapshotToCharge p snap s).sts = s.sts ∧
      (snapshotToCharge p snap s).pending = s.pending ∧ (snapshotToCharge p snap s).chc.order = s.chc.order ∧
      (snapshotToCharge p snap s).chc.threshold = s.chc.threshold ∧
      (snapshotToCharge p snap s).chc.openRow = s.chc.openRow ∧
      (snapshotToCharge p snap s).chc.latches = s.chc.latches ∧
      (snapshotToCharge p snap s).chc.table = s.chc.table ∧
      (snapshotToCharge p snap s).plc.devices = s.plc.devices ∧
      (snapshotToCharge p snap s).plc.pass = s.plc.pass ∧
      (snapshotToCharge p snap s).plc.caught = s.plc.caught ∧
      (snapshotToCharge p snap s).plc.result = s.plc.result ∧
      (snapshotToCharge p snap s).plc.asked = s.plc.asked ∧
      (snapshotToCharge p snap s).evr.routes = s.evr.routes ∧
      (snapshotToCharge p snap s).evr.button = s.evr.button ∧
      (snapshotToCharge p snap s).evr.keys = s.evr.keys ∧
      (snapshotToCharge p snap s).evr.capture = s.evr.capture ∧
      (snapshotToCharge p snap s).evr.fault = s.evr.fault ∧
      (snapshotToCharge p snap s).hlk.queue = s.hlk.queue ∧
      (snapshotToCharge p snap s).hlk.resetPending = s.hlk.resetPending ∧
      (snapshotToCharge p snap s).hlk.rx = s.hlk.rx ∧ (snapshotToCharge p snap s).hlk.series = s.hlk.series ∧
      (snapshotToCharge p snap s).hlk.held = s.hlk.held := by
  simp only [snapshotToCharge]
  repeat' split
  all_goals simp

@[simp] theorem trySession_frame (s : State) :
    (trySession s).time = s.time ∧ (trySession s).pth = s.pth ∧ (trySession s).bga = s.bga ∧
      (trySession s).hsi = s.hsi ∧ (trySession s).psm = s.psm ∧ (trySession s).kbs = s.kbs ∧
      (trySession s).thc = s.thc ∧ (trySession s).swc = s.swc ∧ (trySession s).fsu = s.fsu ∧
      (trySession s).sts = s.sts ∧ (trySession s).pending = s.pending ∧ (trySession s).chc.order = s.chc.order ∧
      (trySession s).chc.threshold = s.chc.threshold ∧ (trySession s).chc.openRow = s.chc.openRow ∧
      (trySession s).chc.latches = s.chc.latches ∧ (trySession s).chc.table = s.chc.table ∧
      (trySession s).plc.devices = s.plc.devices ∧ (trySession s).plc.pass = s.plc.pass ∧
      (trySession s).plc.caught = s.plc.caught ∧ (trySession s).plc.result = s.plc.result ∧
      (trySession s).plc.asked = s.plc.asked ∧ (trySession s).evr.routes = s.evr.routes ∧
      (trySession s).evr.button = s.evr.button ∧ (trySession s).evr.keys = s.evr.keys ∧
      (trySession s).evr.capture = s.evr.capture ∧ (trySession s).evr.fault = s.evr.fault ∧
      (trySession s).hlk.queue = s.hlk.queue ∧ (trySession s).hlk.resetPending = s.hlk.resetPending ∧
      (trySession s).hlk.rx = s.hlk.rx ∧ (trySession s).hlk.series = s.hlk.series ∧
      (trySession s).hlk.held = s.hlk.held := by
  simp only [trySession]
  repeat' split
  all_goals simp

@[simp] theorem settleCharge_frame (moment : Bool) (before : State) (s : State) :
    (settleCharge moment before s).time = s.time ∧ (settleCharge moment before s).pth = s.pth ∧
      (settleCharge moment before s).bga = s.bga ∧ (settleCharge moment before s).hsi = s.hsi ∧
      (settleCharge moment before s).psm = s.psm ∧ (settleCharge moment before s).kbs = s.kbs ∧
      (settleCharge moment before s).thc = s.thc ∧ (settleCharge moment before s).swc = s.swc ∧
      (settleCharge moment before s).fsu = s.fsu ∧ (settleCharge moment before s).sts = s.sts ∧
      (settleCharge moment before s).pending = s.pending ∧
      (settleCharge moment before s).chc.order = s.chc.order ∧
      (settleCharge moment before s).chc.threshold = s.chc.threshold ∧
      (settleCharge moment before s).chc.openRow = s.chc.openRow ∧
      (settleCharge moment before s).chc.latches = s.chc.latches ∧
      (settleCharge moment before s).chc.table = s.chc.table ∧
      (settleCharge moment before s).plc.devices = s.plc.devices ∧
      (settleCharge moment before s).plc.pass = s.plc.pass ∧
      (settleCharge moment before s).plc.caught = s.plc.caught ∧
      (settleCharge moment before s).plc.result = s.plc.result ∧
      (settleCharge moment before s).evr.routes = s.evr.routes ∧
      (settleCharge moment before s).evr.button = s.evr.button ∧
      (settleCharge moment before s).evr.keys = s.evr.keys ∧
      (settleCharge moment before s).evr.capture = s.evr.capture ∧
      (settleCharge moment before s).evr.fault = s.evr.fault ∧
      (settleCharge moment before s).hlk.queue = s.hlk.queue ∧
      (settleCharge moment before s).hlk.resetPending = s.hlk.resetPending ∧
      (settleCharge moment before s).hlk.rx = s.hlk.rx ∧
      (settleCharge moment before s).hlk.series = s.hlk.series ∧
      (settleCharge moment before s).hlk.held = s.hlk.held := by
  simp only [settleCharge]
  repeat' split
  all_goals simp

@[simp] theorem settleAgain_frame (before : State) (s : State) :
    (settleAgain before s).time = s.time ∧ (settleAgain before s).pth = s.pth ∧
      (settleAgain before s).bga = s.bga ∧ (settleAgain before s).hsi = s.hsi ∧
      (settleAgain before s).psm = s.psm ∧ (settleAgain before s).kbs = s.kbs ∧
      (settleAgain before s).thc = s.thc ∧ (settleAgain before s).swc = s.swc ∧
      (settleAgain before s).fsu = s.fsu ∧ (settleAgain before s).sts = s.sts ∧
      (settleAgain before s).pending = s.pending ∧ (settleAgain before s).chc.order = s.chc.order ∧
      (settleAgain before s).chc.threshold = s.chc.threshold ∧
      (settleAgain before s).chc.openRow = s.chc.openRow ∧ (settleAgain before s).chc.latches = s.chc.latches ∧
      (settleAgain before s).chc.table = s.chc.table ∧ (settleAgain before s).plc.devices = s.plc.devices ∧
      (settleAgain before s).plc.pass = s.plc.pass ∧ (settleAgain before s).plc.caught = s.plc.caught ∧
      (settleAgain before s).plc.result = s.plc.result ∧ (settleAgain before s).evr.routes = s.evr.routes ∧
      (settleAgain before s).evr.button = s.evr.button ∧ (settleAgain before s).evr.keys = s.evr.keys ∧
      (settleAgain before s).evr.capture = s.evr.capture ∧ (settleAgain before s).evr.fault = s.evr.fault ∧
      (settleAgain before s).hlk.queue = s.hlk.queue ∧
      (settleAgain before s).hlk.resetPending = s.hlk.resetPending ∧ (settleAgain before s).hlk.rx = s.hlk.rx ∧
      (settleAgain before s).hlk.series = s.hlk.series ∧ (settleAgain before s).hlk.held = s.hlk.held := by
  simp only [settleAgain]
  repeat' split
  all_goals simp

@[simp] theorem regrant_frame (s : State) :
    (regrant s).time = s.time ∧ (regrant s).pth = s.pth ∧ (regrant s).bga = s.bga ∧ (regrant s).hsi = s.hsi ∧
      (regrant s).psm = s.psm ∧ (regrant s).kbs = s.kbs ∧ (regrant s).thc = s.thc ∧ (regrant s).swc = s.swc ∧
      (regrant s).fsu = s.fsu ∧ (regrant s).sts = s.sts ∧ (regrant s).pending = s.pending ∧
      (regrant s).chc.order = s.chc.order ∧ (regrant s).chc.threshold = s.chc.threshold ∧
      (regrant s).chc.openRow = s.chc.openRow ∧ (regrant s).chc.latches = s.chc.latches ∧
      (regrant s).chc.table = s.chc.table ∧ (regrant s).plc.devices = s.plc.devices ∧
      (regrant s).plc.pass = s.plc.pass ∧ (regrant s).plc.caught = s.plc.caught ∧
      (regrant s).plc.result = s.plc.result ∧ (regrant s).evr.routes = s.evr.routes ∧
      (regrant s).evr.button = s.evr.button ∧ (regrant s).evr.keys = s.evr.keys ∧
      (regrant s).evr.capture = s.evr.capture ∧ (regrant s).evr.fault = s.evr.fault ∧
      (regrant s).hlk.queue = s.hlk.queue ∧ (regrant s).hlk.resetPending = s.hlk.resetPending ∧
      (regrant s).hlk.rx = s.hlk.rx ∧ (regrant s).hlk.series = s.hlk.series ∧ (regrant s).hlk.held = s.hlk.held := by
  simp only [regrant]
  repeat' split
  all_goals simp

@[simp] theorem leaveAdapter_frame (s : State) :
    (leaveAdapter s).time = s.time ∧ (leaveAdapter s).pth = s.pth ∧ (leaveAdapter s).bga = s.bga ∧
      (leaveAdapter s).hsi = s.hsi ∧ (leaveAdapter s).psm = s.psm ∧ (leaveAdapter s).kbs = s.kbs ∧
      (leaveAdapter s).thc = s.thc ∧ (leaveAdapter s).swc = s.swc ∧ (leaveAdapter s).fsu = s.fsu ∧
      (leaveAdapter s).sts = s.sts ∧ (leaveAdapter s).pending = s.pending ∧
      (leaveAdapter s).chc.order = s.chc.order ∧ (leaveAdapter s).chc.threshold = s.chc.threshold ∧
      (leaveAdapter s).chc.openRow = s.chc.openRow ∧ (leaveAdapter s).chc.latches = s.chc.latches ∧
      (leaveAdapter s).chc.table = s.chc.table ∧ (leaveAdapter s).plc.devices = s.plc.devices ∧
      (leaveAdapter s).plc.pass = s.plc.pass ∧ (leaveAdapter s).plc.caught = s.plc.caught ∧
      (leaveAdapter s).plc.result = s.plc.result ∧ (leaveAdapter s).evr.routes = s.evr.routes ∧
      (leaveAdapter s).evr.button = s.evr.button ∧ (leaveAdapter s).evr.keys = s.evr.keys ∧
      (leaveAdapter s).evr.capture = s.evr.capture ∧ (leaveAdapter s).evr.fault = s.evr.fault ∧
      (leaveAdapter s).hlk.queue = s.hlk.queue ∧ (leaveAdapter s).hlk.resetPending = s.hlk.resetPending ∧
      (leaveAdapter s).hlk.rx = s.hlk.rx ∧ (leaveAdapter s).hlk.series = s.hlk.series ∧
      (leaveAdapter s).hlk.held = s.hlk.held := by
  simp only [leaveAdapter]
  repeat' split
  all_goals simp

@[simp] theorem removeFromCharge_frame (p : PackId) (s : State) :
    (removeFromCharge p s).time = s.time ∧ (removeFromCharge p s).pth = s.pth ∧
      (removeFromCharge p s).bga = s.bga ∧ (removeFromCharge p s).hsi = s.hsi ∧
      (removeFromCharge p s).psm = s.psm ∧ (removeFromCharge p s).kbs = s.kbs ∧
      (removeFromCharge p s).thc = s.thc ∧ (removeFromCharge p s).swc = s.swc ∧
      (removeFromCharge p s).fsu = s.fsu ∧ (removeFromCharge p s).sts = s.sts ∧
      (removeFromCharge p s).pending = s.pending ∧ (removeFromCharge p s).chc.order = s.chc.order ∧
      (removeFromCharge p s).chc.threshold = s.chc.threshold ∧
      (removeFromCharge p s).chc.openRow = s.chc.openRow ∧ (removeFromCharge p s).chc.latches = s.chc.latches ∧
      (removeFromCharge p s).chc.table = s.chc.table ∧ (removeFromCharge p s).plc.devices = s.plc.devices ∧
      (removeFromCharge p s).plc.pass = s.plc.pass ∧ (removeFromCharge p s).plc.caught = s.plc.caught ∧
      (removeFromCharge p s).plc.result = s.plc.result ∧ (removeFromCharge p s).evr.routes = s.evr.routes ∧
      (removeFromCharge p s).evr.button = s.evr.button ∧ (removeFromCharge p s).evr.keys = s.evr.keys ∧
      (removeFromCharge p s).evr.capture = s.evr.capture ∧ (removeFromCharge p s).evr.fault = s.evr.fault ∧
      (removeFromCharge p s).hlk.queue = s.hlk.queue ∧
      (removeFromCharge p s).hlk.resetPending = s.hlk.resetPending ∧ (removeFromCharge p s).hlk.rx = s.hlk.rx ∧
      (removeFromCharge p s).hlk.series = s.hlk.series ∧ (removeFromCharge p s).hlk.held = s.hlk.held := by
  simp only [removeFromCharge]
  repeat' split
  all_goals simp

@[simp] theorem setInhibit_frame (p : PackId) (b : Bool) (s : State) :
    (setInhibit p b s).time = s.time ∧ (setInhibit p b s).pth = s.pth ∧ (setInhibit p b s).bga = s.bga ∧
      (setInhibit p b s).plc = s.plc ∧ (setInhibit p b s).hsi = s.hsi ∧ (setInhibit p b s).psm = s.psm ∧
      (setInhibit p b s).kbs = s.kbs ∧ (setInhibit p b s).thc = s.thc ∧ (setInhibit p b s).swc = s.swc ∧
      (setInhibit p b s).fsu = s.fsu ∧ (setInhibit p b s).sts = s.sts ∧ (setInhibit p b s).pending = s.pending ∧
      (setInhibit p b s).chc.order = s.chc.order ∧ (setInhibit p b s).chc.threshold = s.chc.threshold ∧
      (setInhibit p b s).chc.openRow = s.chc.openRow ∧ (setInhibit p b s).chc.latches = s.chc.latches ∧
      (setInhibit p b s).chc.table = s.chc.table ∧ (setInhibit p b s).evr.routes = s.evr.routes ∧
      (setInhibit p b s).evr.button = s.evr.button ∧ (setInhibit p b s).evr.keys = s.evr.keys ∧
      (setInhibit p b s).evr.capture = s.evr.capture ∧ (setInhibit p b s).evr.fault = s.evr.fault ∧
      (setInhibit p b s).hlk.queue = s.hlk.queue ∧ (setInhibit p b s).hlk.resetPending = s.hlk.resetPending ∧
      (setInhibit p b s).hlk.rx = s.hlk.rx ∧ (setInhibit p b s).hlk.series = s.hlk.series ∧
      (setInhibit p b s).hlk.held = s.hlk.held := by
  simp only [setInhibit]
  repeat' split
  all_goals simp

@[simp] theorem clearChargeFault_frame (r : ChargeFault) (s : State) :
    (clearChargeFault r s).time = s.time ∧ (clearChargeFault r s).pth = s.pth ∧
      (clearChargeFault r s).bga = s.bga ∧ (clearChargeFault r s).hsi = s.hsi ∧
      (clearChargeFault r s).psm = s.psm ∧ (clearChargeFault r s).kbs = s.kbs ∧
      (clearChargeFault r s).thc = s.thc ∧ (clearChargeFault r s).swc = s.swc ∧
      (clearChargeFault r s).fsu = s.fsu ∧ (clearChargeFault r s).sts = s.sts ∧
      (clearChargeFault r s).pending = s.pending ∧ (clearChargeFault r s).chc.order = s.chc.order ∧
      (clearChargeFault r s).chc.threshold = s.chc.threshold ∧
      (clearChargeFault r s).chc.openRow = s.chc.openRow ∧ (clearChargeFault r s).chc.latches = s.chc.latches ∧
      (clearChargeFault r s).chc.table = s.chc.table ∧ (clearChargeFault r s).plc.devices = s.plc.devices ∧
      (clearChargeFault r s).plc.pass = s.plc.pass ∧ (clearChargeFault r s).plc.caught = s.plc.caught ∧
      (clearChargeFault r s).plc.result = s.plc.result ∧ (clearChargeFault r s).evr.routes = s.evr.routes ∧
      (clearChargeFault r s).evr.button = s.evr.button ∧ (clearChargeFault r s).evr.keys = s.evr.keys ∧
      (clearChargeFault r s).evr.capture = s.evr.capture ∧ (clearChargeFault r s).evr.fault = s.evr.fault ∧
      (clearChargeFault r s).hlk.queue = s.hlk.queue ∧
      (clearChargeFault r s).hlk.resetPending = s.hlk.resetPending ∧ (clearChargeFault r s).hlk.rx = s.hlk.rx ∧
      (clearChargeFault r s).hlk.series = s.hlk.series ∧ (clearChargeFault r s).hlk.held = s.hlk.held := by
  simp only [clearChargeFault]
  repeat' split
  all_goals simp

@[simp] theorem chargeTimerEnd_frame (p : PackId) (r : ChargeFault) (c : FaultCode) (s : State) :
    (chargeTimerEnd p r c s).time = s.time ∧ (chargeTimerEnd p r c s).pth = s.pth ∧
      (chargeTimerEnd p r c s).bga = s.bga ∧ (chargeTimerEnd p r c s).hsi = s.hsi ∧
      (chargeTimerEnd p r c s).psm = s.psm ∧ (chargeTimerEnd p r c s).kbs = s.kbs ∧
      (chargeTimerEnd p r c s).thc = s.thc ∧ (chargeTimerEnd p r c s).swc = s.swc ∧
      (chargeTimerEnd p r c s).sts = s.sts ∧ (chargeTimerEnd p r c s).pending = s.pending ∧
      (chargeTimerEnd p r c s).chc.order = s.chc.order ∧
      (chargeTimerEnd p r c s).chc.threshold = s.chc.threshold ∧
      (chargeTimerEnd p r c s).chc.openRow = s.chc.openRow ∧
      (chargeTimerEnd p r c s).chc.latches = s.chc.latches ∧ (chargeTimerEnd p r c s).chc.table = s.chc.table ∧
      (chargeTimerEnd p r c s).plc.devices = s.plc.devices ∧ (chargeTimerEnd p r c s).plc.pass = s.plc.pass ∧
      (chargeTimerEnd p r c s).evr.routes = s.evr.routes ∧ (chargeTimerEnd p r c s).hlk.queue = s.hlk.queue ∧
      (chargeTimerEnd p r c s).hlk.resetPending = s.hlk.resetPending ∧
      (chargeTimerEnd p r c s).hlk.rx = s.hlk.rx ∧ (chargeTimerEnd p r c s).hlk.series = s.hlk.series ∧
      (chargeTimerEnd p r c s).hlk.held = s.hlk.held := by
  simp only [chargeTimerEnd]
  repeat' split
  all_goals simp

@[simp] theorem commitEffects_frame (row : Nat) (s : State) :
    (commitEffects row s).time = s.time ∧ (commitEffects row s).pth = s.pth ∧
      (commitEffects row s).bga = s.bga ∧ (commitEffects row s).hsi = s.hsi ∧
      (commitEffects row s).psm = s.psm ∧ (commitEffects row s).kbs = s.kbs ∧
      (commitEffects row s).thc = s.thc ∧ (commitEffects row s).swc = s.swc ∧
      (commitEffects row s).fsu = s.fsu ∧ (commitEffects row s).sts = s.sts ∧
      (commitEffects row s).pending = s.pending ∧ (commitEffects row s).chc.order = s.chc.order ∧
      (commitEffects row s).chc.threshold = s.chc.threshold ∧
      (commitEffects row s).chc.openRow = s.chc.openRow ∧ (commitEffects row s).chc.latches = s.chc.latches ∧
      (commitEffects row s).chc.table = s.chc.table ∧ (commitEffects row s).plc.devices = s.plc.devices ∧
      (commitEffects row s).plc.pass = s.plc.pass ∧ (commitEffects row s).plc.caught = s.plc.caught ∧
      (commitEffects row s).plc.result = s.plc.result ∧ (commitEffects row s).evr.routes = s.evr.routes ∧
      (commitEffects row s).evr.button = s.evr.button ∧ (commitEffects row s).evr.keys = s.evr.keys ∧
      (commitEffects row s).evr.capture = s.evr.capture ∧ (commitEffects row s).evr.fault = s.evr.fault ∧
      (commitEffects row s).hlk.queue = s.hlk.queue ∧
      (commitEffects row s).hlk.resetPending = s.hlk.resetPending ∧ (commitEffects row s).hlk.rx = s.hlk.rx ∧
      (commitEffects row s).hlk.series = s.hlk.series ∧ (commitEffects row s).hlk.held = s.hlk.held := by
  simp only [commitEffects]
  repeat' split
  all_goals simp

@[simp] theorem quiesceCharge_frame (s : State) :
    (quiesceCharge s).time = s.time ∧ (quiesceCharge s).pth = s.pth ∧ (quiesceCharge s).bga = s.bga ∧
      (quiesceCharge s).hsi = s.hsi ∧ (quiesceCharge s).psm = s.psm ∧ (quiesceCharge s).kbs = s.kbs ∧
      (quiesceCharge s).thc = s.thc ∧ (quiesceCharge s).swc = s.swc ∧ (quiesceCharge s).sts = s.sts ∧
      (quiesceCharge s).pending = s.pending ∧ (quiesceCharge s).chc.order = s.chc.order ∧
      (quiesceCharge s).chc.threshold = s.chc.threshold ∧ (quiesceCharge s).chc.openRow = s.chc.openRow ∧
      (quiesceCharge s).chc.latches = s.chc.latches ∧ (quiesceCharge s).chc.table = s.chc.table ∧
      (quiesceCharge s).plc.devices = s.plc.devices ∧ (quiesceCharge s).plc.pass = s.plc.pass ∧
      (quiesceCharge s).fsu.table = s.fsu.table ∧ (quiesceCharge s).evr.routes = s.evr.routes ∧
      (quiesceCharge s).evr.button = s.evr.button ∧ (quiesceCharge s).evr.keys = s.evr.keys ∧
      (quiesceCharge s).evr.capture = s.evr.capture ∧ (quiesceCharge s).evr.fault = s.evr.fault ∧
      (quiesceCharge s).hlk.queue = s.hlk.queue ∧ (quiesceCharge s).hlk.resetPending = s.hlk.resetPending ∧
      (quiesceCharge s).hlk.rx = s.hlk.rx ∧ (quiesceCharge s).hlk.series = s.hlk.series ∧
      (quiesceCharge s).hlk.held = s.hlk.held := by
  simp only [quiesceCharge]
  repeat' split
  all_goals simp

@[simp] theorem resumeSession_frame (c : ChargeCatch) (s : State) :
    (resumeSession c s).time = s.time ∧ (resumeSession c s).pth = s.pth ∧ (resumeSession c s).bga = s.bga ∧
      (resumeSession c s).hsi = s.hsi ∧ (resumeSession c s).psm = s.psm ∧ (resumeSession c s).kbs = s.kbs ∧
      (resumeSession c s).thc = s.thc ∧ (resumeSession c s).swc = s.swc ∧ (resumeSession c s).fsu = s.fsu ∧
      (resumeSession c s).sts = s.sts ∧ (resumeSession c s).pending = s.pending ∧
      (resumeSession c s).chc.order = s.chc.order ∧ (resumeSession c s).chc.threshold = s.chc.threshold ∧
      (resumeSession c s).chc.openRow = s.chc.openRow ∧ (resumeSession c s).chc.latches = s.chc.latches ∧
      (resumeSession c s).chc.table = s.chc.table ∧ (resumeSession c s).plc.devices = s.plc.devices ∧
      (resumeSession c s).plc.pass = s.plc.pass ∧ (resumeSession c s).plc.caught = s.plc.caught ∧
      (resumeSession c s).plc.result = s.plc.result ∧ (resumeSession c s).plc.asked = s.plc.asked ∧
      (resumeSession c s).evr.routes = s.evr.routes ∧ (resumeSession c s).evr.button = s.evr.button ∧
      (resumeSession c s).evr.keys = s.evr.keys ∧ (resumeSession c s).evr.capture = s.evr.capture ∧
      (resumeSession c s).evr.fault = s.evr.fault ∧ (resumeSession c s).hlk.queue = s.hlk.queue ∧
      (resumeSession c s).hlk.resetPending = s.hlk.resetPending ∧ (resumeSession c s).hlk.rx = s.hlk.rx ∧
      (resumeSession c s).hlk.series = s.hlk.series ∧ (resumeSession c s).hlk.held = s.hlk.held := by
  simp only [resumeSession]
  repeat' split
  all_goals simp

@[simp] theorem initialCharge_frame (p : PackId) (s : State) :
    (initialCharge p s).time = s.time ∧ (initialCharge p s).pth = s.pth ∧ (initialCharge p s).bga = s.bga ∧
      (initialCharge p s).plc = s.plc ∧ (initialCharge p s).hsi = s.hsi ∧ (initialCharge p s).psm = s.psm ∧
      (initialCharge p s).kbs = s.kbs ∧ (initialCharge p s).thc = s.thc ∧ (initialCharge p s).swc = s.swc ∧
      (initialCharge p s).fsu = s.fsu ∧ (initialCharge p s).sts = s.sts ∧
      (initialCharge p s).pending = s.pending ∧ (initialCharge p s).chc.order = s.chc.order ∧
      (initialCharge p s).chc.threshold = s.chc.threshold ∧ (initialCharge p s).chc.openRow = s.chc.openRow ∧
      (initialCharge p s).chc.latches = s.chc.latches ∧ (initialCharge p s).chc.table = s.chc.table ∧
      (initialCharge p s).evr.routes = s.evr.routes ∧ (initialCharge p s).evr.button = s.evr.button ∧
      (initialCharge p s).evr.keys = s.evr.keys ∧ (initialCharge p s).evr.capture = s.evr.capture ∧
      (initialCharge p s).evr.fault = s.evr.fault ∧ (initialCharge p s).hlk.queue = s.hlk.queue ∧
      (initialCharge p s).hlk.resetPending = s.hlk.resetPending ∧ (initialCharge p s).hlk.rx = s.hlk.rx ∧
      (initialCharge p s).hlk.series = s.hlk.series ∧ (initialCharge p s).hlk.held = s.hlk.held := by
  simp only [initialCharge]
  repeat' split
  all_goals simp

@[simp] theorem returnCharge_frame (fromOff : Bool) (s : State) :
    (returnCharge fromOff s).time = s.time ∧ (returnCharge fromOff s).pth = s.pth ∧
      (returnCharge fromOff s).bga = s.bga ∧ (returnCharge fromOff s).hsi = s.hsi ∧
      (returnCharge fromOff s).psm = s.psm ∧ (returnCharge fromOff s).kbs = s.kbs ∧
      (returnCharge fromOff s).thc = s.thc ∧ (returnCharge fromOff s).swc = s.swc ∧
      (returnCharge fromOff s).fsu = s.fsu ∧ (returnCharge fromOff s).sts = s.sts ∧
      (returnCharge fromOff s).pending = s.pending ∧ (returnCharge fromOff s).chc.order = s.chc.order ∧
      (returnCharge fromOff s).chc.threshold = s.chc.threshold ∧
      (returnCharge fromOff s).chc.openRow = s.chc.openRow ∧
      (returnCharge fromOff s).chc.latches = s.chc.latches ∧ (returnCharge fromOff s).chc.table = s.chc.table ∧
      (returnCharge fromOff s).plc.devices = s.plc.devices ∧ (returnCharge fromOff s).plc.pass = s.plc.pass ∧
      (returnCharge fromOff s).plc.caught = s.plc.caught ∧ (returnCharge fromOff s).plc.result = s.plc.result ∧
      (returnCharge fromOff s).evr.routes = s.evr.routes ∧ (returnCharge fromOff s).evr.button = s.evr.button ∧
      (returnCharge fromOff s).evr.keys = s.evr.keys ∧ (returnCharge fromOff s).evr.capture = s.evr.capture ∧
      (returnCharge fromOff s).evr.fault = s.evr.fault ∧ (returnCharge fromOff s).hlk.queue = s.hlk.queue ∧
      (returnCharge fromOff s).hlk.resetPending = s.hlk.resetPending ∧
      (returnCharge fromOff s).hlk.rx = s.hlk.rx ∧ (returnCharge fromOff s).hlk.series = s.hlk.series ∧
      (returnCharge fromOff s).hlk.held = s.hlk.held := by
  simp only [returnCharge]
  repeat' split
  all_goals simp

@[simp] theorem applyGrant_frame (s : State) :
    (applyGrant s).time = s.time ∧ (applyGrant s).pth = s.pth ∧ (applyGrant s).hsi = s.hsi ∧
      (applyGrant s).psm = s.psm ∧ (applyGrant s).kbs = s.kbs ∧ (applyGrant s).thc = s.thc ∧
      (applyGrant s).swc = s.swc ∧ (applyGrant s).fsu = s.fsu ∧ (applyGrant s).sts = s.sts ∧
      (applyGrant s).pending = s.pending ∧ (applyGrant s).chc.order = s.chc.order ∧
      (applyGrant s).chc.threshold = s.chc.threshold ∧ (applyGrant s).chc.openRow = s.chc.openRow ∧
      (applyGrant s).chc.latches = s.chc.latches ∧ (applyGrant s).chc.table = s.chc.table ∧
      (applyGrant s).plc.devices = s.plc.devices ∧ (applyGrant s).plc.pass = s.plc.pass ∧
      (applyGrant s).plc.caught = s.plc.caught ∧ (applyGrant s).plc.result = s.plc.result ∧
      (applyGrant s).evr.routes = s.evr.routes ∧ (applyGrant s).evr.button = s.evr.button ∧
      (applyGrant s).evr.keys = s.evr.keys ∧ (applyGrant s).evr.capture = s.evr.capture ∧
      (applyGrant s).evr.fault = s.evr.fault ∧ (applyGrant s).hlk.queue = s.hlk.queue ∧
      (applyGrant s).hlk.resetPending = s.hlk.resetPending ∧ (applyGrant s).hlk.rx = s.hlk.rx ∧
      (applyGrant s).hlk.series = s.hlk.series ∧ (applyGrant s).hlk.held = s.hlk.held := by
  simp only [applyGrant]
  repeat' split
  all_goals simp

@[simp] theorem zeroGrant_frame (s : State) :
    (zeroGrant s).time = s.time ∧ (zeroGrant s).pth = s.pth ∧ (zeroGrant s).hsi = s.hsi ∧
      (zeroGrant s).psm = s.psm ∧ (zeroGrant s).kbs = s.kbs ∧ (zeroGrant s).thc = s.thc ∧
      (zeroGrant s).swc = s.swc ∧ (zeroGrant s).fsu = s.fsu ∧ (zeroGrant s).sts = s.sts ∧
      (zeroGrant s).pending = s.pending ∧ (zeroGrant s).chc.order = s.chc.order ∧
      (zeroGrant s).chc.threshold = s.chc.threshold ∧ (zeroGrant s).chc.openRow = s.chc.openRow ∧
      (zeroGrant s).chc.latches = s.chc.latches ∧ (zeroGrant s).chc.table = s.chc.table ∧
      (zeroGrant s).plc.devices = s.plc.devices ∧ (zeroGrant s).plc.pass = s.plc.pass ∧
      (zeroGrant s).plc.caught = s.plc.caught ∧ (zeroGrant s).plc.result = s.plc.result ∧
      (zeroGrant s).evr.routes = s.evr.routes ∧ (zeroGrant s).evr.button = s.evr.button ∧
      (zeroGrant s).evr.keys = s.evr.keys ∧ (zeroGrant s).evr.capture = s.evr.capture ∧
      (zeroGrant s).evr.fault = s.evr.fault ∧ (zeroGrant s).hlk.queue = s.hlk.queue ∧
      (zeroGrant s).hlk.resetPending = s.hlk.resetPending ∧ (zeroGrant s).hlk.rx = s.hlk.rx ∧
      (zeroGrant s).hlk.series = s.hlk.series ∧ (zeroGrant s).hlk.held = s.hlk.held := by
  simp only [zeroGrant]
  repeat' split
  all_goals simp

@[simp] theorem beginEpisode_frame (owner : Source) (excess : Nat) (s : State) :
    (beginEpisode owner excess s).time = s.time ∧ (beginEpisode owner excess s).pth = s.pth ∧
      (beginEpisode owner excess s).chc = s.chc ∧ (beginEpisode owner excess s).plc = s.plc ∧
      (beginEpisode owner excess s).hsi = s.hsi ∧ (beginEpisode owner excess s).psm = s.psm ∧
      (beginEpisode owner excess s).kbs = s.kbs ∧ (beginEpisode owner excess s).thc = s.thc ∧
      (beginEpisode owner excess s).swc = s.swc ∧ (beginEpisode owner excess s).fsu = s.fsu ∧
      (beginEpisode owner excess s).sts = s.sts ∧ (beginEpisode owner excess s).pending = s.pending ∧
      (beginEpisode owner excess s).evr.routes = s.evr.routes ∧
      (beginEpisode owner excess s).evr.button = s.evr.button ∧
      (beginEpisode owner excess s).evr.keys = s.evr.keys ∧
      (beginEpisode owner excess s).evr.capture = s.evr.capture ∧
      (beginEpisode owner excess s).evr.fault = s.evr.fault ∧
      (beginEpisode owner excess s).hlk.queue = s.hlk.queue ∧
      (beginEpisode owner excess s).hlk.resetPending = s.hlk.resetPending ∧
      (beginEpisode owner excess s).hlk.rx = s.hlk.rx ∧
      (beginEpisode owner excess s).hlk.series = s.hlk.series ∧
      (beginEpisode owner excess s).hlk.held = s.hlk.held := by
  simp only [beginEpisode]
  repeat' split
  all_goals simp

@[simp] theorem evaluateThrottle_frame (owner : Source) (draw : Nat) (limit : Nat) (s : State) :
    (evaluateThrottle owner draw limit s).time = s.time ∧ (evaluateThrottle owner draw limit s).pth = s.pth ∧
      (evaluateThrottle owner draw limit s).chc = s.chc ∧ (evaluateThrottle owner draw limit s).plc = s.plc ∧
      (evaluateThrottle owner draw limit s).hsi = s.hsi ∧ (evaluateThrottle owner draw limit s).psm = s.psm ∧
      (evaluateThrottle owner draw limit s).kbs = s.kbs ∧ (evaluateThrottle owner draw limit s).thc = s.thc ∧
      (evaluateThrottle owner draw limit s).swc = s.swc ∧ (evaluateThrottle owner draw limit s).fsu = s.fsu ∧
      (evaluateThrottle owner draw limit s).sts = s.sts ∧
      (evaluateThrottle owner draw limit s).pending = s.pending ∧
      (evaluateThrottle owner draw limit s).evr.routes = s.evr.routes ∧
      (evaluateThrottle owner draw limit s).evr.button = s.evr.button ∧
      (evaluateThrottle owner draw limit s).evr.keys = s.evr.keys ∧
      (evaluateThrottle owner draw limit s).evr.capture = s.evr.capture ∧
      (evaluateThrottle owner draw limit s).evr.fault = s.evr.fault ∧
      (evaluateThrottle owner draw limit s).hlk.queue = s.hlk.queue ∧
      (evaluateThrottle owner draw limit s).hlk.resetPending = s.hlk.resetPending ∧
      (evaluateThrottle owner draw limit s).hlk.rx = s.hlk.rx ∧
      (evaluateThrottle owner draw limit s).hlk.series = s.hlk.series ∧
      (evaluateThrottle owner draw limit s).hlk.held = s.hlk.held := by
  simp only [evaluateThrottle]
  repeat' split
  all_goals simp

@[simp] theorem batteryThrottle_frame (p : PackId) (x : Snapshot) (s : State) :
    (batteryThrottle p x s).time = s.time ∧ (batteryThrottle p x s).pth = s.pth ∧
      (batteryThrottle p x s).chc = s.chc ∧ (batteryThrottle p x s).plc = s.plc ∧
      (batteryThrottle p x s).hsi = s.hsi ∧ (batteryThrottle p x s).psm = s.psm ∧
      (batteryThrottle p x s).kbs = s.kbs ∧ (batteryThrottle p x s).thc = s.thc ∧
      (batteryThrottle p x s).swc = s.swc ∧ (batteryThrottle p x s).fsu = s.fsu ∧
      (batteryThrottle p x s).sts = s.sts ∧ (batteryThrottle p x s).pending = s.pending ∧
      (batteryThrottle p x s).evr.routes = s.evr.routes ∧ (batteryThrottle p x s).evr.button = s.evr.button ∧
      (batteryThrottle p x s).evr.keys = s.evr.keys ∧ (batteryThrottle p x s).evr.capture = s.evr.capture ∧
      (batteryThrottle p x s).evr.fault = s.evr.fault ∧ (batteryThrottle p x s).hlk.queue = s.hlk.queue ∧
      (batteryThrottle p x s).hlk.resetPending = s.hlk.resetPending ∧
      (batteryThrottle p x s).hlk.rx = s.hlk.rx ∧ (batteryThrottle p x s).hlk.series = s.hlk.series ∧
      (batteryThrottle p x s).hlk.held = s.hlk.held := by
  simp only [batteryThrottle]
  repeat' split
  all_goals simp

@[simp] theorem snapshotToBudget_frame (p : PackId) (x : Snapshot) (s : State) :
    (snapshotToBudget p x s).time = s.time ∧ (snapshotToBudget p x s).pth = s.pth ∧
      (snapshotToBudget p x s).chc = s.chc ∧ (snapshotToBudget p x s).plc = s.plc ∧
      (snapshotToBudget p x s).hsi = s.hsi ∧ (snapshotToBudget p x s).psm = s.psm ∧
      (snapshotToBudget p x s).kbs = s.kbs ∧ (snapshotToBudget p x s).thc = s.thc ∧
      (snapshotToBudget p x s).swc = s.swc ∧ (snapshotToBudget p x s).fsu = s.fsu ∧
      (snapshotToBudget p x s).sts = s.sts ∧ (snapshotToBudget p x s).pending = s.pending ∧
      (snapshotToBudget p x s).evr.routes = s.evr.routes ∧ (snapshotToBudget p x s).evr.button = s.evr.button ∧
      (snapshotToBudget p x s).evr.keys = s.evr.keys ∧ (snapshotToBudget p x s).evr.capture = s.evr.capture ∧
      (snapshotToBudget p x s).evr.fault = s.evr.fault ∧ (snapshotToBudget p x s).hlk.queue = s.hlk.queue ∧
      (snapshotToBudget p x s).hlk.resetPending = s.hlk.resetPending ∧
      (snapshotToBudget p x s).hlk.rx = s.hlk.rx ∧ (snapshotToBudget p x s).hlk.series = s.hlk.series ∧
      (snapshotToBudget p x s).hlk.held = s.hlk.held := by
  simp only [snapshotToBudget]
  repeat' split
  all_goals simp

@[simp] theorem endOther_frame (owner : Option Source) (s : State) :
    (endOther owner s).time = s.time ∧ (endOther owner s).pth = s.pth ∧ (endOther owner s).chc = s.chc ∧
      (endOther owner s).plc = s.plc ∧ (endOther owner s).hsi = s.hsi ∧ (endOther owner s).psm = s.psm ∧
      (endOther owner s).kbs = s.kbs ∧ (endOther owner s).thc = s.thc ∧ (endOther owner s).swc = s.swc ∧
      (endOther owner s).fsu = s.fsu ∧ (endOther owner s).evr = s.evr ∧ (endOther owner s).hlk = s.hlk ∧
      (endOther owner s).sts = s.sts ∧ (endOther owner s).pending = s.pending := by
  simp only [endOther]
  repeat' split
  all_goals simp

@[simp] theorem pathToBudget_frame (s : State) :
    (pathToBudget s).time = s.time ∧ (pathToBudget s).pth = s.pth ∧ (pathToBudget s).hsi = s.hsi ∧
      (pathToBudget s).psm = s.psm ∧ (pathToBudget s).kbs = s.kbs ∧ (pathToBudget s).thc = s.thc ∧
      (pathToBudget s).swc = s.swc ∧ (pathToBudget s).fsu = s.fsu ∧ (pathToBudget s).sts = s.sts ∧
      (pathToBudget s).pending = s.pending ∧ (pathToBudget s).chc.order = s.chc.order ∧
      (pathToBudget s).chc.threshold = s.chc.threshold ∧ (pathToBudget s).chc.openRow = s.chc.openRow ∧
      (pathToBudget s).chc.latches = s.chc.latches ∧ (pathToBudget s).chc.table = s.chc.table ∧
      (pathToBudget s).plc.devices = s.plc.devices ∧ (pathToBudget s).plc.pass = s.plc.pass ∧
      (pathToBudget s).plc.caught = s.plc.caught ∧ (pathToBudget s).plc.result = s.plc.result ∧
      (pathToBudget s).evr.routes = s.evr.routes ∧ (pathToBudget s).evr.button = s.evr.button ∧
      (pathToBudget s).evr.keys = s.evr.keys ∧ (pathToBudget s).evr.capture = s.evr.capture ∧
      (pathToBudget s).evr.fault = s.evr.fault ∧ (pathToBudget s).hlk.queue = s.hlk.queue ∧
      (pathToBudget s).hlk.resetPending = s.hlk.resetPending ∧ (pathToBudget s).hlk.rx = s.hlk.rx ∧
      (pathToBudget s).hlk.series = s.hlk.series ∧ (pathToBudget s).hlk.held = s.hlk.held := by
  simp only [pathToBudget]
  repeat' split
  all_goals simp

@[simp] theorem quiesceBudget_frame (s : State) :
    (quiesceBudget s).time = s.time ∧ (quiesceBudget s).pth = s.pth ∧ (quiesceBudget s).hsi = s.hsi ∧
      (quiesceBudget s).psm = s.psm ∧ (quiesceBudget s).kbs = s.kbs ∧ (quiesceBudget s).thc = s.thc ∧
      (quiesceBudget s).swc = s.swc ∧ (quiesceBudget s).sts = s.sts ∧ (quiesceBudget s).pending = s.pending ∧
      (quiesceBudget s).chc.order = s.chc.order ∧ (quiesceBudget s).chc.threshold = s.chc.threshold ∧
      (quiesceBudget s).chc.openRow = s.chc.openRow ∧ (quiesceBudget s).chc.latches = s.chc.latches ∧
      (quiesceBudget s).chc.table = s.chc.table ∧ (quiesceBudget s).plc.devices = s.plc.devices ∧
      (quiesceBudget s).plc.pass = s.plc.pass ∧ (quiesceBudget s).fsu.table = s.fsu.table ∧
      (quiesceBudget s).evr.routes = s.evr.routes ∧ (quiesceBudget s).evr.button = s.evr.button ∧
      (quiesceBudget s).evr.keys = s.evr.keys ∧ (quiesceBudget s).evr.capture = s.evr.capture ∧
      (quiesceBudget s).evr.fault = s.evr.fault ∧ (quiesceBudget s).hlk.queue = s.hlk.queue ∧
      (quiesceBudget s).hlk.resetPending = s.hlk.resetPending ∧ (quiesceBudget s).hlk.rx = s.hlk.rx ∧
      (quiesceBudget s).hlk.series = s.hlk.series ∧ (quiesceBudget s).hlk.held = s.hlk.held := by
  simp only [quiesceBudget]
  repeat' split
  all_goals simp

@[simp] theorem setPlatform_frame (p : Platform) (s : State) :
    (setPlatform p s).time = s.time ∧ (setPlatform p s).pth = s.pth ∧ (setPlatform p s).chc = s.chc ∧
      (setPlatform p s).bga = s.bga ∧ (setPlatform p s).hsi = s.hsi ∧ (setPlatform p s).psm = s.psm ∧
      (setPlatform p s).fsu = s.fsu ∧ (setPlatform p s).sts = s.sts ∧ (setPlatform p s).pending = s.pending ∧
      (setPlatform p s).plc.devices = s.plc.devices ∧ (setPlatform p s).plc.pass = s.plc.pass ∧
      (setPlatform p s).plc.caught = s.plc.caught ∧ (setPlatform p s).plc.result = s.plc.result ∧
      (setPlatform p s).kbs.settings = s.kbs.settings ∧ (setPlatform p s).thc.holds = s.thc.holds ∧
      (setPlatform p s).thc.inputs = s.thc.inputs ∧ (setPlatform p s).thc.floor = s.thc.floor ∧
      (setPlatform p s).thc.trip = s.thc.trip ∧ (setPlatform p s).thc.curves = s.thc.curves ∧
      (setPlatform p s).swc.presses = s.swc.presses ∧ (setPlatform p s).swc.settings = s.swc.settings ∧
      (setPlatform p s).swc.wakeTimer = s.swc.wakeTimer ∧ (setPlatform p s).evr.routes = s.evr.routes ∧
      (setPlatform p s).hlk.queue = s.hlk.queue ∧ (setPlatform p s).hlk.resetPending = s.hlk.resetPending ∧
      (setPlatform p s).hlk.rx = s.hlk.rx ∧ (setPlatform p s).hlk.series = s.hlk.series ∧
      (setPlatform p s).hlk.held = s.hlk.held := by
  simp only [setPlatform]
  repeat' split
  all_goals simp

@[simp] theorem startGrace_frame (s : State) :
    (startGrace s).time = s.time ∧ (startGrace s).pth = s.pth ∧ (startGrace s).chc = s.chc ∧
      (startGrace s).bga = s.bga ∧ (startGrace s).plc = s.plc ∧ (startGrace s).hsi = s.hsi ∧
      (startGrace s).psm = s.psm ∧ (startGrace s).kbs = s.kbs ∧ (startGrace s).thc = s.thc ∧
      (startGrace s).fsu = s.fsu ∧ (startGrace s).evr = s.evr ∧ (startGrace s).hlk = s.hlk ∧
      (startGrace s).sts = s.sts ∧ (startGrace s).pending = s.pending ∧
      (startGrace s).swc.presses = s.swc.presses ∧ (startGrace s).swc.settings = s.swc.settings ∧
      (startGrace s).swc.wakeTimer = s.swc.wakeTimer := by
  simp only [startGrace]
  repeat' split
  all_goals simp

@[simp] theorem reachOn_frame (s : State) :
    (reachOn s).time = s.time ∧ (reachOn s).pth = s.pth ∧ (reachOn s).chc = s.chc ∧ (reachOn s).bga = s.bga ∧
      (reachOn s).hsi = s.hsi ∧ (reachOn s).psm = s.psm ∧ (reachOn s).fsu = s.fsu ∧ (reachOn s).sts = s.sts ∧
      (reachOn s).pending = s.pending ∧ (reachOn s).plc.devices = s.plc.devices ∧
      (reachOn s).plc.pass = s.plc.pass ∧ (reachOn s).plc.caught = s.plc.caught ∧
      (reachOn s).plc.result = s.plc.result ∧ (reachOn s).kbs.settings = s.kbs.settings ∧
      (reachOn s).thc.holds = s.thc.holds ∧ (reachOn s).thc.inputs = s.thc.inputs ∧
      (reachOn s).thc.floor = s.thc.floor ∧ (reachOn s).thc.trip = s.thc.trip ∧
      (reachOn s).thc.curves = s.thc.curves ∧ (reachOn s).swc.presses = s.swc.presses ∧
      (reachOn s).swc.settings = s.swc.settings ∧ (reachOn s).swc.wakeTimer = s.swc.wakeTimer ∧
      (reachOn s).evr.routes = s.evr.routes ∧ (reachOn s).hlk.queue = s.hlk.queue ∧
      (reachOn s).hlk.resetPending = s.hlk.resetPending ∧ (reachOn s).hlk.rx = s.hlk.rx ∧
      (reachOn s).hlk.series = s.hlk.series ∧ (reachOn s).hlk.held = s.hlk.held := by
  simp only [reachOn]
  repeat' split
  all_goals simp

@[simp] theorem startPowerGood_frame (s : State) :
    (startPowerGood s).time = s.time ∧ (startPowerGood s).pth = s.pth ∧ (startPowerGood s).chc = s.chc ∧
      (startPowerGood s).bga = s.bga ∧ (startPowerGood s).hsi = s.hsi ∧ (startPowerGood s).psm = s.psm ∧
      (startPowerGood s).fsu = s.fsu ∧ (startPowerGood s).sts = s.sts ∧ (startPowerGood s).pending = s.pending ∧
      (startPowerGood s).plc.devices = s.plc.devices ∧ (startPowerGood s).plc.pass = s.plc.pass ∧
      (startPowerGood s).plc.caught = s.plc.caught ∧ (startPowerGood s).plc.result = s.plc.result ∧
      (startPowerGood s).kbs.settings = s.kbs.settings ∧ (startPowerGood s).thc.holds = s.thc.holds ∧
      (startPowerGood s).thc.inputs = s.thc.inputs ∧ (startPowerGood s).thc.floor = s.thc.floor ∧
      (startPowerGood s).thc.trip = s.thc.trip ∧ (startPowerGood s).thc.curves = s.thc.curves ∧
      (startPowerGood s).swc.presses = s.swc.presses ∧ (startPowerGood s).swc.settings = s.swc.settings ∧
      (startPowerGood s).swc.wakeTimer = s.swc.wakeTimer ∧ (startPowerGood s).evr.routes = s.evr.routes ∧
      (startPowerGood s).hlk.queue = s.hlk.queue ∧ (startPowerGood s).hlk.resetPending = s.hlk.resetPending ∧
      (startPowerGood s).hlk.rx = s.hlk.rx ∧ (startPowerGood s).hlk.series = s.hlk.series ∧
      (startPowerGood s).hlk.held = s.hlk.held := by
  simp only [startPowerGood]
  repeat' split
  all_goals simp

@[simp] theorem takeWake_frame (w : WakeSource) (s : State) :
    (takeWake w s).time = s.time ∧ (takeWake w s).pth = s.pth ∧ (takeWake w s).chc = s.chc ∧
      (takeWake w s).bga = s.bga ∧ (takeWake w s).plc = s.plc ∧ (takeWake w s).hsi = s.hsi ∧
      (takeWake w s).psm = s.psm ∧ (takeWake w s).kbs = s.kbs ∧ (takeWake w s).thc = s.thc ∧
      (takeWake w s).fsu = s.fsu ∧ (takeWake w s).evr = s.evr ∧ (takeWake w s).hlk = s.hlk ∧
      (takeWake w s).sts = s.sts ∧ (takeWake w s).pending = s.pending ∧
      (takeWake w s).swc.presses = s.swc.presses ∧ (takeWake w s).swc.settings = s.swc.settings ∧
      (takeWake w s).swc.wakeTimer = s.swc.wakeTimer := by
  simp only [takeWake]
  repeat' split
  all_goals simp

@[simp] theorem powerUp_frame (w : WakeSource) (s : State) :
    (powerUp w s).time = s.time ∧ (powerUp w s).pth = s.pth ∧ (powerUp w s).chc = s.chc ∧
      (powerUp w s).bga = s.bga ∧ (powerUp w s).hsi = s.hsi ∧ (powerUp w s).psm = s.psm ∧
      (powerUp w s).fsu = s.fsu ∧ (powerUp w s).sts = s.sts ∧ (powerUp w s).pending = s.pending ∧
      (powerUp w s).plc.devices = s.plc.devices ∧ (powerUp w s).plc.pass = s.plc.pass ∧
      (powerUp w s).plc.caught = s.plc.caught ∧ (powerUp w s).plc.result = s.plc.result ∧
      (powerUp w s).kbs.settings = s.kbs.settings ∧ (powerUp w s).thc.holds = s.thc.holds ∧
      (powerUp w s).thc.inputs = s.thc.inputs ∧ (powerUp w s).thc.floor = s.thc.floor ∧
      (powerUp w s).thc.trip = s.thc.trip ∧ (powerUp w s).thc.curves = s.thc.curves ∧
      (powerUp w s).swc.presses = s.swc.presses ∧ (powerUp w s).swc.settings = s.swc.settings ∧
      (powerUp w s).swc.wakeTimer = s.swc.wakeTimer ∧ (powerUp w s).evr.routes = s.evr.routes ∧
      (powerUp w s).hlk.queue = s.hlk.queue ∧ (powerUp w s).hlk.resetPending = s.hlk.resetPending ∧
      (powerUp w s).hlk.rx = s.hlk.rx ∧ (powerUp w s).hlk.series = s.hlk.series ∧
      (powerUp w s).hlk.held = s.hlk.held := by
  simp only [powerUp]
  repeat' split
  all_goals simp

@[simp] theorem wakeUp_frame (w : WakeSource) (s : State) :
    (wakeUp w s).time = s.time ∧ (wakeUp w s).pth = s.pth ∧ (wakeUp w s).chc = s.chc ∧
      (wakeUp w s).bga = s.bga ∧ (wakeUp w s).hsi = s.hsi ∧ (wakeUp w s).psm = s.psm ∧
      (wakeUp w s).fsu = s.fsu ∧ (wakeUp w s).sts = s.sts ∧ (wakeUp w s).pending = s.pending ∧
      (wakeUp w s).plc.devices = s.plc.devices ∧ (wakeUp w s).plc.pass = s.plc.pass ∧
      (wakeUp w s).plc.caught = s.plc.caught ∧ (wakeUp w s).plc.result = s.plc.result ∧
      (wakeUp w s).kbs.settings = s.kbs.settings ∧ (wakeUp w s).thc.holds = s.thc.holds ∧
      (wakeUp w s).thc.inputs = s.thc.inputs ∧ (wakeUp w s).thc.floor = s.thc.floor ∧
      (wakeUp w s).thc.trip = s.thc.trip ∧ (wakeUp w s).thc.curves = s.thc.curves ∧
      (wakeUp w s).swc.presses = s.swc.presses ∧ (wakeUp w s).swc.settings = s.swc.settings ∧
      (wakeUp w s).swc.wakeTimer = s.swc.wakeTimer ∧ (wakeUp w s).evr.routes = s.evr.routes ∧
      (wakeUp w s).hlk.queue = s.hlk.queue ∧ (wakeUp w s).hlk.resetPending = s.hlk.resetPending ∧
      (wakeUp w s).hlk.rx = s.hlk.rx ∧ (wakeUp w s).hlk.series = s.hlk.series ∧
      (wakeUp w s).hlk.held = s.hlk.held := by
  simp only [wakeUp]
  repeat' split
  all_goals simp

@[simp] theorem wake_frame (w : WakeSource) (s : State) :
    (wake w s).time = s.time ∧ (wake w s).pth = s.pth ∧ (wake w s).chc = s.chc ∧ (wake w s).bga = s.bga ∧
      (wake w s).hsi = s.hsi ∧ (wake w s).psm = s.psm ∧ (wake w s).fsu = s.fsu ∧ (wake w s).sts = s.sts ∧
      (wake w s).pending = s.pending ∧ (wake w s).plc.devices = s.plc.devices ∧
      (wake w s).plc.pass = s.plc.pass ∧ (wake w s).plc.caught = s.plc.caught ∧
      (wake w s).plc.result = s.plc.result ∧ (wake w s).kbs.settings = s.kbs.settings ∧
      (wake w s).thc.holds = s.thc.holds ∧ (wake w s).thc.inputs = s.thc.inputs ∧
      (wake w s).thc.floor = s.thc.floor ∧ (wake w s).thc.trip = s.thc.trip ∧
      (wake w s).thc.curves = s.thc.curves ∧ (wake w s).swc.presses = s.swc.presses ∧
      (wake w s).swc.settings = s.swc.settings ∧ (wake w s).swc.wakeTimer = s.swc.wakeTimer ∧
      (wake w s).evr.routes = s.evr.routes ∧ (wake w s).hlk.queue = s.hlk.queue ∧
      (wake w s).hlk.resetPending = s.hlk.resetPending ∧ (wake w s).hlk.rx = s.hlk.rx ∧
      (wake w s).hlk.series = s.hlk.series ∧ (wake w s).hlk.held = s.hlk.held := by
  simp only [wake]
  repeat' split
  all_goals simp

@[simp] theorem goOff_frame (c : OffCause) (s : State) :
    (goOff c s).time = s.time ∧ (goOff c s).pth = s.pth ∧ (goOff c s).chc = s.chc ∧ (goOff c s).bga = s.bga ∧
      (goOff c s).hsi = s.hsi ∧ (goOff c s).psm = s.psm ∧ (goOff c s).fsu = s.fsu ∧ (goOff c s).sts = s.sts ∧
      (goOff c s).pending = s.pending ∧ (goOff c s).plc.devices = s.plc.devices ∧
      (goOff c s).plc.pass = s.plc.pass ∧ (goOff c s).plc.caught = s.plc.caught ∧
      (goOff c s).plc.result = s.plc.result ∧ (goOff c s).kbs.settings = s.kbs.settings ∧
      (goOff c s).thc.holds = s.thc.holds ∧ (goOff c s).thc.inputs = s.thc.inputs ∧
      (goOff c s).thc.floor = s.thc.floor ∧ (goOff c s).thc.trip = s.thc.trip ∧
      (goOff c s).thc.curves = s.thc.curves ∧ (goOff c s).swc.presses = s.swc.presses ∧
      (goOff c s).swc.settings = s.swc.settings ∧ (goOff c s).swc.wakeTimer = s.swc.wakeTimer ∧
      (goOff c s).evr.routes = s.evr.routes ∧ (goOff c s).hlk.queue = s.hlk.queue ∧
      (goOff c s).hlk.resetPending = s.hlk.resetPending ∧ (goOff c s).hlk.rx = s.hlk.rx ∧
      (goOff c s).hlk.series = s.hlk.series ∧ (goOff c s).hlk.held = s.hlk.held := by
  simp only [goOff]
  repeat' split
  all_goals simp

@[simp] theorem forcedOff_frame (c : OffCause) (s : State) :
    (forcedOff c s).time = s.time ∧ (forcedOff c s).pth = s.pth ∧ (forcedOff c s).chc = s.chc ∧
      (forcedOff c s).bga = s.bga ∧ (forcedOff c s).hsi = s.hsi ∧ (forcedOff c s).psm = s.psm ∧
      (forcedOff c s).fsu = s.fsu ∧ (forcedOff c s).sts = s.sts ∧ (forcedOff c s).pending = s.pending ∧
      (forcedOff c s).plc.devices = s.plc.devices ∧ (forcedOff c s).plc.pass = s.plc.pass ∧
      (forcedOff c s).plc.caught = s.plc.caught ∧ (forcedOff c s).plc.result = s.plc.result ∧
      (forcedOff c s).kbs.settings = s.kbs.settings ∧ (forcedOff c s).thc.holds = s.thc.holds ∧
      (forcedOff c s).thc.inputs = s.thc.inputs ∧ (forcedOff c s).thc.floor = s.thc.floor ∧
      (forcedOff c s).thc.trip = s.thc.trip ∧ (forcedOff c s).thc.curves = s.thc.curves ∧
      (forcedOff c s).swc.presses = s.swc.presses ∧ (forcedOff c s).swc.settings = s.swc.settings ∧
      (forcedOff c s).swc.wakeTimer = s.swc.wakeTimer ∧ (forcedOff c s).evr.routes = s.evr.routes ∧
      (forcedOff c s).hlk.queue = s.hlk.queue ∧ (forcedOff c s).hlk.resetPending = s.hlk.resetPending ∧
      (forcedOff c s).hlk.rx = s.hlk.rx ∧ (forcedOff c s).hlk.series = s.hlk.series ∧
      (forcedOff c s).hlk.held = s.hlk.held := by
  simp only [forcedOff]
  repeat' split
  all_goals simp

@[simp] theorem sourceArrives_frame (s : State) :
    (sourceArrives s).time = s.time ∧ (sourceArrives s).pth = s.pth ∧ (sourceArrives s).chc = s.chc ∧
      (sourceArrives s).bga = s.bga ∧ (sourceArrives s).hsi = s.hsi ∧ (sourceArrives s).psm = s.psm ∧
      (sourceArrives s).fsu = s.fsu ∧ (sourceArrives s).sts = s.sts ∧ (sourceArrives s).pending = s.pending ∧
      (sourceArrives s).plc.devices = s.plc.devices ∧ (sourceArrives s).plc.pass = s.plc.pass ∧
      (sourceArrives s).plc.caught = s.plc.caught ∧ (sourceArrives s).plc.result = s.plc.result ∧
      (sourceArrives s).kbs.settings = s.kbs.settings ∧ (sourceArrives s).thc.holds = s.thc.holds ∧
      (sourceArrives s).thc.inputs = s.thc.inputs ∧ (sourceArrives s).thc.floor = s.thc.floor ∧
      (sourceArrives s).thc.trip = s.thc.trip ∧ (sourceArrives s).thc.curves = s.thc.curves ∧
      (sourceArrives s).swc.presses = s.swc.presses ∧ (sourceArrives s).swc.settings = s.swc.settings ∧
      (sourceArrives s).swc.wakeTimer = s.swc.wakeTimer ∧ (sourceArrives s).evr.routes = s.evr.routes ∧
      (sourceArrives s).hlk.queue = s.hlk.queue ∧ (sourceArrives s).hlk.resetPending = s.hlk.resetPending ∧
      (sourceArrives s).hlk.rx = s.hlk.rx ∧ (sourceArrives s).hlk.series = s.hlk.series ∧
      (sourceArrives s).hlk.held = s.hlk.held := by
  simp only [sourceArrives]
  repeat' split
  all_goals simp

@[simp] theorem setBand_frame (b : BatteryBand) (s : State) :
    (setBand b s).time = s.time ∧ (setBand b s).pth = s.pth ∧ (setBand b s).chc = s.chc ∧
      (setBand b s).bga = s.bga ∧ (setBand b s).plc = s.plc ∧ (setBand b s).hsi = s.hsi ∧
      (setBand b s).psm = s.psm ∧ (setBand b s).kbs = s.kbs ∧ (setBand b s).thc = s.thc ∧
      (setBand b s).fsu = s.fsu ∧ (setBand b s).evr = s.evr ∧ (setBand b s).hlk = s.hlk ∧
      (setBand b s).sts = s.sts ∧ (setBand b s).pending = s.pending ∧
      (setBand b s).swc.presses = s.swc.presses ∧ (setBand b s).swc.settings = s.swc.settings ∧
      (setBand b s).swc.wakeTimer = s.swc.wakeTimer := by
  simp only [setBand]
  repeat' split
  all_goals simp

@[simp] theorem leaveShutdown_frame (b : BatteryBand) (s : State) :
    (leaveShutdown b s).time = s.time ∧ (leaveShutdown b s).pth = s.pth ∧ (leaveShutdown b s).chc = s.chc ∧
      (leaveShutdown b s).bga = s.bga ∧ (leaveShutdown b s).plc = s.plc ∧ (leaveShutdown b s).hsi = s.hsi ∧
      (leaveShutdown b s).psm = s.psm ∧ (leaveShutdown b s).kbs = s.kbs ∧ (leaveShutdown b s).thc = s.thc ∧
      (leaveShutdown b s).fsu = s.fsu ∧ (leaveShutdown b s).evr = s.evr ∧ (leaveShutdown b s).hlk = s.hlk ∧
      (leaveShutdown b s).sts = s.sts ∧ (leaveShutdown b s).pending = s.pending ∧
      (leaveShutdown b s).swc.presses = s.swc.presses ∧ (leaveShutdown b s).swc.settings = s.swc.settings ∧
      (leaveShutdown b s).swc.wakeTimer = s.swc.wakeTimer := by
  simp only [leaveShutdown]
  repeat' split
  all_goals simp

@[simp] theorem shutdownStep_frame (s : State) :
    (shutdownStep s).time = s.time ∧ (shutdownStep s).pth = s.pth ∧ (shutdownStep s).chc = s.chc ∧
      (shutdownStep s).bga = s.bga ∧ (shutdownStep s).hsi = s.hsi ∧ (shutdownStep s).psm = s.psm ∧
      (shutdownStep s).fsu = s.fsu ∧ (shutdownStep s).sts = s.sts ∧ (shutdownStep s).pending = s.pending ∧
      (shutdownStep s).plc.devices = s.plc.devices ∧ (shutdownStep s).plc.pass = s.plc.pass ∧
      (shutdownStep s).plc.caught = s.plc.caught ∧ (shutdownStep s).plc.result = s.plc.result ∧
      (shutdownStep s).kbs.settings = s.kbs.settings ∧ (shutdownStep s).thc.holds = s.thc.holds ∧
      (shutdownStep s).thc.inputs = s.thc.inputs ∧ (shutdownStep s).thc.floor = s.thc.floor ∧
      (shutdownStep s).thc.trip = s.thc.trip ∧ (shutdownStep s).thc.curves = s.thc.curves ∧
      (shutdownStep s).swc.presses = s.swc.presses ∧ (shutdownStep s).swc.settings = s.swc.settings ∧
      (shutdownStep s).swc.wakeTimer = s.swc.wakeTimer ∧ (shutdownStep s).evr.routes = s.evr.routes ∧
      (shutdownStep s).hlk.queue = s.hlk.queue ∧ (shutdownStep s).hlk.resetPending = s.hlk.resetPending ∧
      (shutdownStep s).hlk.rx = s.hlk.rx ∧ (shutdownStep s).hlk.series = s.hlk.series ∧
      (shutdownStep s).hlk.held = s.hlk.held := by
  simp only [shutdownStep]
  repeat' split
  all_goals simp

@[simp] theorem stepLow_frame (c : Nat) (s : State) :
    (stepLow c s).time = s.time ∧ (stepLow c s).pth = s.pth ∧ (stepLow c s).chc = s.chc ∧
      (stepLow c s).bga = s.bga ∧ (stepLow c s).plc = s.plc ∧ (stepLow c s).hsi = s.hsi ∧
      (stepLow c s).psm = s.psm ∧ (stepLow c s).kbs = s.kbs ∧ (stepLow c s).thc = s.thc ∧
      (stepLow c s).fsu = s.fsu ∧ (stepLow c s).sts = s.sts ∧ (stepLow c s).pending = s.pending ∧
      (stepLow c s).swc.presses = s.swc.presses ∧ (stepLow c s).swc.settings = s.swc.settings ∧
      (stepLow c s).swc.wakeTimer = s.swc.wakeTimer ∧ (stepLow c s).evr.routes = s.evr.routes ∧
      (stepLow c s).evr.button = s.evr.button ∧ (stepLow c s).evr.keys = s.evr.keys ∧
      (stepLow c s).evr.capture = s.evr.capture ∧ (stepLow c s).evr.fault = s.evr.fault ∧
      (stepLow c s).hlk.queue = s.hlk.queue ∧ (stepLow c s).hlk.resetPending = s.hlk.resetPending ∧
      (stepLow c s).hlk.rx = s.hlk.rx ∧ (stepLow c s).hlk.series = s.hlk.series ∧
      (stepLow c s).hlk.held = s.hlk.held := by
  simp only [stepLow]
  repeat' split
  all_goals simp

@[simp] theorem stepCritical_frame (c : Nat) (s : State) :
    (stepCritical c s).time = s.time ∧ (stepCritical c s).pth = s.pth ∧ (stepCritical c s).chc = s.chc ∧
      (stepCritical c s).bga = s.bga ∧ (stepCritical c s).hsi = s.hsi ∧ (stepCritical c s).psm = s.psm ∧
      (stepCritical c s).fsu = s.fsu ∧ (stepCritical c s).sts = s.sts ∧ (stepCritical c s).pending = s.pending ∧
      (stepCritical c s).plc.devices = s.plc.devices ∧ (stepCritical c s).plc.pass = s.plc.pass ∧
      (stepCritical c s).plc.caught = s.plc.caught ∧ (stepCritical c s).plc.result = s.plc.result ∧
      (stepCritical c s).kbs.settings = s.kbs.settings ∧ (stepCritical c s).thc.holds = s.thc.holds ∧
      (stepCritical c s).thc.inputs = s.thc.inputs ∧ (stepCritical c s).thc.floor = s.thc.floor ∧
      (stepCritical c s).thc.trip = s.thc.trip ∧ (stepCritical c s).thc.curves = s.thc.curves ∧
      (stepCritical c s).swc.presses = s.swc.presses ∧ (stepCritical c s).swc.settings = s.swc.settings ∧
      (stepCritical c s).swc.wakeTimer = s.swc.wakeTimer ∧ (stepCritical c s).evr.routes = s.evr.routes ∧
      (stepCritical c s).hlk.queue = s.hlk.queue ∧ (stepCritical c s).hlk.resetPending = s.hlk.resetPending ∧
      (stepCritical c s).hlk.rx = s.hlk.rx ∧ (stepCritical c s).hlk.series = s.hlk.series ∧
      (stepCritical c s).hlk.held = s.hlk.held := by
  simp only [stepCritical]
  repeat' split
  all_goals simp

@[simp] theorem stepShutdown_frame (c : Nat) (s : State) :
    (stepShutdown c s).time = s.time ∧ (stepShutdown c s).pth = s.pth ∧ (stepShutdown c s).chc = s.chc ∧
      (stepShutdown c s).bga = s.bga ∧ (stepShutdown c s).hsi = s.hsi ∧ (stepShutdown c s).psm = s.psm ∧
      (stepShutdown c s).fsu = s.fsu ∧ (stepShutdown c s).sts = s.sts ∧ (stepShutdown c s).pending = s.pending ∧
      (stepShutdown c s).plc.devices = s.plc.devices ∧ (stepShutdown c s).plc.pass = s.plc.pass ∧
      (stepShutdown c s).plc.caught = s.plc.caught ∧ (stepShutdown c s).plc.result = s.plc.result ∧
      (stepShutdown c s).kbs.settings = s.kbs.settings ∧ (stepShutdown c s).thc.holds = s.thc.holds ∧
      (stepShutdown c s).thc.inputs = s.thc.inputs ∧ (stepShutdown c s).thc.floor = s.thc.floor ∧
      (stepShutdown c s).thc.trip = s.thc.trip ∧ (stepShutdown c s).thc.curves = s.thc.curves ∧
      (stepShutdown c s).swc.presses = s.swc.presses ∧ (stepShutdown c s).swc.settings = s.swc.settings ∧
      (stepShutdown c s).swc.wakeTimer = s.swc.wakeTimer ∧ (stepShutdown c s).evr.routes = s.evr.routes ∧
      (stepShutdown c s).hlk.queue = s.hlk.queue ∧ (stepShutdown c s).hlk.resetPending = s.hlk.resetPending ∧
      (stepShutdown c s).hlk.rx = s.hlk.rx ∧ (stepShutdown c s).hlk.series = s.hlk.series ∧
      (stepShutdown c s).hlk.held = s.hlk.held := by
  simp only [stepShutdown]
  repeat' split
  all_goals simp

@[simp] theorem stepsUp_frame (c : Nat) (s : State) :
    (stepsUp c s).time = s.time ∧ (stepsUp c s).pth = s.pth ∧ (stepsUp c s).chc = s.chc ∧
      (stepsUp c s).bga = s.bga ∧ (stepsUp c s).plc = s.plc ∧ (stepsUp c s).hsi = s.hsi ∧
      (stepsUp c s).psm = s.psm ∧ (stepsUp c s).kbs = s.kbs ∧ (stepsUp c s).thc = s.thc ∧
      (stepsUp c s).fsu = s.fsu ∧ (stepsUp c s).evr = s.evr ∧ (stepsUp c s).hlk = s.hlk ∧
      (stepsUp c s).sts = s.sts ∧ (stepsUp c s).pending = s.pending ∧
      (stepsUp c s).swc.presses = s.swc.presses ∧ (stepsUp c s).swc.settings = s.swc.settings ∧
      (stepsUp c s).swc.wakeTimer = s.swc.wakeTimer := by
  simp only [stepsUp]
  repeat' split
  all_goals simp

@[simp] theorem evaluateBand_frame (s : State) :
    (evaluateBand s).time = s.time ∧ (evaluateBand s).pth = s.pth ∧ (evaluateBand s).chc = s.chc ∧
      (evaluateBand s).bga = s.bga ∧ (evaluateBand s).hsi = s.hsi ∧ (evaluateBand s).psm = s.psm ∧
      (evaluateBand s).fsu = s.fsu ∧ (evaluateBand s).sts = s.sts ∧ (evaluateBand s).pending = s.pending ∧
      (evaluateBand s).plc.devices = s.plc.devices ∧ (evaluateBand s).plc.pass = s.plc.pass ∧
      (evaluateBand s).plc.caught = s.plc.caught ∧ (evaluateBand s).plc.result = s.plc.result ∧
      (evaluateBand s).kbs.settings = s.kbs.settings ∧ (evaluateBand s).thc.holds = s.thc.holds ∧
      (evaluateBand s).thc.inputs = s.thc.inputs ∧ (evaluateBand s).thc.floor = s.thc.floor ∧
      (evaluateBand s).thc.trip = s.thc.trip ∧ (evaluateBand s).thc.curves = s.thc.curves ∧
      (evaluateBand s).swc.presses = s.swc.presses ∧ (evaluateBand s).swc.settings = s.swc.settings ∧
      (evaluateBand s).swc.wakeTimer = s.swc.wakeTimer ∧ (evaluateBand s).evr.routes = s.evr.routes ∧
      (evaluateBand s).hlk.queue = s.hlk.queue ∧ (evaluateBand s).hlk.resetPending = s.hlk.resetPending ∧
      (evaluateBand s).hlk.rx = s.hlk.rx ∧ (evaluateBand s).hlk.series = s.hlk.series ∧
      (evaluateBand s).hlk.held = s.hlk.held := by
  simp only [evaluateBand]
  repeat' split
  all_goals simp

@[simp] theorem adapterGained_frame (s : State) :
    (adapterGained s).time = s.time ∧ (adapterGained s).chc = s.chc ∧ (adapterGained s).bga = s.bga ∧
      (adapterGained s).hsi = s.hsi ∧ (adapterGained s).psm = s.psm ∧ (adapterGained s).fsu = s.fsu ∧
      (adapterGained s).sts = s.sts ∧ (adapterGained s).pending = s.pending ∧
      (adapterGained s).pth.path = s.pth.path ∧ (adapterGained s).pth.swAdp = s.pth.swAdp ∧
      (adapterGained s).pth.swPa = s.pth.swPa ∧ (adapterGained s).pth.swPb = s.pth.swPb ∧
      (adapterGained s).pth.packA = s.pth.packA ∧ (adapterGained s).pth.packB = s.pth.packB ∧
      (adapterGained s).pth.preference = s.pth.preference ∧ (adapterGained s).pth.ejectOk = s.pth.ejectOk ∧
      (adapterGained s).pth.ejectWindow = s.pth.ejectWindow ∧ (adapterGained s).plc.devices = s.plc.devices ∧
      (adapterGained s).plc.pass = s.plc.pass ∧ (adapterGained s).plc.caught = s.plc.caught ∧
      (adapterGained s).plc.result = s.plc.result ∧ (adapterGained s).kbs.settings = s.kbs.settings ∧
      (adapterGained s).thc.holds = s.thc.holds ∧ (adapterGained s).thc.inputs = s.thc.inputs ∧
      (adapterGained s).thc.floor = s.thc.floor ∧ (adapterGained s).thc.trip = s.thc.trip ∧
      (adapterGained s).thc.curves = s.thc.curves ∧ (adapterGained s).swc.presses = s.swc.presses ∧
      (adapterGained s).swc.settings = s.swc.settings ∧ (adapterGained s).swc.wakeTimer = s.swc.wakeTimer ∧
      (adapterGained s).evr.routes = s.evr.routes ∧ (adapterGained s).hlk.queue = s.hlk.queue ∧
      (adapterGained s).hlk.resetPending = s.hlk.resetPending ∧ (adapterGained s).hlk.rx = s.hlk.rx ∧
      (adapterGained s).hlk.series = s.hlk.series ∧ (adapterGained s).hlk.held = s.hlk.held := by
  simp only [adapterGained]
  repeat' split
  all_goals simp

@[simp] theorem bandAboveLow_frame (s : State) :
    (bandAboveLow s).time = s.time ∧ (bandAboveLow s).pth = s.pth ∧ (bandAboveLow s).chc = s.chc ∧
      (bandAboveLow s).bga = s.bga ∧ (bandAboveLow s).plc = s.plc ∧ (bandAboveLow s).hsi = s.hsi ∧
      (bandAboveLow s).psm = s.psm ∧ (bandAboveLow s).kbs = s.kbs ∧ (bandAboveLow s).thc = s.thc ∧
      (bandAboveLow s).fsu = s.fsu ∧ (bandAboveLow s).evr = s.evr ∧ (bandAboveLow s).hlk = s.hlk ∧
      (bandAboveLow s).sts = s.sts ∧ (bandAboveLow s).pending = s.pending ∧
      (bandAboveLow s).swc.presses = s.swc.presses ∧ (bandAboveLow s).swc.settings = s.swc.settings ∧
      (bandAboveLow s).swc.wakeTimer = s.swc.wakeTimer := by
  simp only [bandAboveLow]
  repeat' split
  all_goals simp

@[simp] theorem adapterLost_frame (s : State) :
    (adapterLost s).time = s.time ∧ (adapterLost s).pth = s.pth ∧ (adapterLost s).chc = s.chc ∧
      (adapterLost s).bga = s.bga ∧ (adapterLost s).hsi = s.hsi ∧ (adapterLost s).psm = s.psm ∧
      (adapterLost s).fsu = s.fsu ∧ (adapterLost s).sts = s.sts ∧ (adapterLost s).pending = s.pending ∧
      (adapterLost s).plc.devices = s.plc.devices ∧ (adapterLost s).plc.pass = s.plc.pass ∧
      (adapterLost s).plc.caught = s.plc.caught ∧ (adapterLost s).plc.result = s.plc.result ∧
      (adapterLost s).kbs.settings = s.kbs.settings ∧ (adapterLost s).thc.holds = s.thc.holds ∧
      (adapterLost s).thc.inputs = s.thc.inputs ∧ (adapterLost s).thc.floor = s.thc.floor ∧
      (adapterLost s).thc.trip = s.thc.trip ∧ (adapterLost s).thc.curves = s.thc.curves ∧
      (adapterLost s).swc.presses = s.swc.presses ∧ (adapterLost s).swc.settings = s.swc.settings ∧
      (adapterLost s).swc.wakeTimer = s.swc.wakeTimer ∧ (adapterLost s).evr.routes = s.evr.routes ∧
      (adapterLost s).hlk.queue = s.hlk.queue ∧ (adapterLost s).hlk.resetPending = s.hlk.resetPending ∧
      (adapterLost s).hlk.rx = s.hlk.rx ∧ (adapterLost s).hlk.series = s.hlk.series ∧
      (adapterLost s).hlk.held = s.hlk.held := by
  simp only [adapterLost]
  repeat' split
  all_goals simp

@[simp] theorem settlePath_frame (s : State) :
    (settlePath s).time = s.time ∧ (settlePath s).chc = s.chc ∧ (settlePath s).bga = s.bga ∧
      (settlePath s).plc = s.plc ∧ (settlePath s).hsi = s.hsi ∧ (settlePath s).psm = s.psm ∧
      (settlePath s).kbs = s.kbs ∧ (settlePath s).thc = s.thc ∧ (settlePath s).swc = s.swc ∧
      (settlePath s).fsu = s.fsu ∧ (settlePath s).sts = s.sts ∧ (settlePath s).pending = s.pending ∧
      (settlePath s).pth.path = s.pth.path ∧ (settlePath s).pth.swAdp = s.pth.swAdp ∧
      (settlePath s).pth.swPa = s.pth.swPa ∧ (settlePath s).pth.swPb = s.pth.swPb ∧
      (settlePath s).pth.adapter = s.pth.adapter ∧ (settlePath s).pth.packA = s.pth.packA ∧
      (settlePath s).pth.packB = s.pth.packB ∧ (settlePath s).pth.preference = s.pth.preference ∧
      (settlePath s).pth.ejectOk = s.pth.ejectOk ∧ (settlePath s).pth.ejectWindow = s.pth.ejectWindow ∧
      (settlePath s).evr.routes = s.evr.routes ∧ (settlePath s).evr.button = s.evr.button ∧
      (settlePath s).evr.keys = s.evr.keys ∧ (settlePath s).evr.capture = s.evr.capture ∧
      (settlePath s).evr.fault = s.evr.fault ∧ (settlePath s).hlk.queue = s.hlk.queue ∧
      (settlePath s).hlk.resetPending = s.hlk.resetPending ∧ (settlePath s).hlk.rx = s.hlk.rx ∧
      (settlePath s).hlk.series = s.hlk.series ∧ (settlePath s).hlk.held = s.hlk.held := by
  simp only [settlePath]
  repeat' split
  all_goals simp

@[simp] theorem pathToCharge_frame (before : PathState) (s : State) :
    (pathToCharge before s).time = s.time ∧ (pathToCharge before s).pth = s.pth ∧
      (pathToCharge before s).bga = s.bga ∧ (pathToCharge before s).hsi = s.hsi ∧
      (pathToCharge before s).psm = s.psm ∧ (pathToCharge before s).kbs = s.kbs ∧
      (pathToCharge before s).thc = s.thc ∧ (pathToCharge before s).swc = s.swc ∧
      (pathToCharge before s).fsu = s.fsu ∧ (pathToCharge before s).sts = s.sts ∧
      (pathToCharge before s).pending = s.pending ∧ (pathToCharge before s).chc.order = s.chc.order ∧
      (pathToCharge before s).chc.threshold = s.chc.threshold ∧
      (pathToCharge before s).chc.openRow = s.chc.openRow ∧
      (pathToCharge before s).chc.latches = s.chc.latches ∧ (pathToCharge before s).chc.table = s.chc.table ∧
      (pathToCharge before s).plc.devices = s.plc.devices ∧ (pathToCharge before s).plc.pass = s.plc.pass ∧
      (pathToCharge before s).plc.caught = s.plc.caught ∧ (pathToCharge before s).plc.result = s.plc.result ∧
      (pathToCharge before s).evr.routes = s.evr.routes ∧ (pathToCharge before s).evr.button = s.evr.button ∧
      (pathToCharge before s).evr.keys = s.evr.keys ∧ (pathToCharge before s).evr.capture = s.evr.capture ∧
      (pathToCharge before s).evr.fault = s.evr.fault ∧ (pathToCharge before s).hlk.queue = s.hlk.queue ∧
      (pathToCharge before s).hlk.resetPending = s.hlk.resetPending ∧
      (pathToCharge before s).hlk.rx = s.hlk.rx ∧ (pathToCharge before s).hlk.series = s.hlk.series ∧
      (pathToCharge before s).hlk.held = s.hlk.held := by
  simp only [pathToCharge]
  repeat' split
  all_goals simp

@[simp] theorem pathToPlatform_frame (before : PathState) (s : State) :
    (pathToPlatform before s).time = s.time ∧ (pathToPlatform before s).pth = s.pth ∧
      (pathToPlatform before s).chc = s.chc ∧ (pathToPlatform before s).bga = s.bga ∧
      (pathToPlatform before s).hsi = s.hsi ∧ (pathToPlatform before s).psm = s.psm ∧
      (pathToPlatform before s).fsu = s.fsu ∧ (pathToPlatform before s).sts = s.sts ∧
      (pathToPlatform before s).pending = s.pending ∧ (pathToPlatform before s).plc.devices = s.plc.devices ∧
      (pathToPlatform before s).plc.pass = s.plc.pass ∧ (pathToPlatform before s).plc.caught = s.plc.caught ∧
      (pathToPlatform before s).plc.result = s.plc.result ∧
      (pathToPlatform before s).kbs.settings = s.kbs.settings ∧
      (pathToPlatform before s).thc.holds = s.thc.holds ∧ (pathToPlatform before s).thc.inputs = s.thc.inputs ∧
      (pathToPlatform before s).thc.floor = s.thc.floor ∧ (pathToPlatform before s).thc.trip = s.thc.trip ∧
      (pathToPlatform before s).thc.curves = s.thc.curves ∧
      (pathToPlatform before s).swc.presses = s.swc.presses ∧
      (pathToPlatform before s).swc.settings = s.swc.settings ∧
      (pathToPlatform before s).swc.wakeTimer = s.swc.wakeTimer ∧
      (pathToPlatform before s).evr.routes = s.evr.routes ∧ (pathToPlatform before s).hlk.queue = s.hlk.queue ∧
      (pathToPlatform before s).hlk.resetPending = s.hlk.resetPending ∧
      (pathToPlatform before s).hlk.rx = s.hlk.rx ∧ (pathToPlatform before s).hlk.series = s.hlk.series ∧
      (pathToPlatform before s).hlk.held = s.hlk.held := by
  simp only [pathToPlatform]
  repeat' split
  all_goals simp

@[simp] theorem changePath_frame (p : PathState) (s : State) :
    (changePath p s).time = s.time ∧ (changePath p s).hsi = s.hsi ∧ (changePath p s).psm = s.psm ∧
      (changePath p s).fsu = s.fsu ∧ (changePath p s).sts = s.sts ∧ (changePath p s).pending = s.pending ∧
      (changePath p s).pth.adapter = s.pth.adapter ∧ (changePath p s).pth.packA = s.pth.packA ∧
      (changePath p s).pth.packB = s.pth.packB ∧ (changePath p s).pth.preference = s.pth.preference ∧
      (changePath p s).pth.ejectOk = s.pth.ejectOk ∧ (changePath p s).pth.ejectWindow = s.pth.ejectWindow ∧
      (changePath p s).chc.order = s.chc.order ∧ (changePath p s).chc.threshold = s.chc.threshold ∧
      (changePath p s).chc.openRow = s.chc.openRow ∧ (changePath p s).chc.latches = s.chc.latches ∧
      (changePath p s).chc.table = s.chc.table ∧ (changePath p s).plc.devices = s.plc.devices ∧
      (changePath p s).plc.pass = s.plc.pass ∧ (changePath p s).plc.caught = s.plc.caught ∧
      (changePath p s).plc.result = s.plc.result ∧ (changePath p s).kbs.settings = s.kbs.settings ∧
      (changePath p s).thc.holds = s.thc.holds ∧ (changePath p s).thc.inputs = s.thc.inputs ∧
      (changePath p s).thc.floor = s.thc.floor ∧ (changePath p s).thc.trip = s.thc.trip ∧
      (changePath p s).thc.curves = s.thc.curves ∧ (changePath p s).swc.presses = s.swc.presses ∧
      (changePath p s).swc.settings = s.swc.settings ∧ (changePath p s).swc.wakeTimer = s.swc.wakeTimer ∧
      (changePath p s).evr.routes = s.evr.routes ∧ (changePath p s).hlk.queue = s.hlk.queue ∧
      (changePath p s).hlk.resetPending = s.hlk.resetPending ∧ (changePath p s).hlk.rx = s.hlk.rx ∧
      (changePath p s).hlk.series = s.hlk.series ∧ (changePath p s).hlk.held = s.hlk.held := by
  simp only [changePath]
  repeat' split
  all_goals simp

@[simp] theorem pathAtRest_frame (s : State) :
    (pathAtRest s).time = s.time ∧ (pathAtRest s).pth = s.pth ∧ (pathAtRest s).bga = s.bga ∧
      (pathAtRest s).hsi = s.hsi ∧ (pathAtRest s).psm = s.psm ∧ (pathAtRest s).kbs = s.kbs ∧
      (pathAtRest s).thc = s.thc ∧ (pathAtRest s).swc = s.swc ∧ (pathAtRest s).sts = s.sts ∧
      (pathAtRest s).pending = s.pending ∧ (pathAtRest s).chc.order = s.chc.order ∧
      (pathAtRest s).chc.threshold = s.chc.threshold ∧ (pathAtRest s).chc.openRow = s.chc.openRow ∧
      (pathAtRest s).chc.latches = s.chc.latches ∧ (pathAtRest s).chc.table = s.chc.table ∧
      (pathAtRest s).plc.devices = s.plc.devices ∧ (pathAtRest s).plc.pass = s.plc.pass ∧
      (pathAtRest s).plc.asked = s.plc.asked ∧ (pathAtRest s).fsu.table = s.fsu.table ∧
      (pathAtRest s).evr.routes = s.evr.routes ∧ (pathAtRest s).evr.button = s.evr.button ∧
      (pathAtRest s).evr.keys = s.evr.keys ∧ (pathAtRest s).evr.capture = s.evr.capture ∧
      (pathAtRest s).evr.fault = s.evr.fault ∧ (pathAtRest s).hlk.queue = s.hlk.queue ∧
      (pathAtRest s).hlk.resetPending = s.hlk.resetPending ∧ (pathAtRest s).hlk.rx = s.hlk.rx ∧
      (pathAtRest s).hlk.series = s.hlk.series ∧ (pathAtRest s).hlk.held = s.hlk.held := by
  simp only [pathAtRest]
  repeat' split
  all_goals simp

@[simp] theorem startSwitch_frame (t : Source) (s : State) :
    (startSwitch t s).time = s.time ∧ (startSwitch t s).hsi = s.hsi ∧ (startSwitch t s).psm = s.psm ∧
      (startSwitch t s).fsu = s.fsu ∧ (startSwitch t s).sts = s.sts ∧ (startSwitch t s).pending = s.pending ∧
      (startSwitch t s).pth.adapter = s.pth.adapter ∧ (startSwitch t s).pth.packA = s.pth.packA ∧
      (startSwitch t s).pth.packB = s.pth.packB ∧ (startSwitch t s).pth.preference = s.pth.preference ∧
      (startSwitch t s).pth.ejectOk = s.pth.ejectOk ∧ (startSwitch t s).pth.ejectWindow = s.pth.ejectWindow ∧
      (startSwitch t s).chc.order = s.chc.order ∧ (startSwitch t s).chc.threshold = s.chc.threshold ∧
      (startSwitch t s).chc.openRow = s.chc.openRow ∧ (startSwitch t s).chc.latches = s.chc.latches ∧
      (startSwitch t s).chc.table = s.chc.table ∧ (startSwitch t s).plc.devices = s.plc.devices ∧
      (startSwitch t s).plc.pass = s.plc.pass ∧ (startSwitch t s).plc.caught = s.plc.caught ∧
      (startSwitch t s).plc.result = s.plc.result ∧ (startSwitch t s).kbs.settings = s.kbs.settings ∧
      (startSwitch t s).thc.holds = s.thc.holds ∧ (startSwitch t s).thc.inputs = s.thc.inputs ∧
      (startSwitch t s).thc.floor = s.thc.floor ∧ (startSwitch t s).thc.trip = s.thc.trip ∧
      (startSwitch t s).thc.curves = s.thc.curves ∧ (startSwitch t s).swc.presses = s.swc.presses ∧
      (startSwitch t s).swc.settings = s.swc.settings ∧ (startSwitch t s).swc.wakeTimer = s.swc.wakeTimer ∧
      (startSwitch t s).evr.routes = s.evr.routes ∧ (startSwitch t s).hlk.queue = s.hlk.queue ∧
      (startSwitch t s).hlk.resetPending = s.hlk.resetPending ∧ (startSwitch t s).hlk.rx = s.hlk.rx ∧
      (startSwitch t s).hlk.series = s.hlk.series ∧ (startSwitch t s).hlk.held = s.hlk.held := by
  simp only [startSwitch]
  repeat' split
  all_goals simp

@[simp] theorem goTo_frame (t : Source) (s : State) :
    (goTo t s).time = s.time ∧ (goTo t s).hsi = s.hsi ∧ (goTo t s).psm = s.psm ∧ (goTo t s).fsu = s.fsu ∧
      (goTo t s).sts = s.sts ∧ (goTo t s).pending = s.pending ∧ (goTo t s).pth.adapter = s.pth.adapter ∧
      (goTo t s).pth.packA = s.pth.packA ∧ (goTo t s).pth.packB = s.pth.packB ∧
      (goTo t s).pth.preference = s.pth.preference ∧ (goTo t s).pth.ejectOk = s.pth.ejectOk ∧
      (goTo t s).pth.ejectWindow = s.pth.ejectWindow ∧ (goTo t s).chc.order = s.chc.order ∧
      (goTo t s).chc.threshold = s.chc.threshold ∧ (goTo t s).chc.openRow = s.chc.openRow ∧
      (goTo t s).chc.latches = s.chc.latches ∧ (goTo t s).chc.table = s.chc.table ∧
      (goTo t s).plc.devices = s.plc.devices ∧ (goTo t s).plc.pass = s.plc.pass ∧
      (goTo t s).plc.caught = s.plc.caught ∧ (goTo t s).plc.result = s.plc.result ∧
      (goTo t s).kbs.settings = s.kbs.settings ∧ (goTo t s).thc.holds = s.thc.holds ∧
      (goTo t s).thc.inputs = s.thc.inputs ∧ (goTo t s).thc.floor = s.thc.floor ∧
      (goTo t s).thc.trip = s.thc.trip ∧ (goTo t s).thc.curves = s.thc.curves ∧
      (goTo t s).swc.presses = s.swc.presses ∧ (goTo t s).swc.settings = s.swc.settings ∧
      (goTo t s).swc.wakeTimer = s.swc.wakeTimer ∧ (goTo t s).evr.routes = s.evr.routes ∧
      (goTo t s).hlk.queue = s.hlk.queue ∧ (goTo t s).hlk.resetPending = s.hlk.resetPending ∧
      (goTo t s).hlk.rx = s.hlk.rx ∧ (goTo t s).hlk.series = s.hlk.series ∧ (goTo t s).hlk.held = s.hlk.held := by
  simp only [goTo]
  repeat' split
  all_goals simp

@[simp] theorem goNoSource_frame (s : State) :
    (goNoSource s).time = s.time ∧ (goNoSource s).hsi = s.hsi ∧ (goNoSource s).psm = s.psm ∧
      (goNoSource s).fsu = s.fsu ∧ (goNoSource s).sts = s.sts ∧ (goNoSource s).pending = s.pending ∧
      (goNoSource s).pth.adapter = s.pth.adapter ∧ (goNoSource s).pth.packA = s.pth.packA ∧
      (goNoSource s).pth.packB = s.pth.packB ∧ (goNoSource s).pth.preference = s.pth.preference ∧
      (goNoSource s).pth.ejectOk = s.pth.ejectOk ∧ (goNoSource s).pth.ejectWindow = s.pth.ejectWindow ∧
      (goNoSource s).chc.order = s.chc.order ∧ (goNoSource s).chc.threshold = s.chc.threshold ∧
      (goNoSource s).chc.openRow = s.chc.openRow ∧ (goNoSource s).chc.latches = s.chc.latches ∧
      (goNoSource s).chc.table = s.chc.table ∧ (goNoSource s).plc.devices = s.plc.devices ∧
      (goNoSource s).plc.pass = s.plc.pass ∧ (goNoSource s).plc.caught = s.plc.caught ∧
      (goNoSource s).plc.result = s.plc.result ∧ (goNoSource s).kbs.settings = s.kbs.settings ∧
      (goNoSource s).thc.holds = s.thc.holds ∧ (goNoSource s).thc.inputs = s.thc.inputs ∧
      (goNoSource s).thc.floor = s.thc.floor ∧ (goNoSource s).thc.trip = s.thc.trip ∧
      (goNoSource s).thc.curves = s.thc.curves ∧ (goNoSource s).swc.presses = s.swc.presses ∧
      (goNoSource s).swc.settings = s.swc.settings ∧ (goNoSource s).swc.wakeTimer = s.swc.wakeTimer ∧
      (goNoSource s).evr.routes = s.evr.routes ∧ (goNoSource s).hlk.queue = s.hlk.queue ∧
      (goNoSource s).hlk.resetPending = s.hlk.resetPending ∧ (goNoSource s).hlk.rx = s.hlk.rx ∧
      (goNoSource s).hlk.series = s.hlk.series ∧ (goNoSource s).hlk.held = s.hlk.held := by
  simp only [goNoSource]
  repeat' split
  all_goals simp

@[simp] theorem ejectToPresent_frame (s : State) :
    (ejectToPresent s).time = s.time ∧ (ejectToPresent s).chc = s.chc ∧ (ejectToPresent s).bga = s.bga ∧
      (ejectToPresent s).plc = s.plc ∧ (ejectToPresent s).hsi = s.hsi ∧ (ejectToPresent s).psm = s.psm ∧
      (ejectToPresent s).kbs = s.kbs ∧ (ejectToPresent s).thc = s.thc ∧ (ejectToPresent s).swc = s.swc ∧
      (ejectToPresent s).fsu = s.fsu ∧ (ejectToPresent s).evr = s.evr ∧ (ejectToPresent s).hlk = s.hlk ∧
      (ejectToPresent s).sts = s.sts ∧ (ejectToPresent s).pending = s.pending ∧
      (ejectToPresent s).pth.path = s.pth.path ∧ (ejectToPresent s).pth.swAdp = s.pth.swAdp ∧
      (ejectToPresent s).pth.swPa = s.pth.swPa ∧ (ejectToPresent s).pth.swPb = s.pth.swPb ∧
      (ejectToPresent s).pth.adapter = s.pth.adapter ∧ (ejectToPresent s).pth.packA = s.pth.packA ∧
      (ejectToPresent s).pth.preference = s.pth.preference := by
  simp only [ejectToPresent]
  repeat' split
  all_goals simp

@[simp] theorem raiseEject_frame (d : Nat) (s : State) :
    (raiseEject d s).time = s.time ∧ (raiseEject d s).pth = s.pth ∧ (raiseEject d s).chc = s.chc ∧
      (raiseEject d s).bga = s.bga ∧ (raiseEject d s).plc = s.plc ∧ (raiseEject d s).hsi = s.hsi ∧
      (raiseEject d s).psm = s.psm ∧ (raiseEject d s).kbs = s.kbs ∧ (raiseEject d s).thc = s.thc ∧
      (raiseEject d s).swc = s.swc ∧ (raiseEject d s).fsu = s.fsu ∧ (raiseEject d s).sts = s.sts ∧
      (raiseEject d s).pending = s.pending ∧ (raiseEject d s).evr.routes = s.evr.routes ∧
      (raiseEject d s).evr.button = s.evr.button ∧ (raiseEject d s).evr.keys = s.evr.keys ∧
      (raiseEject d s).evr.capture = s.evr.capture ∧ (raiseEject d s).evr.fault = s.evr.fault ∧
      (raiseEject d s).hlk.queue = s.hlk.queue ∧ (raiseEject d s).hlk.resetPending = s.hlk.resetPending ∧
      (raiseEject d s).hlk.rx = s.hlk.rx ∧ (raiseEject d s).hlk.series = s.hlk.series ∧
      (raiseEject d s).hlk.held = s.hlk.held := by
  simp only [raiseEject]
  repeat' split
  all_goals simp

@[simp] theorem withdrawEject_frame (s : State) :
    (withdrawEject s).time = s.time ∧ (withdrawEject s).hsi = s.hsi ∧ (withdrawEject s).psm = s.psm ∧
      (withdrawEject s).fsu = s.fsu ∧ (withdrawEject s).sts = s.sts ∧
      (withdrawEject s).pending = s.pending ∧ (withdrawEject s).pth.adapter = s.pth.adapter ∧
      (withdrawEject s).pth.packA = s.pth.packA ∧ (withdrawEject s).pth.preference = s.pth.preference ∧
      (withdrawEject s).chc.order = s.chc.order ∧ (withdrawEject s).chc.threshold = s.chc.threshold ∧
      (withdrawEject s).chc.openRow = s.chc.openRow ∧ (withdrawEject s).chc.latches = s.chc.latches ∧
      (withdrawEject s).chc.table = s.chc.table ∧ (withdrawEject s).plc.devices = s.plc.devices ∧
      (withdrawEject s).plc.pass = s.plc.pass ∧ (withdrawEject s).plc.caught = s.plc.caught ∧
      (withdrawEject s).plc.result = s.plc.result ∧ (withdrawEject s).kbs.settings = s.kbs.settings ∧
      (withdrawEject s).thc.holds = s.thc.holds ∧ (withdrawEject s).thc.inputs = s.thc.inputs ∧
      (withdrawEject s).thc.floor = s.thc.floor ∧ (withdrawEject s).thc.trip = s.thc.trip ∧
      (withdrawEject s).thc.curves = s.thc.curves ∧ (withdrawEject s).swc.presses = s.swc.presses ∧
      (withdrawEject s).swc.settings = s.swc.settings ∧
      (withdrawEject s).swc.wakeTimer = s.swc.wakeTimer ∧ (withdrawEject s).evr.routes = s.evr.routes ∧
      (withdrawEject s).hlk.queue = s.hlk.queue ∧
      (withdrawEject s).hlk.resetPending = s.hlk.resetPending ∧ (withdrawEject s).hlk.rx = s.hlk.rx ∧
      (withdrawEject s).hlk.series = s.hlk.series ∧ (withdrawEject s).hlk.held = s.hlk.held := by
  simp only [withdrawEject]
  repeat' split
  all_goals simp

/-- A withdrawal leaves the path and takes pack B's record to PRESENT (R20). -/
theorem withdrawEject_pth (s : State) :
    (withdrawEject s).pth =
      { s.pth with
        packB := { s.pth.packB with presence := .present }, ejectOk := false, ejectWindow := none } := by
  simp [withdrawEject, ejectToPresent]

@[simp] theorem runSelection_frame (publication : Bool) (s : State) :
    (runSelection publication s).time = s.time ∧ (runSelection publication s).hsi = s.hsi ∧
      (runSelection publication s).psm = s.psm ∧ (runSelection publication s).fsu = s.fsu ∧
      (runSelection publication s).sts = s.sts ∧ (runSelection publication s).pending = s.pending ∧
      (runSelection publication s).pth.adapter = s.pth.adapter ∧
      (runSelection publication s).pth.packA = s.pth.packA ∧
      (runSelection publication s).pth.preference = s.pth.preference ∧
      (runSelection publication s).chc.order = s.chc.order ∧
      (runSelection publication s).chc.threshold = s.chc.threshold ∧
      (runSelection publication s).chc.openRow = s.chc.openRow ∧
      (runSelection publication s).chc.latches = s.chc.latches ∧
      (runSelection publication s).chc.table = s.chc.table ∧
      (runSelection publication s).plc.devices = s.plc.devices ∧
      (runSelection publication s).plc.pass = s.plc.pass ∧
      (runSelection publication s).plc.caught = s.plc.caught ∧
      (runSelection publication s).plc.result = s.plc.result ∧
      (runSelection publication s).kbs.settings = s.kbs.settings ∧
      (runSelection publication s).thc.holds = s.thc.holds ∧
      (runSelection publication s).thc.inputs = s.thc.inputs ∧
      (runSelection publication s).thc.floor = s.thc.floor ∧
      (runSelection publication s).thc.trip = s.thc.trip ∧
      (runSelection publication s).thc.curves = s.thc.curves ∧
      (runSelection publication s).swc.presses = s.swc.presses ∧
      (runSelection publication s).swc.settings = s.swc.settings ∧
      (runSelection publication s).swc.wakeTimer = s.swc.wakeTimer ∧
      (runSelection publication s).evr.routes = s.evr.routes ∧
      (runSelection publication s).hlk.queue = s.hlk.queue ∧
      (runSelection publication s).hlk.resetPending = s.hlk.resetPending ∧
      (runSelection publication s).hlk.rx = s.hlk.rx ∧ (runSelection publication s).hlk.series = s.hlk.series ∧
      (runSelection publication s).hlk.held = s.hlk.held := by
  simp only [runSelection]
  repeat' split
  all_goals simp

@[simp] theorem postpone_frame (publication : Bool) (s : State) :
    (postpone publication s).time = s.time ∧ (postpone publication s).chc = s.chc ∧
      (postpone publication s).bga = s.bga ∧ (postpone publication s).plc = s.plc ∧
      (postpone publication s).hsi = s.hsi ∧ (postpone publication s).psm = s.psm ∧
      (postpone publication s).kbs = s.kbs ∧ (postpone publication s).thc = s.thc ∧
      (postpone publication s).swc = s.swc ∧ (postpone publication s).fsu = s.fsu ∧
      (postpone publication s).evr = s.evr ∧ (postpone publication s).hlk = s.hlk ∧
      (postpone publication s).sts = s.sts ∧ (postpone publication s).pending = s.pending ∧
      (postpone publication s).pth.path = s.pth.path ∧ (postpone publication s).pth.swAdp = s.pth.swAdp ∧
      (postpone publication s).pth.swPa = s.pth.swPa ∧ (postpone publication s).pth.swPb = s.pth.swPb ∧
      (postpone publication s).pth.settled = s.pth.settled ∧
      (postpone publication s).pth.knownMv = s.pth.knownMv ∧
      (postpone publication s).pth.adapter = s.pth.adapter ∧
      (postpone publication s).pth.packA = s.pth.packA ∧
      (postpone publication s).pth.packB = s.pth.packB ∧
      (postpone publication s).pth.preference = s.pth.preference ∧
      (postpone publication s).pth.ejectOk = s.pth.ejectOk ∧
      (postpone publication s).pth.ejectWindow = s.pth.ejectWindow := by
  simp only [postpone]
  repeat' split
  all_goals simp

@[simp] theorem postpone_postponed (publication : Bool) (s : State) :
    (postpone publication s).pth.postponed = (s.pth.postponed || publication) := (rfl)

/-- A selection that is no publication's postpones nothing. -/
@[simp] theorem postpone_false (s : State) : postpone false s = s := by
  simp [postpone, State.setPth]

@[simp] theorem selectHeld_frame (publication : Bool) (s : State) :
    (selectHeld publication s).time = s.time ∧ (selectHeld publication s).hsi = s.hsi ∧
      (selectHeld publication s).psm = s.psm ∧ (selectHeld publication s).fsu = s.fsu ∧
      (selectHeld publication s).sts = s.sts ∧ (selectHeld publication s).pending = s.pending ∧
      (selectHeld publication s).pth.adapter = s.pth.adapter ∧
      (selectHeld publication s).pth.packA = s.pth.packA ∧
      (selectHeld publication s).pth.preference = s.pth.preference ∧
      (selectHeld publication s).chc.order = s.chc.order ∧
      (selectHeld publication s).chc.threshold = s.chc.threshold ∧
      (selectHeld publication s).chc.openRow = s.chc.openRow ∧
      (selectHeld publication s).chc.latches = s.chc.latches ∧
      (selectHeld publication s).chc.table = s.chc.table ∧
      (selectHeld publication s).plc.devices = s.plc.devices ∧
      (selectHeld publication s).plc.pass = s.plc.pass ∧
      (selectHeld publication s).plc.caught = s.plc.caught ∧
      (selectHeld publication s).plc.result = s.plc.result ∧
      (selectHeld publication s).kbs.settings = s.kbs.settings ∧
      (selectHeld publication s).thc.holds = s.thc.holds ∧
      (selectHeld publication s).thc.inputs = s.thc.inputs ∧
      (selectHeld publication s).thc.floor = s.thc.floor ∧
      (selectHeld publication s).thc.trip = s.thc.trip ∧
      (selectHeld publication s).thc.curves = s.thc.curves ∧
      (selectHeld publication s).swc.presses = s.swc.presses ∧
      (selectHeld publication s).swc.settings = s.swc.settings ∧
      (selectHeld publication s).swc.wakeTimer = s.swc.wakeTimer ∧
      (selectHeld publication s).evr.routes = s.evr.routes ∧
      (selectHeld publication s).hlk.queue = s.hlk.queue ∧
      (selectHeld publication s).hlk.resetPending = s.hlk.resetPending ∧
      (selectHeld publication s).hlk.rx = s.hlk.rx ∧
      (selectHeld publication s).hlk.series = s.hlk.series ∧
      (selectHeld publication s).hlk.held = s.hlk.held := by
  simp only [selectHeld]
  repeat' split
  all_goals simp

@[simp] theorem select_frame (publication : Bool) (s : State) :
    (select publication s).time = s.time ∧ (select publication s).hsi = s.hsi ∧
      (select publication s).psm = s.psm ∧ (select publication s).fsu = s.fsu ∧
      (select publication s).sts = s.sts ∧ (select publication s).pending = s.pending ∧
      (select publication s).pth.adapter = s.pth.adapter ∧ (select publication s).pth.packA = s.pth.packA ∧
      (select publication s).pth.preference = s.pth.preference ∧
      (select publication s).chc.order = s.chc.order ∧ (select publication s).chc.threshold = s.chc.threshold ∧
      (select publication s).chc.openRow = s.chc.openRow ∧ (select publication s).chc.latches = s.chc.latches ∧
      (select publication s).chc.table = s.chc.table ∧ (select publication s).plc.devices = s.plc.devices ∧
      (select publication s).plc.pass = s.plc.pass ∧ (select publication s).plc.caught = s.plc.caught ∧
      (select publication s).plc.result = s.plc.result ∧ (select publication s).kbs.settings = s.kbs.settings ∧
      (select publication s).thc.holds = s.thc.holds ∧ (select publication s).thc.inputs = s.thc.inputs ∧
      (select publication s).thc.floor = s.thc.floor ∧ (select publication s).thc.trip = s.thc.trip ∧
      (select publication s).thc.curves = s.thc.curves ∧ (select publication s).swc.presses = s.swc.presses ∧
      (select publication s).swc.settings = s.swc.settings ∧
      (select publication s).swc.wakeTimer = s.swc.wakeTimer ∧
      (select publication s).evr.routes = s.evr.routes ∧ (select publication s).hlk.queue = s.hlk.queue ∧
      (select publication s).hlk.resetPending = s.hlk.resetPending ∧ (select publication s).hlk.rx = s.hlk.rx ∧
      (select publication s).hlk.series = s.hlk.series ∧ (select publication s).hlk.held = s.hlk.held := by
  simp only [select]
  repeat' split
  all_goals simp

/-- During a switch-over a selection point that is no publication's changes nothing (R15). -/
theorem select_switching (s : State) (t : Source) (h : s.pth.path = .switching t) : select false s = s := by
  simp [select, h]

/-- With POWER RUN, outside a switch-over, selection is carried out (R12). -/
theorem select_running (publication : Bool) (s : State) (hp : ∀ t, s.pth.path ≠ .switching t)
    (hr : s.running .power = true) : select publication s = runSelection publication s := by
  cases h : s.pth.path <;> simp_all [select]

@[simp] theorem deriveUsable_frame (p : PackId) (s : State) :
    (deriveUsable p s).time = s.time ∧ (deriveUsable p s).chc = s.chc ∧ (deriveUsable p s).bga = s.bga ∧
      (deriveUsable p s).plc = s.plc ∧ (deriveUsable p s).hsi = s.hsi ∧ (deriveUsable p s).psm = s.psm ∧
      (deriveUsable p s).kbs = s.kbs ∧ (deriveUsable p s).thc = s.thc ∧ (deriveUsable p s).swc = s.swc ∧
      (deriveUsable p s).fsu = s.fsu ∧ (deriveUsable p s).evr = s.evr ∧ (deriveUsable p s).hlk = s.hlk ∧
      (deriveUsable p s).sts = s.sts ∧ (deriveUsable p s).pending = s.pending ∧
      (deriveUsable p s).pth.path = s.pth.path ∧ (deriveUsable p s).pth.swAdp = s.pth.swAdp ∧
      (deriveUsable p s).pth.swPa = s.pth.swPa ∧ (deriveUsable p s).pth.swPb = s.pth.swPb ∧
      (deriveUsable p s).pth.adapter = s.pth.adapter ∧ (deriveUsable p s).pth.preference = s.pth.preference ∧
      (deriveUsable p s).pth.ejectOk = s.pth.ejectOk ∧ (deriveUsable p s).pth.ejectWindow = s.pth.ejectWindow := by
  simp only [deriveUsable]
  repeat' split
  all_goals simp

@[simp] theorem refreshPack_frame (p : PackId) (before : State) (s : State) :
    (refreshPack p before s).time = s.time ∧ (refreshPack p before s).hsi = s.hsi ∧
      (refreshPack p before s).psm = s.psm ∧ (refreshPack p before s).fsu = s.fsu ∧
      (refreshPack p before s).sts = s.sts ∧ (refreshPack p before s).pending = s.pending ∧
      (refreshPack p before s).pth.adapter = s.pth.adapter ∧
      (refreshPack p before s).pth.preference = s.pth.preference ∧
      (refreshPack p before s).chc.order = s.chc.order ∧
      (refreshPack p before s).chc.threshold = s.chc.threshold ∧
      (refreshPack p before s).chc.openRow = s.chc.openRow ∧
      (refreshPack p before s).chc.latches = s.chc.latches ∧ (refreshPack p before s).chc.table = s.chc.table ∧
      (refreshPack p before s).plc.devices = s.plc.devices ∧ (refreshPack p before s).plc.pass = s.plc.pass ∧
      (refreshPack p before s).plc.caught = s.plc.caught ∧ (refreshPack p before s).plc.result = s.plc.result ∧
      (refreshPack p before s).kbs.settings = s.kbs.settings ∧
      (refreshPack p before s).thc.holds = s.thc.holds ∧ (refreshPack p before s).thc.inputs = s.thc.inputs ∧
      (refreshPack p before s).thc.floor = s.thc.floor ∧ (refreshPack p before s).thc.trip = s.thc.trip ∧
      (refreshPack p before s).thc.curves = s.thc.curves ∧
      (refreshPack p before s).swc.presses = s.swc.presses ∧
      (refreshPack p before s).swc.settings = s.swc.settings ∧
      (refreshPack p before s).swc.wakeTimer = s.swc.wakeTimer ∧
      (refreshPack p before s).evr.routes = s.evr.routes ∧ (refreshPack p before s).hlk.queue = s.hlk.queue ∧
      (refreshPack p before s).hlk.resetPending = s.hlk.resetPending ∧
      (refreshPack p before s).hlk.rx = s.hlk.rx ∧ (refreshPack p before s).hlk.series = s.hlk.series ∧
      (refreshPack p before s).hlk.held = s.hlk.held := by
  simp only [refreshPack]
  repeat' split
  all_goals simp

@[simp] theorem publish_frame (p : PackId) (x : Snapshot) (s : State) :
    (publish p x s).time = s.time ∧ (publish p x s).hsi = s.hsi ∧ (publish p x s).psm = s.psm ∧
      (publish p x s).sts = s.sts ∧ (publish p x s).pending = s.pending ∧
      (publish p x s).pth.adapter = s.pth.adapter ∧ (publish p x s).pth.preference = s.pth.preference ∧
      (publish p x s).chc.order = s.chc.order ∧ (publish p x s).chc.threshold = s.chc.threshold ∧
      (publish p x s).chc.openRow = s.chc.openRow ∧ (publish p x s).chc.latches = s.chc.latches ∧
      (publish p x s).chc.table = s.chc.table ∧ (publish p x s).plc.devices = s.plc.devices ∧
      (publish p x s).plc.pass = s.plc.pass ∧ (publish p x s).kbs.settings = s.kbs.settings ∧
      (publish p x s).thc.holds = s.thc.holds ∧ (publish p x s).thc.inputs = s.thc.inputs ∧
      (publish p x s).thc.floor = s.thc.floor ∧ (publish p x s).thc.trip = s.thc.trip ∧
      (publish p x s).thc.curves = s.thc.curves ∧ (publish p x s).swc.presses = s.swc.presses ∧
      (publish p x s).swc.settings = s.swc.settings ∧ (publish p x s).swc.wakeTimer = s.swc.wakeTimer ∧
      (publish p x s).fsu.table = s.fsu.table ∧ (publish p x s).evr.routes = s.evr.routes ∧
      (publish p x s).hlk.queue = s.hlk.queue ∧ (publish p x s).hlk.resetPending = s.hlk.resetPending ∧
      (publish p x s).hlk.rx = s.hlk.rx ∧ (publish p x s).hlk.series = s.hlk.series ∧
      (publish p x s).hlk.held = s.hlk.held := by
  simp only [publish]
  repeat' split
  all_goals simp

@[simp] theorem packFaulted_frame (p : PackId) (s : State) :
    (packFaulted p s).time = s.time ∧ (packFaulted p s).hsi = s.hsi ∧ (packFaulted p s).psm = s.psm ∧
      (packFaulted p s).sts = s.sts ∧ (packFaulted p s).pending = s.pending ∧
      (packFaulted p s).pth.adapter = s.pth.adapter ∧ (packFaulted p s).pth.preference = s.pth.preference ∧
      (packFaulted p s).chc.order = s.chc.order ∧ (packFaulted p s).chc.threshold = s.chc.threshold ∧
      (packFaulted p s).chc.openRow = s.chc.openRow ∧ (packFaulted p s).chc.latches = s.chc.latches ∧
      (packFaulted p s).chc.table = s.chc.table ∧ (packFaulted p s).plc.devices = s.plc.devices ∧
      (packFaulted p s).plc.pass = s.plc.pass ∧ (packFaulted p s).kbs.settings = s.kbs.settings ∧
      (packFaulted p s).thc.holds = s.thc.holds ∧ (packFaulted p s).thc.inputs = s.thc.inputs ∧
      (packFaulted p s).thc.floor = s.thc.floor ∧ (packFaulted p s).thc.trip = s.thc.trip ∧
      (packFaulted p s).thc.curves = s.thc.curves ∧ (packFaulted p s).swc.presses = s.swc.presses ∧
      (packFaulted p s).swc.settings = s.swc.settings ∧ (packFaulted p s).swc.wakeTimer = s.swc.wakeTimer ∧
      (packFaulted p s).evr.routes = s.evr.routes ∧ (packFaulted p s).hlk.queue = s.hlk.queue ∧
      (packFaulted p s).hlk.resetPending = s.hlk.resetPending ∧ (packFaulted p s).hlk.rx = s.hlk.rx ∧
      (packFaulted p s).hlk.series = s.hlk.series ∧ (packFaulted p s).hlk.held = s.hlk.held := by
  simp only [packFaulted]
  repeat' split
  all_goals simp

@[simp] theorem snapshotFailed_frame (p : PackId) (s : State) :
    (snapshotFailed p s).time = s.time ∧ (snapshotFailed p s).hsi = s.hsi ∧ (snapshotFailed p s).psm = s.psm ∧
      (snapshotFailed p s).sts = s.sts ∧ (snapshotFailed p s).pending = s.pending ∧
      (snapshotFailed p s).pth.adapter = s.pth.adapter ∧
      (snapshotFailed p s).pth.preference = s.pth.preference ∧ (snapshotFailed p s).chc.order = s.chc.order ∧
      (snapshotFailed p s).chc.threshold = s.chc.threshold ∧ (snapshotFailed p s).chc.openRow = s.chc.openRow ∧
      (snapshotFailed p s).chc.latches = s.chc.latches ∧ (snapshotFailed p s).chc.table = s.chc.table ∧
      (snapshotFailed p s).plc.devices = s.plc.devices ∧ (snapshotFailed p s).plc.pass = s.plc.pass ∧
      (snapshotFailed p s).kbs.settings = s.kbs.settings ∧ (snapshotFailed p s).thc.holds = s.thc.holds ∧
      (snapshotFailed p s).thc.inputs = s.thc.inputs ∧ (snapshotFailed p s).thc.floor = s.thc.floor ∧
      (snapshotFailed p s).thc.trip = s.thc.trip ∧ (snapshotFailed p s).thc.curves = s.thc.curves ∧
      (snapshotFailed p s).swc.presses = s.swc.presses ∧ (snapshotFailed p s).swc.settings = s.swc.settings ∧
      (snapshotFailed p s).swc.wakeTimer = s.swc.wakeTimer ∧ (snapshotFailed p s).evr.routes = s.evr.routes ∧
      (snapshotFailed p s).hlk.queue = s.hlk.queue ∧
      (snapshotFailed p s).hlk.resetPending = s.hlk.resetPending ∧ (snapshotFailed p s).hlk.rx = s.hlk.rx ∧
      (snapshotFailed p s).hlk.series = s.hlk.series ∧ (snapshotFailed p s).hlk.held = s.hlk.held := by
  simp only [snapshotFailed]
  repeat' split
  all_goals simp

@[simp] theorem enterDetected_frame (p : PackId) (s : State) :
    (enterDetected p s).time = s.time ∧ (enterDetected p s).chc = s.chc ∧ (enterDetected p s).bga = s.bga ∧
      (enterDetected p s).hsi = s.hsi ∧ (enterDetected p s).psm = s.psm ∧ (enterDetected p s).kbs = s.kbs ∧
      (enterDetected p s).thc = s.thc ∧ (enterDetected p s).swc = s.swc ∧ (enterDetected p s).fsu = s.fsu ∧
      (enterDetected p s).evr = s.evr ∧ (enterDetected p s).hlk = s.hlk ∧ (enterDetected p s).sts = s.sts ∧
      (enterDetected p s).pending = s.pending ∧ (enterDetected p s).pth.path = s.pth.path ∧
      (enterDetected p s).pth.swAdp = s.pth.swAdp ∧ (enterDetected p s).pth.swPa = s.pth.swPa ∧
      (enterDetected p s).pth.swPb = s.pth.swPb ∧ (enterDetected p s).pth.adapter = s.pth.adapter ∧
      (enterDetected p s).pth.preference = s.pth.preference ∧ (enterDetected p s).pth.ejectOk = s.pth.ejectOk ∧
      (enterDetected p s).pth.ejectWindow = s.pth.ejectWindow ∧
      (enterDetected p s).plc.devices = s.plc.devices ∧ (enterDetected p s).plc.pass = s.plc.pass ∧
      (enterDetected p s).plc.caught = s.plc.caught ∧ (enterDetected p s).plc.result = s.plc.result := by
  simp only [enterDetected]
  repeat' split
  all_goals simp

@[simp] theorem identityFailed_frame (p : PackId) (s : State) :
    (identityFailed p s).time = s.time ∧ (identityFailed p s).hsi = s.hsi ∧ (identityFailed p s).psm = s.psm ∧
      (identityFailed p s).sts = s.sts ∧ (identityFailed p s).pending = s.pending ∧
      (identityFailed p s).pth.adapter = s.pth.adapter ∧
      (identityFailed p s).pth.preference = s.pth.preference ∧ (identityFailed p s).chc.order = s.chc.order ∧
      (identityFailed p s).chc.threshold = s.chc.threshold ∧ (identityFailed p s).chc.openRow = s.chc.openRow ∧
      (identityFailed p s).chc.latches = s.chc.latches ∧ (identityFailed p s).chc.table = s.chc.table ∧
      (identityFailed p s).plc.devices = s.plc.devices ∧ (identityFailed p s).plc.pass = s.plc.pass ∧
      (identityFailed p s).kbs.settings = s.kbs.settings ∧ (identityFailed p s).thc.holds = s.thc.holds ∧
      (identityFailed p s).thc.inputs = s.thc.inputs ∧ (identityFailed p s).thc.floor = s.thc.floor ∧
      (identityFailed p s).thc.trip = s.thc.trip ∧ (identityFailed p s).thc.curves = s.thc.curves ∧
      (identityFailed p s).swc.presses = s.swc.presses ∧ (identityFailed p s).swc.settings = s.swc.settings ∧
      (identityFailed p s).swc.wakeTimer = s.swc.wakeTimer ∧ (identityFailed p s).evr.routes = s.evr.routes ∧
      (identityFailed p s).hlk.queue = s.hlk.queue ∧
      (identityFailed p s).hlk.resetPending = s.hlk.resetPending ∧ (identityFailed p s).hlk.rx = s.hlk.rx ∧
      (identityFailed p s).hlk.series = s.hlk.series ∧ (identityFailed p s).hlk.held = s.hlk.held := by
  simp only [identityFailed]
  repeat' split
  all_goals simp

@[simp] theorem identityRead_frame (p : PackId) (i : Identity) (s : State) :
    (identityRead p i s).time = s.time ∧ (identityRead p i s).hsi = s.hsi ∧ (identityRead p i s).psm = s.psm ∧
      (identityRead p i s).sts = s.sts ∧ (identityRead p i s).pending = s.pending ∧
      (identityRead p i s).pth.adapter = s.pth.adapter ∧
      (identityRead p i s).pth.preference = s.pth.preference ∧ (identityRead p i s).chc.order = s.chc.order ∧
      (identityRead p i s).chc.threshold = s.chc.threshold ∧ (identityRead p i s).chc.openRow = s.chc.openRow ∧
      (identityRead p i s).chc.latches = s.chc.latches ∧ (identityRead p i s).chc.table = s.chc.table ∧
      (identityRead p i s).plc.devices = s.plc.devices ∧ (identityRead p i s).plc.pass = s.plc.pass ∧
      (identityRead p i s).kbs.settings = s.kbs.settings ∧ (identityRead p i s).thc.holds = s.thc.holds ∧
      (identityRead p i s).thc.inputs = s.thc.inputs ∧ (identityRead p i s).thc.floor = s.thc.floor ∧
      (identityRead p i s).thc.trip = s.thc.trip ∧ (identityRead p i s).thc.curves = s.thc.curves ∧
      (identityRead p i s).swc.presses = s.swc.presses ∧ (identityRead p i s).swc.settings = s.swc.settings ∧
      (identityRead p i s).swc.wakeTimer = s.swc.wakeTimer ∧ (identityRead p i s).evr.routes = s.evr.routes ∧
      (identityRead p i s).hlk.queue = s.hlk.queue ∧
      (identityRead p i s).hlk.resetPending = s.hlk.resetPending ∧ (identityRead p i s).hlk.rx = s.hlk.rx ∧
      (identityRead p i s).hlk.series = s.hlk.series ∧ (identityRead p i s).hlk.held = s.hlk.held := by
  simp only [identityRead]
  repeat' split
  all_goals simp

@[simp] theorem unfault_frame (p : PackId) (s : State) :
    (unfault p s).time = s.time ∧ (unfault p s).chc = s.chc ∧ (unfault p s).bga = s.bga ∧
      (unfault p s).hsi = s.hsi ∧ (unfault p s).psm = s.psm ∧ (unfault p s).kbs = s.kbs ∧
      (unfault p s).thc = s.thc ∧ (unfault p s).swc = s.swc ∧ (unfault p s).fsu = s.fsu ∧
      (unfault p s).evr = s.evr ∧ (unfault p s).hlk = s.hlk ∧ (unfault p s).sts = s.sts ∧
      (unfault p s).pending = s.pending ∧ (unfault p s).pth.path = s.pth.path ∧
      (unfault p s).pth.swAdp = s.pth.swAdp ∧ (unfault p s).pth.swPa = s.pth.swPa ∧
      (unfault p s).pth.swPb = s.pth.swPb ∧ (unfault p s).pth.adapter = s.pth.adapter ∧
      (unfault p s).pth.preference = s.pth.preference ∧ (unfault p s).pth.ejectOk = s.pth.ejectOk ∧
      (unfault p s).pth.ejectWindow = s.pth.ejectWindow ∧ (unfault p s).plc.devices = s.plc.devices ∧
      (unfault p s).plc.pass = s.plc.pass ∧ (unfault p s).plc.caught = s.plc.caught ∧
      (unfault p s).plc.result = s.plc.result := by
  simp only [unfault]
  repeat' split
  all_goals simp

@[simp] theorem loseSource_frame (t : Source) (s : State) :
    (loseSource t s).time = s.time ∧ (loseSource t s).hsi = s.hsi ∧ (loseSource t s).psm = s.psm ∧
      (loseSource t s).sts = s.sts ∧ (loseSource t s).pending = s.pending ∧
      (loseSource t s).pth.adapter = s.pth.adapter ∧ (loseSource t s).pth.packA = s.pth.packA ∧
      (loseSource t s).pth.preference = s.pth.preference ∧ (loseSource t s).chc.order = s.chc.order ∧
      (loseSource t s).chc.threshold = s.chc.threshold ∧ (loseSource t s).chc.openRow = s.chc.openRow ∧
      (loseSource t s).chc.latches = s.chc.latches ∧ (loseSource t s).chc.table = s.chc.table ∧
      (loseSource t s).plc.devices = s.plc.devices ∧ (loseSource t s).plc.pass = s.plc.pass ∧
      (loseSource t s).kbs.settings = s.kbs.settings ∧ (loseSource t s).thc.holds = s.thc.holds ∧
      (loseSource t s).thc.inputs = s.thc.inputs ∧ (loseSource t s).thc.floor = s.thc.floor ∧
      (loseSource t s).thc.trip = s.thc.trip ∧ (loseSource t s).thc.curves = s.thc.curves ∧
      (loseSource t s).swc.presses = s.swc.presses ∧ (loseSource t s).swc.settings = s.swc.settings ∧
      (loseSource t s).swc.wakeTimer = s.swc.wakeTimer ∧ (loseSource t s).fsu.table = s.fsu.table ∧
      (loseSource t s).evr.routes = s.evr.routes ∧ (loseSource t s).hlk.queue = s.hlk.queue ∧
      (loseSource t s).hlk.resetPending = s.hlk.resetPending ∧ (loseSource t s).hlk.rx = s.hlk.rx ∧
      (loseSource t s).hlk.series = s.hlk.series ∧ (loseSource t s).hlk.held = s.hlk.held := by
  simp only [loseSource]
  repeat' split
  all_goals simp

@[simp] theorem removePack_frame (p : PackId) (s : State) :
    (removePack p s).time = s.time ∧ (removePack p s).hsi = s.hsi ∧ (removePack p s).psm = s.psm ∧
      (removePack p s).sts = s.sts ∧ (removePack p s).pending = s.pending ∧
      (removePack p s).pth.adapter = s.pth.adapter ∧ (removePack p s).pth.preference = s.pth.preference ∧
      (removePack p s).chc.order = s.chc.order ∧ (removePack p s).chc.threshold = s.chc.threshold ∧
      (removePack p s).chc.openRow = s.chc.openRow ∧ (removePack p s).chc.latches = s.chc.latches ∧
      (removePack p s).chc.table = s.chc.table ∧ (removePack p s).plc.devices = s.plc.devices ∧
      (removePack p s).kbs.settings = s.kbs.settings ∧ (removePack p s).thc.holds = s.thc.holds ∧
      (removePack p s).thc.inputs = s.thc.inputs ∧ (removePack p s).thc.floor = s.thc.floor ∧
      (removePack p s).thc.trip = s.thc.trip ∧ (removePack p s).thc.curves = s.thc.curves ∧
      (removePack p s).swc.presses = s.swc.presses ∧ (removePack p s).swc.settings = s.swc.settings ∧
      (removePack p s).swc.wakeTimer = s.swc.wakeTimer ∧ (removePack p s).fsu.table = s.fsu.table ∧
      (removePack p s).evr.routes = s.evr.routes ∧ (removePack p s).hlk.queue = s.hlk.queue ∧
      (removePack p s).hlk.resetPending = s.hlk.resetPending ∧ (removePack p s).hlk.rx = s.hlk.rx ∧
      (removePack p s).hlk.series = s.hlk.series ∧ (removePack p s).hlk.held = s.hlk.held := by
  simp only [removePack]
  repeat' split
  all_goals simp

@[simp] theorem enterEjectReady_frame (s : State) :
    (enterEjectReady s).time = s.time ∧ (enterEjectReady s).hsi = s.hsi ∧ (enterEjectReady s).psm = s.psm ∧
      (enterEjectReady s).fsu = s.fsu ∧ (enterEjectReady s).sts = s.sts ∧
      (enterEjectReady s).pending = s.pending ∧ (enterEjectReady s).pth.adapter = s.pth.adapter ∧
      (enterEjectReady s).pth.preference = s.pth.preference ∧ (enterEjectReady s).chc.order = s.chc.order ∧
      (enterEjectReady s).chc.threshold = s.chc.threshold ∧ (enterEjectReady s).chc.openRow = s.chc.openRow ∧
      (enterEjectReady s).chc.latches = s.chc.latches ∧ (enterEjectReady s).chc.table = s.chc.table ∧
      (enterEjectReady s).plc.devices = s.plc.devices ∧ (enterEjectReady s).plc.pass = s.plc.pass ∧
      (enterEjectReady s).plc.caught = s.plc.caught ∧ (enterEjectReady s).plc.result = s.plc.result ∧
      (enterEjectReady s).kbs.settings = s.kbs.settings ∧ (enterEjectReady s).thc.holds = s.thc.holds ∧
      (enterEjectReady s).thc.inputs = s.thc.inputs ∧ (enterEjectReady s).thc.floor = s.thc.floor ∧
      (enterEjectReady s).thc.trip = s.thc.trip ∧ (enterEjectReady s).thc.curves = s.thc.curves ∧
      (enterEjectReady s).swc.presses = s.swc.presses ∧ (enterEjectReady s).swc.settings = s.swc.settings ∧
      (enterEjectReady s).swc.wakeTimer = s.swc.wakeTimer ∧ (enterEjectReady s).evr.routes = s.evr.routes ∧
      (enterEjectReady s).hlk.queue = s.hlk.queue ∧ (enterEjectReady s).hlk.resetPending = s.hlk.resetPending ∧
      (enterEjectReady s).hlk.rx = s.hlk.rx ∧ (enterEjectReady s).hlk.series = s.hlk.series ∧
      (enterEjectReady s).hlk.held = s.hlk.held := by
  simp only [enterEjectReady]
  repeat' split
  all_goals simp

@[simp] theorem ejectConfirmed_frame (t : Source) (s : State) :
    (ejectConfirmed t s).time = s.time ∧ (ejectConfirmed t s).hsi = s.hsi ∧ (ejectConfirmed t s).psm = s.psm ∧
      (ejectConfirmed t s).fsu = s.fsu ∧ (ejectConfirmed t s).sts = s.sts ∧
      (ejectConfirmed t s).pending = s.pending ∧ (ejectConfirmed t s).pth.adapter = s.pth.adapter ∧
      (ejectConfirmed t s).pth.preference = s.pth.preference ∧ (ejectConfirmed t s).chc.order = s.chc.order ∧
      (ejectConfirmed t s).chc.threshold = s.chc.threshold ∧ (ejectConfirmed t s).chc.openRow = s.chc.openRow ∧
      (ejectConfirmed t s).chc.latches = s.chc.latches ∧ (ejectConfirmed t s).chc.table = s.chc.table ∧
      (ejectConfirmed t s).plc.devices = s.plc.devices ∧ (ejectConfirmed t s).plc.pass = s.plc.pass ∧
      (ejectConfirmed t s).plc.caught = s.plc.caught ∧ (ejectConfirmed t s).plc.result = s.plc.result ∧
      (ejectConfirmed t s).kbs.settings = s.kbs.settings ∧ (ejectConfirmed t s).thc.holds = s.thc.holds ∧
      (ejectConfirmed t s).thc.inputs = s.thc.inputs ∧ (ejectConfirmed t s).thc.floor = s.thc.floor ∧
      (ejectConfirmed t s).thc.trip = s.thc.trip ∧ (ejectConfirmed t s).thc.curves = s.thc.curves ∧
      (ejectConfirmed t s).swc.presses = s.swc.presses ∧ (ejectConfirmed t s).swc.settings = s.swc.settings ∧
      (ejectConfirmed t s).swc.wakeTimer = s.swc.wakeTimer ∧ (ejectConfirmed t s).evr.routes = s.evr.routes ∧
      (ejectConfirmed t s).hlk.queue = s.hlk.queue ∧
      (ejectConfirmed t s).hlk.resetPending = s.hlk.resetPending ∧ (ejectConfirmed t s).hlk.rx = s.hlk.rx ∧
      (ejectConfirmed t s).hlk.series = s.hlk.series ∧ (ejectConfirmed t s).hlk.held = s.hlk.held := by
  simp only [ejectConfirmed]
  repeat' split
  all_goals simp

@[simp] theorem confirmPath_frame (t : Source) (s : State) :
    (confirmPath t s).time = s.time ∧ (confirmPath t s).hsi = s.hsi ∧ (confirmPath t s).psm = s.psm ∧
      (confirmPath t s).sts = s.sts ∧ (confirmPath t s).pending = s.pending ∧
      (confirmPath t s).pth.adapter = s.pth.adapter ∧ (confirmPath t s).pth.preference = s.pth.preference ∧
      (confirmPath t s).chc.order = s.chc.order ∧ (confirmPath t s).chc.threshold = s.chc.threshold ∧
      (confirmPath t s).chc.openRow = s.chc.openRow ∧ (confirmPath t s).chc.latches = s.chc.latches ∧
      (confirmPath t s).chc.table = s.chc.table ∧ (confirmPath t s).plc.devices = s.plc.devices ∧
      (confirmPath t s).plc.pass = s.plc.pass ∧ (confirmPath t s).kbs.settings = s.kbs.settings ∧
      (confirmPath t s).thc.holds = s.thc.holds ∧ (confirmPath t s).thc.inputs = s.thc.inputs ∧
      (confirmPath t s).thc.floor = s.thc.floor ∧ (confirmPath t s).thc.trip = s.thc.trip ∧
      (confirmPath t s).thc.curves = s.thc.curves ∧ (confirmPath t s).swc.presses = s.swc.presses ∧
      (confirmPath t s).swc.settings = s.swc.settings ∧ (confirmPath t s).swc.wakeTimer = s.swc.wakeTimer ∧
      (confirmPath t s).fsu.table = s.fsu.table ∧ (confirmPath t s).evr.routes = s.evr.routes ∧
      (confirmPath t s).hlk.queue = s.hlk.queue ∧ (confirmPath t s).hlk.resetPending = s.hlk.resetPending ∧
      (confirmPath t s).hlk.rx = s.hlk.rx ∧ (confirmPath t s).hlk.series = s.hlk.series ∧
      (confirmPath t s).hlk.held = s.hlk.held := by
  simp only [confirmPath]
  repeat' split
  all_goals simp

@[simp] theorem startHold_frame (t : Source) (s : State) :
    (startHold t s).time = s.time ∧ (startHold t s).chc = s.chc ∧ (startHold t s).bga = s.bga ∧
      (startHold t s).plc = s.plc ∧ (startHold t s).hsi = s.hsi ∧ (startHold t s).psm = s.psm ∧
      (startHold t s).kbs = s.kbs ∧ (startHold t s).thc = s.thc ∧ (startHold t s).swc = s.swc ∧
      (startHold t s).fsu = s.fsu ∧ (startHold t s).evr = s.evr ∧ (startHold t s).hlk = s.hlk ∧
      (startHold t s).sts = s.sts ∧ (startHold t s).pending = s.pending ∧
      (startHold t s).pth.path = s.pth.path ∧ (startHold t s).pth.swAdp = s.pth.swAdp ∧
      (startHold t s).pth.swPa = s.pth.swPa ∧ (startHold t s).pth.swPb = s.pth.swPb ∧
      (startHold t s).pth.preference = s.pth.preference ∧ (startHold t s).pth.ejectOk = s.pth.ejectOk ∧
      (startHold t s).pth.ejectWindow = s.pth.ejectWindow := by
  simp only [startHold]
  repeat' split
  all_goals simp

@[simp] theorem switchFails_frame (t : Source) (s : State) :
    (switchFails t s).time = s.time ∧ (switchFails t s).hsi = s.hsi ∧ (switchFails t s).psm = s.psm ∧
      (switchFails t s).sts = s.sts ∧ (switchFails t s).pending = s.pending ∧
      (switchFails t s).pth.preference = s.pth.preference ∧ (switchFails t s).chc.order = s.chc.order ∧
      (switchFails t s).chc.threshold = s.chc.threshold ∧ (switchFails t s).chc.openRow = s.chc.openRow ∧
      (switchFails t s).chc.latches = s.chc.latches ∧ (switchFails t s).chc.table = s.chc.table ∧
      (switchFails t s).plc.devices = s.plc.devices ∧ (switchFails t s).plc.pass = s.plc.pass ∧
      (switchFails t s).kbs.settings = s.kbs.settings ∧ (switchFails t s).thc.holds = s.thc.holds ∧
      (switchFails t s).thc.inputs = s.thc.inputs ∧ (switchFails t s).thc.floor = s.thc.floor ∧
      (switchFails t s).thc.trip = s.thc.trip ∧ (switchFails t s).thc.curves = s.thc.curves ∧
      (switchFails t s).swc.presses = s.swc.presses ∧ (switchFails t s).swc.settings = s.swc.settings ∧
      (switchFails t s).swc.wakeTimer = s.swc.wakeTimer ∧ (switchFails t s).evr.routes = s.evr.routes ∧
      (switchFails t s).hlk.queue = s.hlk.queue ∧ (switchFails t s).hlk.resetPending = s.hlk.resetPending ∧
      (switchFails t s).hlk.rx = s.hlk.rx ∧ (switchFails t s).hlk.series = s.hlk.series ∧
      (switchFails t s).hlk.held = s.hlk.held := by
  simp only [switchFails]
  repeat' split
  all_goals simp

@[simp] theorem adapterArrives_frame (s : State) :
    (adapterArrives s).time = s.time ∧ (adapterArrives s).hsi = s.hsi ∧ (adapterArrives s).psm = s.psm ∧
      (adapterArrives s).fsu = s.fsu ∧ (adapterArrives s).sts = s.sts ∧ (adapterArrives s).pending = s.pending ∧
      (adapterArrives s).pth.adapter = s.pth.adapter ∧ (adapterArrives s).pth.packA = s.pth.packA ∧
      (adapterArrives s).pth.preference = s.pth.preference ∧ (adapterArrives s).chc.order = s.chc.order ∧
      (adapterArrives s).chc.threshold = s.chc.threshold ∧ (adapterArrives s).chc.openRow = s.chc.openRow ∧
      (adapterArrives s).chc.latches = s.chc.latches ∧ (adapterArrives s).chc.table = s.chc.table ∧
      (adapterArrives s).plc.devices = s.plc.devices ∧ (adapterArrives s).plc.pass = s.plc.pass ∧
      (adapterArrives s).plc.caught = s.plc.caught ∧ (adapterArrives s).plc.result = s.plc.result ∧
      (adapterArrives s).kbs.settings = s.kbs.settings ∧ (adapterArrives s).thc.holds = s.thc.holds ∧
      (adapterArrives s).thc.inputs = s.thc.inputs ∧ (adapterArrives s).thc.floor = s.thc.floor ∧
      (adapterArrives s).thc.trip = s.thc.trip ∧ (adapterArrives s).thc.curves = s.thc.curves ∧
      (adapterArrives s).swc.presses = s.swc.presses ∧ (adapterArrives s).swc.settings = s.swc.settings ∧
      (adapterArrives s).swc.wakeTimer = s.swc.wakeTimer ∧ (adapterArrives s).evr.routes = s.evr.routes ∧
      (adapterArrives s).hlk.queue = s.hlk.queue ∧ (adapterArrives s).hlk.resetPending = s.hlk.resetPending ∧
      (adapterArrives s).hlk.rx = s.hlk.rx ∧ (adapterArrives s).hlk.series = s.hlk.series ∧
      (adapterArrives s).hlk.held = s.hlk.held := by
  simp only [adapterArrives]
  repeat' split
  all_goals simp

@[simp] theorem loseAdapter_frame (c : AdapterLoss) (s : State) :
    (loseAdapter c s).time = s.time ∧ (loseAdapter c s).hsi = s.hsi ∧ (loseAdapter c s).psm = s.psm ∧
      (loseAdapter c s).sts = s.sts ∧ (loseAdapter c s).pending = s.pending ∧
      (loseAdapter c s).pth.packA = s.pth.packA ∧ (loseAdapter c s).pth.preference = s.pth.preference ∧
      (loseAdapter c s).chc.order = s.chc.order ∧ (loseAdapter c s).chc.threshold = s.chc.threshold ∧
      (loseAdapter c s).chc.openRow = s.chc.openRow ∧ (loseAdapter c s).chc.latches = s.chc.latches ∧
      (loseAdapter c s).chc.table = s.chc.table ∧ (loseAdapter c s).plc.devices = s.plc.devices ∧
      (loseAdapter c s).plc.pass = s.plc.pass ∧ (loseAdapter c s).kbs.settings = s.kbs.settings ∧
      (loseAdapter c s).thc.holds = s.thc.holds ∧ (loseAdapter c s).thc.inputs = s.thc.inputs ∧
      (loseAdapter c s).thc.floor = s.thc.floor ∧ (loseAdapter c s).thc.trip = s.thc.trip ∧
      (loseAdapter c s).thc.curves = s.thc.curves ∧ (loseAdapter c s).swc.presses = s.swc.presses ∧
      (loseAdapter c s).swc.settings = s.swc.settings ∧ (loseAdapter c s).swc.wakeTimer = s.swc.wakeTimer ∧
      (loseAdapter c s).fsu.table = s.fsu.table ∧ (loseAdapter c s).evr.routes = s.evr.routes ∧
      (loseAdapter c s).hlk.queue = s.hlk.queue ∧ (loseAdapter c s).hlk.resetPending = s.hlk.resetPending ∧
      (loseAdapter c s).hlk.rx = s.hlk.rx ∧ (loseAdapter c s).hlk.series = s.hlk.series ∧
      (loseAdapter c s).hlk.held = s.hlk.held := by
  simp only [loseAdapter]
  repeat' split
  all_goals simp

@[simp] theorem takeCapture_frame (src : CaptureSource) (s : State) :
    (takeCapture src s).time = s.time ∧ (takeCapture src s).pth = s.pth ∧ (takeCapture src s).chc = s.chc ∧
      (takeCapture src s).bga = s.bga ∧ (takeCapture src s).plc = s.plc ∧ (takeCapture src s).psm = s.psm ∧
      (takeCapture src s).kbs = s.kbs ∧ (takeCapture src s).thc = s.thc ∧ (takeCapture src s).swc = s.swc ∧
      (takeCapture src s).fsu = s.fsu ∧ (takeCapture src s).sts = s.sts ∧
      (takeCapture src s).pending = s.pending ∧ (takeCapture src s).hsi.monitors = s.hsi.monitors ∧
      (takeCapture src s).hsi.validity = s.hsi.validity ∧ (takeCapture src s).hsi.raw = s.hsi.raw ∧
      (takeCapture src s).hsi.reported = s.hsi.reported ∧ (takeCapture src s).hsi.rejected = s.hsi.rejected ∧
      (takeCapture src s).hsi.hysteresis = s.hsi.hysteresis ∧ (takeCapture src s).hsi.nominal = s.hsi.nominal ∧
      (takeCapture src s).hsi.closedRef = s.hsi.closedRef ∧ (takeCapture src s).evr.routes = s.evr.routes ∧
      (takeCapture src s).hlk.queue = s.hlk.queue ∧ (takeCapture src s).hlk.resetPending = s.hlk.resetPending ∧
      (takeCapture src s).hlk.rx = s.hlk.rx ∧ (takeCapture src s).hlk.series = s.hlk.series ∧
      (takeCapture src s).hlk.held = s.hlk.held := by
  simp only [takeCapture]
  repeat' split
  all_goals simp

@[simp] theorem deriveBand_frame (fresh : Bool) (s : State) :
    (deriveBand fresh s).time = s.time ∧ (deriveBand fresh s).pth = s.pth ∧ (deriveBand fresh s).chc = s.chc ∧
      (deriveBand fresh s).bga = s.bga ∧ (deriveBand fresh s).plc = s.plc ∧ (deriveBand fresh s).hsi = s.hsi ∧
      (deriveBand fresh s).kbs = s.kbs ∧ (deriveBand fresh s).thc = s.thc ∧ (deriveBand fresh s).swc = s.swc ∧
      (deriveBand fresh s).fsu = s.fsu ∧ (deriveBand fresh s).evr = s.evr ∧ (deriveBand fresh s).hlk = s.hlk ∧
      (deriveBand fresh s).sts = s.sts ∧ (deriveBand fresh s).pending = s.pending ∧
      (deriveBand fresh s).psm.lid = s.psm.lid ∧ (deriveBand fresh s).psm.tablet = s.psm.tablet ∧
      (deriveBand fresh s).psm.conflict = s.psm.conflict ∧ (deriveBand fresh s).psm.settings = s.psm.settings ∧
      (deriveBand fresh s).psm.evaluated = s.psm.evaluated := by
  simp only [deriveBand]
  repeat' split
  all_goals simp

@[simp] theorem raisePosture_frame (new : Posture) (old : Posture) (s : State) :
    (raisePosture new old s).time = s.time ∧ (raisePosture new old s).pth = s.pth ∧
      (raisePosture new old s).chc = s.chc ∧ (raisePosture new old s).bga = s.bga ∧
      (raisePosture new old s).plc = s.plc ∧ (raisePosture new old s).hsi = s.hsi ∧
      (raisePosture new old s).psm = s.psm ∧ (raisePosture new old s).kbs = s.kbs ∧
      (raisePosture new old s).thc = s.thc ∧ (raisePosture new old s).swc = s.swc ∧
      (raisePosture new old s).fsu = s.fsu ∧ (raisePosture new old s).sts = s.sts ∧
      (raisePosture new old s).pending = s.pending ∧ (raisePosture new old s).evr.routes = s.evr.routes ∧
      (raisePosture new old s).evr.button = s.evr.button ∧ (raisePosture new old s).evr.keys = s.evr.keys ∧
      (raisePosture new old s).evr.capture = s.evr.capture ∧ (raisePosture new old s).evr.fault = s.evr.fault ∧
      (raisePosture new old s).hlk.queue = s.hlk.queue ∧
      (raisePosture new old s).hlk.resetPending = s.hlk.resetPending ∧
      (raisePosture new old s).hlk.rx = s.hlk.rx ∧ (raisePosture new old s).hlk.series = s.hlk.series ∧
      (raisePosture new old s).hlk.held = s.hlk.held := by
  simp only [raisePosture]
  repeat' split
  all_goals simp

@[simp] theorem changePosture_frame (new : Posture) (s : State) :
    (changePosture new s).time = s.time ∧ (changePosture new s).pth = s.pth ∧
      (changePosture new s).chc = s.chc ∧ (changePosture new s).bga = s.bga ∧
      (changePosture new s).fsu = s.fsu ∧ (changePosture new s).sts = s.sts ∧
      (changePosture new s).pending = s.pending ∧ (changePosture new s).plc.devices = s.plc.devices ∧
      (changePosture new s).plc.pass = s.plc.pass ∧ (changePosture new s).plc.caught = s.plc.caught ∧
      (changePosture new s).plc.result = s.plc.result ∧ (changePosture new s).hsi.monitors = s.hsi.monitors ∧
      (changePosture new s).hsi.validity = s.hsi.validity ∧ (changePosture new s).hsi.raw = s.hsi.raw ∧
      (changePosture new s).hsi.reported = s.hsi.reported ∧
      (changePosture new s).hsi.rejected = s.hsi.rejected ∧
      (changePosture new s).hsi.hysteresis = s.hsi.hysteresis ∧
      (changePosture new s).hsi.nominal = s.hsi.nominal ∧
      (changePosture new s).hsi.closedRef = s.hsi.closedRef ∧ (changePosture new s).psm.lid = s.psm.lid ∧
      (changePosture new s).psm.tablet = s.psm.tablet ∧ (changePosture new s).psm.conflict = s.psm.conflict ∧
      (changePosture new s).psm.settings = s.psm.settings ∧
      (changePosture new s).psm.evaluated = s.psm.evaluated ∧
      (changePosture new s).kbs.settings = s.kbs.settings ∧ (changePosture new s).thc.holds = s.thc.holds ∧
      (changePosture new s).thc.inputs = s.thc.inputs ∧ (changePosture new s).thc.floor = s.thc.floor ∧
      (changePosture new s).thc.trip = s.thc.trip ∧ (changePosture new s).thc.curves = s.thc.curves ∧
      (changePosture new s).swc.presses = s.swc.presses ∧ (changePosture new s).swc.settings = s.swc.settings ∧
      (changePosture new s).swc.wakeTimer = s.swc.wakeTimer ∧ (changePosture new s).evr.routes = s.evr.routes ∧
      (changePosture new s).hlk.queue = s.hlk.queue ∧
      (changePosture new s).hlk.resetPending = s.hlk.resetPending ∧ (changePosture new s).hlk.rx = s.hlk.rx ∧
      (changePosture new s).hlk.series = s.hlk.series ∧ (changePosture new s).hlk.held = s.hlk.held := by
  simp only [changePosture]
  repeat' split
  all_goals simp

@[simp] theorem actOnCandidate_frame (lidAssertion : Bool) (s : State) :
    (actOnCandidate lidAssertion s).time = s.time ∧ (actOnCandidate lidAssertion s).pth = s.pth ∧
      (actOnCandidate lidAssertion s).chc = s.chc ∧ (actOnCandidate lidAssertion s).bga = s.bga ∧
      (actOnCandidate lidAssertion s).fsu = s.fsu ∧ (actOnCandidate lidAssertion s).sts = s.sts ∧
      (actOnCandidate lidAssertion s).pending = s.pending ∧
      (actOnCandidate lidAssertion s).plc.devices = s.plc.devices ∧
      (actOnCandidate lidAssertion s).plc.pass = s.plc.pass ∧
      (actOnCandidate lidAssertion s).plc.caught = s.plc.caught ∧
      (actOnCandidate lidAssertion s).plc.result = s.plc.result ∧
      (actOnCandidate lidAssertion s).hsi.monitors = s.hsi.monitors ∧
      (actOnCandidate lidAssertion s).hsi.validity = s.hsi.validity ∧
      (actOnCandidate lidAssertion s).hsi.raw = s.hsi.raw ∧
      (actOnCandidate lidAssertion s).hsi.reported = s.hsi.reported ∧
      (actOnCandidate lidAssertion s).hsi.rejected = s.hsi.rejected ∧
      (actOnCandidate lidAssertion s).hsi.hysteresis = s.hsi.hysteresis ∧
      (actOnCandidate lidAssertion s).hsi.nominal = s.hsi.nominal ∧
      (actOnCandidate lidAssertion s).hsi.closedRef = s.hsi.closedRef ∧
      (actOnCandidate lidAssertion s).psm.lid = s.psm.lid ∧
      (actOnCandidate lidAssertion s).psm.tablet = s.psm.tablet ∧
      (actOnCandidate lidAssertion s).psm.conflict = s.psm.conflict ∧
      (actOnCandidate lidAssertion s).psm.settings = s.psm.settings ∧
      (actOnCandidate lidAssertion s).psm.evaluated = s.psm.evaluated ∧
      (actOnCandidate lidAssertion s).kbs.settings = s.kbs.settings ∧
      (actOnCandidate lidAssertion s).thc.holds = s.thc.holds ∧
      (actOnCandidate lidAssertion s).thc.inputs = s.thc.inputs ∧
      (actOnCandidate lidAssertion s).thc.floor = s.thc.floor ∧
      (actOnCandidate lidAssertion s).thc.trip = s.thc.trip ∧
      (actOnCandidate lidAssertion s).thc.curves = s.thc.curves ∧
      (actOnCandidate lidAssertion s).swc.presses = s.swc.presses ∧
      (actOnCandidate lidAssertion s).swc.settings = s.swc.settings ∧
      (actOnCandidate lidAssertion s).swc.wakeTimer = s.swc.wakeTimer ∧
      (actOnCandidate lidAssertion s).evr.routes = s.evr.routes ∧
      (actOnCandidate lidAssertion s).hlk.queue = s.hlk.queue ∧
      (actOnCandidate lidAssertion s).hlk.resetPending = s.hlk.resetPending ∧
      (actOnCandidate lidAssertion s).hlk.rx = s.hlk.rx ∧
      (actOnCandidate lidAssertion s).hlk.series = s.hlk.series ∧
      (actOnCandidate lidAssertion s).hlk.held = s.hlk.held := by
  simp only [actOnCandidate]
  repeat' split
  all_goals simp

@[simp] theorem evaluatePosture_frame (lidAssertion : Bool) (s : State) :
    (evaluatePosture lidAssertion s).time = s.time ∧ (evaluatePosture lidAssertion s).pth = s.pth ∧
      (evaluatePosture lidAssertion s).chc = s.chc ∧ (evaluatePosture lidAssertion s).bga = s.bga ∧
      (evaluatePosture lidAssertion s).fsu = s.fsu ∧ (evaluatePosture lidAssertion s).sts = s.sts ∧
      (evaluatePosture lidAssertion s).pending = s.pending ∧
      (evaluatePosture lidAssertion s).plc.devices = s.plc.devices ∧
      (evaluatePosture lidAssertion s).plc.pass = s.plc.pass ∧
      (evaluatePosture lidAssertion s).plc.caught = s.plc.caught ∧
      (evaluatePosture lidAssertion s).plc.result = s.plc.result ∧
      (evaluatePosture lidAssertion s).hsi.monitors = s.hsi.monitors ∧
      (evaluatePosture lidAssertion s).hsi.validity = s.hsi.validity ∧
      (evaluatePosture lidAssertion s).hsi.raw = s.hsi.raw ∧
      (evaluatePosture lidAssertion s).hsi.reported = s.hsi.reported ∧
      (evaluatePosture lidAssertion s).hsi.rejected = s.hsi.rejected ∧
      (evaluatePosture lidAssertion s).hsi.hysteresis = s.hsi.hysteresis ∧
      (evaluatePosture lidAssertion s).hsi.nominal = s.hsi.nominal ∧
      (evaluatePosture lidAssertion s).hsi.closedRef = s.hsi.closedRef ∧
      (evaluatePosture lidAssertion s).psm.lid = s.psm.lid ∧
      (evaluatePosture lidAssertion s).psm.tablet = s.psm.tablet ∧
      (evaluatePosture lidAssertion s).psm.conflict = s.psm.conflict ∧
      (evaluatePosture lidAssertion s).psm.settings = s.psm.settings ∧
      (evaluatePosture lidAssertion s).psm.evaluated = s.psm.evaluated ∧
      (evaluatePosture lidAssertion s).kbs.settings = s.kbs.settings ∧
      (evaluatePosture lidAssertion s).thc.holds = s.thc.holds ∧
      (evaluatePosture lidAssertion s).thc.inputs = s.thc.inputs ∧
      (evaluatePosture lidAssertion s).thc.floor = s.thc.floor ∧
      (evaluatePosture lidAssertion s).thc.trip = s.thc.trip ∧
      (evaluatePosture lidAssertion s).thc.curves = s.thc.curves ∧
      (evaluatePosture lidAssertion s).swc.presses = s.swc.presses ∧
      (evaluatePosture lidAssertion s).swc.settings = s.swc.settings ∧
      (evaluatePosture lidAssertion s).swc.wakeTimer = s.swc.wakeTimer ∧
      (evaluatePosture lidAssertion s).evr.routes = s.evr.routes ∧
      (evaluatePosture lidAssertion s).hlk.queue = s.hlk.queue ∧
      (evaluatePosture lidAssertion s).hlk.resetPending = s.hlk.resetPending ∧
      (evaluatePosture lidAssertion s).hlk.rx = s.hlk.rx ∧
      (evaluatePosture lidAssertion s).hlk.series = s.hlk.series ∧
      (evaluatePosture lidAssertion s).hlk.held = s.hlk.held := by
  simp only [evaluatePosture]
  repeat' split
  all_goals simp

@[simp] theorem receiveHinge_frame (s : State) :
    (receiveHinge s).time = s.time ∧ (receiveHinge s).pth = s.pth ∧ (receiveHinge s).chc = s.chc ∧
      (receiveHinge s).bga = s.bga ∧ (receiveHinge s).plc = s.plc ∧ (receiveHinge s).hsi = s.hsi ∧
      (receiveHinge s).kbs = s.kbs ∧ (receiveHinge s).thc = s.thc ∧ (receiveHinge s).swc = s.swc ∧
      (receiveHinge s).fsu = s.fsu ∧ (receiveHinge s).evr = s.evr ∧ (receiveHinge s).hlk = s.hlk ∧
      (receiveHinge s).sts = s.sts ∧ (receiveHinge s).pending = s.pending ∧
      (receiveHinge s).psm.lid = s.psm.lid ∧ (receiveHinge s).psm.tablet = s.psm.tablet ∧
      (receiveHinge s).psm.conflict = s.psm.conflict ∧ (receiveHinge s).psm.settings = s.psm.settings ∧
      (receiveHinge s).psm.evaluated = s.psm.evaluated := by
  simp only [receiveHinge]
  repeat' split
  all_goals simp

@[simp] theorem reportHinge_frame (s : State) :
    (reportHinge s).time = s.time ∧ (reportHinge s).pth = s.pth ∧ (reportHinge s).chc = s.chc ∧
      (reportHinge s).bga = s.bga ∧ (reportHinge s).fsu = s.fsu ∧ (reportHinge s).sts = s.sts ∧
      (reportHinge s).pending = s.pending ∧ (reportHinge s).plc.devices = s.plc.devices ∧
      (reportHinge s).plc.pass = s.plc.pass ∧ (reportHinge s).plc.caught = s.plc.caught ∧
      (reportHinge s).plc.result = s.plc.result ∧ (reportHinge s).hsi.monitors = s.hsi.monitors ∧
      (reportHinge s).hsi.validity = s.hsi.validity ∧ (reportHinge s).hsi.raw = s.hsi.raw ∧
      (reportHinge s).hsi.reported = s.hsi.reported ∧ (reportHinge s).hsi.rejected = s.hsi.rejected ∧
      (reportHinge s).hsi.hysteresis = s.hsi.hysteresis ∧ (reportHinge s).hsi.nominal = s.hsi.nominal ∧
      (reportHinge s).hsi.closedRef = s.hsi.closedRef ∧ (reportHinge s).psm.lid = s.psm.lid ∧
      (reportHinge s).psm.tablet = s.psm.tablet ∧ (reportHinge s).psm.conflict = s.psm.conflict ∧
      (reportHinge s).psm.settings = s.psm.settings ∧ (reportHinge s).psm.evaluated = s.psm.evaluated ∧
      (reportHinge s).kbs.settings = s.kbs.settings ∧ (reportHinge s).thc.holds = s.thc.holds ∧
      (reportHinge s).thc.inputs = s.thc.inputs ∧ (reportHinge s).thc.floor = s.thc.floor ∧
      (reportHinge s).thc.trip = s.thc.trip ∧ (reportHinge s).thc.curves = s.thc.curves ∧
      (reportHinge s).swc.presses = s.swc.presses ∧ (reportHinge s).swc.settings = s.swc.settings ∧
      (reportHinge s).swc.wakeTimer = s.swc.wakeTimer ∧ (reportHinge s).evr.routes = s.evr.routes ∧
      (reportHinge s).hlk.queue = s.hlk.queue ∧ (reportHinge s).hlk.resetPending = s.hlk.resetPending ∧
      (reportHinge s).hlk.rx = s.hlk.rx ∧ (reportHinge s).hlk.series = s.hlk.series ∧
      (reportHinge s).hlk.held = s.hlk.held := by
  simp only [reportHinge]
  repeat' split
  all_goals simp

@[simp] theorem evaluateSource_frame (x : HingeSource) (cond : Bool) (s : State) :
    (evaluateSource x cond s).time = s.time ∧ (evaluateSource x cond s).pth = s.pth ∧
      (evaluateSource x cond s).chc = s.chc ∧ (evaluateSource x cond s).bga = s.bga ∧
      (evaluateSource x cond s).plc = s.plc ∧ (evaluateSource x cond s).psm = s.psm ∧
      (evaluateSource x cond s).kbs = s.kbs ∧ (evaluateSource x cond s).thc = s.thc ∧
      (evaluateSource x cond s).swc = s.swc ∧ (evaluateSource x cond s).fsu = s.fsu ∧
      (evaluateSource x cond s).sts = s.sts ∧ (evaluateSource x cond s).pending = s.pending ∧
      (evaluateSource x cond s).hsi.validity = s.hsi.validity ∧
      (evaluateSource x cond s).hsi.captures = s.hsi.captures ∧ (evaluateSource x cond s).hsi.raw = s.hsi.raw ∧
      (evaluateSource x cond s).hsi.reported = s.hsi.reported ∧
      (evaluateSource x cond s).hsi.rejected = s.hsi.rejected ∧
      (evaluateSource x cond s).hsi.hysteresis = s.hsi.hysteresis ∧
      (evaluateSource x cond s).hsi.nominal = s.hsi.nominal ∧ (evaluateSource x cond s).hsi.lost = s.hsi.lost ∧
      (evaluateSource x cond s).hsi.closedRef = s.hsi.closedRef ∧
      (evaluateSource x cond s).evr.routes = s.evr.routes ∧
      (evaluateSource x cond s).evr.button = s.evr.button ∧ (evaluateSource x cond s).evr.keys = s.evr.keys ∧
      (evaluateSource x cond s).evr.capture = s.evr.capture ∧
      (evaluateSource x cond s).evr.fault = s.evr.fault ∧ (evaluateSource x cond s).hlk.queue = s.hlk.queue ∧
      (evaluateSource x cond s).hlk.resetPending = s.hlk.resetPending ∧
      (evaluateSource x cond s).hlk.rx = s.hlk.rx ∧ (evaluateSource x cond s).hlk.series = s.hlk.series ∧
      (evaluateSource x cond s).hlk.held = s.hlk.held := by
  simp only [evaluateSource]
  repeat' split
  all_goals simp

@[simp] theorem deriveValidity_frame (s : State) :
    (deriveValidity s).time = s.time ∧ (deriveValidity s).pth = s.pth ∧ (deriveValidity s).chc = s.chc ∧
      (deriveValidity s).bga = s.bga ∧ (deriveValidity s).fsu = s.fsu ∧ (deriveValidity s).sts = s.sts ∧
      (deriveValidity s).pending = s.pending ∧ (deriveValidity s).plc.devices = s.plc.devices ∧
      (deriveValidity s).plc.pass = s.plc.pass ∧ (deriveValidity s).plc.caught = s.plc.caught ∧
      (deriveValidity s).plc.result = s.plc.result ∧ (deriveValidity s).hsi.monitors = s.hsi.monitors ∧
      (deriveValidity s).hsi.raw = s.hsi.raw ∧ (deriveValidity s).hsi.reported = s.hsi.reported ∧
      (deriveValidity s).hsi.rejected = s.hsi.rejected ∧ (deriveValidity s).hsi.hysteresis = s.hsi.hysteresis ∧
      (deriveValidity s).hsi.nominal = s.hsi.nominal ∧ (deriveValidity s).hsi.closedRef = s.hsi.closedRef ∧
      (deriveValidity s).psm.lid = s.psm.lid ∧ (deriveValidity s).psm.tablet = s.psm.tablet ∧
      (deriveValidity s).psm.conflict = s.psm.conflict ∧ (deriveValidity s).psm.settings = s.psm.settings ∧
      (deriveValidity s).psm.evaluated = s.psm.evaluated ∧ (deriveValidity s).kbs.settings = s.kbs.settings ∧
      (deriveValidity s).thc.holds = s.thc.holds ∧ (deriveValidity s).thc.inputs = s.thc.inputs ∧
      (deriveValidity s).thc.floor = s.thc.floor ∧ (deriveValidity s).thc.trip = s.thc.trip ∧
      (deriveValidity s).thc.curves = s.thc.curves ∧ (deriveValidity s).swc.presses = s.swc.presses ∧
      (deriveValidity s).swc.settings = s.swc.settings ∧ (deriveValidity s).swc.wakeTimer = s.swc.wakeTimer ∧
      (deriveValidity s).evr.routes = s.evr.routes ∧ (deriveValidity s).hlk.queue = s.hlk.queue ∧
      (deriveValidity s).hlk.resetPending = s.hlk.resetPending ∧ (deriveValidity s).hlk.rx = s.hlk.rx ∧
      (deriveValidity s).hlk.series = s.hlk.series ∧ (deriveValidity s).hlk.held = s.hlk.held := by
  simp only [deriveValidity]
  repeat' split
  all_goals simp

@[simp] theorem evaluateAll_frame (vl : Bool) (cl : Bool) (sp : Bool) (s : State) :
    (evaluateAll vl cl sp s).time = s.time ∧ (evaluateAll vl cl sp s).pth = s.pth ∧
      (evaluateAll vl cl sp s).chc = s.chc ∧ (evaluateAll vl cl sp s).bga = s.bga ∧
      (evaluateAll vl cl sp s).fsu = s.fsu ∧ (evaluateAll vl cl sp s).sts = s.sts ∧
      (evaluateAll vl cl sp s).pending = s.pending ∧ (evaluateAll vl cl sp s).plc.devices = s.plc.devices ∧
      (evaluateAll vl cl sp s).plc.pass = s.plc.pass ∧ (evaluateAll vl cl sp s).plc.caught = s.plc.caught ∧
      (evaluateAll vl cl sp s).plc.result = s.plc.result ∧ (evaluateAll vl cl sp s).hsi.raw = s.hsi.raw ∧
      (evaluateAll vl cl sp s).hsi.reported = s.hsi.reported ∧
      (evaluateAll vl cl sp s).hsi.rejected = s.hsi.rejected ∧
      (evaluateAll vl cl sp s).hsi.hysteresis = s.hsi.hysteresis ∧
      (evaluateAll vl cl sp s).hsi.nominal = s.hsi.nominal ∧
      (evaluateAll vl cl sp s).hsi.closedRef = s.hsi.closedRef ∧ (evaluateAll vl cl sp s).psm.lid = s.psm.lid ∧
      (evaluateAll vl cl sp s).psm.tablet = s.psm.tablet ∧
      (evaluateAll vl cl sp s).psm.conflict = s.psm.conflict ∧
      (evaluateAll vl cl sp s).psm.settings = s.psm.settings ∧
      (evaluateAll vl cl sp s).psm.evaluated = s.psm.evaluated ∧
      (evaluateAll vl cl sp s).kbs.settings = s.kbs.settings ∧
      (evaluateAll vl cl sp s).thc.holds = s.thc.holds ∧ (evaluateAll vl cl sp s).thc.inputs = s.thc.inputs ∧
      (evaluateAll vl cl sp s).thc.floor = s.thc.floor ∧ (evaluateAll vl cl sp s).thc.trip = s.thc.trip ∧
      (evaluateAll vl cl sp s).thc.curves = s.thc.curves ∧
      (evaluateAll vl cl sp s).swc.presses = s.swc.presses ∧
      (evaluateAll vl cl sp s).swc.settings = s.swc.settings ∧
      (evaluateAll vl cl sp s).swc.wakeTimer = s.swc.wakeTimer ∧
      (evaluateAll vl cl sp s).evr.routes = s.evr.routes ∧ (evaluateAll vl cl sp s).hlk.queue = s.hlk.queue ∧
      (evaluateAll vl cl sp s).hlk.resetPending = s.hlk.resetPending ∧
      (evaluateAll vl cl sp s).hlk.rx = s.hlk.rx ∧ (evaluateAll vl cl sp s).hlk.series = s.hlk.series ∧
      (evaluateAll vl cl sp s).hlk.held = s.hlk.held := by
  simp only [evaluateAll]
  repeat' split
  all_goals simp

@[simp] theorem reevaluateAll_frame (s : State) :
    (reevaluateAll s).time = s.time ∧ (reevaluateAll s).pth = s.pth ∧ (reevaluateAll s).chc = s.chc ∧
      (reevaluateAll s).bga = s.bga ∧ (reevaluateAll s).fsu = s.fsu ∧ (reevaluateAll s).sts = s.sts ∧
      (reevaluateAll s).pending = s.pending ∧ (reevaluateAll s).plc.devices = s.plc.devices ∧
      (reevaluateAll s).plc.pass = s.plc.pass ∧ (reevaluateAll s).plc.caught = s.plc.caught ∧
      (reevaluateAll s).plc.result = s.plc.result ∧ (reevaluateAll s).hsi.raw = s.hsi.raw ∧
      (reevaluateAll s).hsi.reported = s.hsi.reported ∧ (reevaluateAll s).hsi.rejected = s.hsi.rejected ∧
      (reevaluateAll s).hsi.hysteresis = s.hsi.hysteresis ∧ (reevaluateAll s).hsi.nominal = s.hsi.nominal ∧
      (reevaluateAll s).hsi.closedRef = s.hsi.closedRef ∧ (reevaluateAll s).psm.lid = s.psm.lid ∧
      (reevaluateAll s).psm.tablet = s.psm.tablet ∧ (reevaluateAll s).psm.conflict = s.psm.conflict ∧
      (reevaluateAll s).psm.settings = s.psm.settings ∧ (reevaluateAll s).psm.evaluated = s.psm.evaluated ∧
      (reevaluateAll s).kbs.settings = s.kbs.settings ∧ (reevaluateAll s).thc.holds = s.thc.holds ∧
      (reevaluateAll s).thc.inputs = s.thc.inputs ∧ (reevaluateAll s).thc.floor = s.thc.floor ∧
      (reevaluateAll s).thc.trip = s.thc.trip ∧ (reevaluateAll s).thc.curves = s.thc.curves ∧
      (reevaluateAll s).swc.presses = s.swc.presses ∧ (reevaluateAll s).swc.settings = s.swc.settings ∧
      (reevaluateAll s).swc.wakeTimer = s.swc.wakeTimer ∧ (reevaluateAll s).evr.routes = s.evr.routes ∧
      (reevaluateAll s).hlk.queue = s.hlk.queue ∧ (reevaluateAll s).hlk.resetPending = s.hlk.resetPending ∧
      (reevaluateAll s).hlk.rx = s.hlk.rx ∧ (reevaluateAll s).hlk.series = s.hlk.series ∧
      (reevaluateAll s).hlk.held = s.hlk.held := by
  simp only [reevaluateAll]
  repeat' split
  all_goals simp

@[simp] theorem takeSample_frame (sin : Int) (cos : Int) (s : State) :
    (takeSample sin cos s).time = s.time ∧ (takeSample sin cos s).pth = s.pth ∧
      (takeSample sin cos s).chc = s.chc ∧ (takeSample sin cos s).bga = s.bga ∧
      (takeSample sin cos s).fsu = s.fsu ∧ (takeSample sin cos s).sts = s.sts ∧
      (takeSample sin cos s).pending = s.pending ∧ (takeSample sin cos s).plc.devices = s.plc.devices ∧
      (takeSample sin cos s).plc.pass = s.plc.pass ∧ (takeSample sin cos s).plc.caught = s.plc.caught ∧
      (takeSample sin cos s).plc.result = s.plc.result ∧
      (takeSample sin cos s).hsi.hysteresis = s.hsi.hysteresis ∧
      (takeSample sin cos s).hsi.nominal = s.hsi.nominal ∧
      (takeSample sin cos s).hsi.closedRef = s.hsi.closedRef ∧ (takeSample sin cos s).psm.lid = s.psm.lid ∧
      (takeSample sin cos s).psm.tablet = s.psm.tablet ∧ (takeSample sin cos s).psm.conflict = s.psm.conflict ∧
      (takeSample sin cos s).psm.settings = s.psm.settings ∧
      (takeSample sin cos s).psm.evaluated = s.psm.evaluated ∧
      (takeSample sin cos s).kbs.settings = s.kbs.settings ∧ (takeSample sin cos s).thc.holds = s.thc.holds ∧
      (takeSample sin cos s).thc.inputs = s.thc.inputs ∧ (takeSample sin cos s).thc.floor = s.thc.floor ∧
      (takeSample sin cos s).thc.trip = s.thc.trip ∧ (takeSample sin cos s).thc.curves = s.thc.curves ∧
      (takeSample sin cos s).swc.presses = s.swc.presses ∧
      (takeSample sin cos s).swc.settings = s.swc.settings ∧
      (takeSample sin cos s).swc.wakeTimer = s.swc.wakeTimer ∧
      (takeSample sin cos s).evr.routes = s.evr.routes ∧ (takeSample sin cos s).hlk.queue = s.hlk.queue ∧
      (takeSample sin cos s).hlk.resetPending = s.hlk.resetPending ∧ (takeSample sin cos s).hlk.rx = s.hlk.rx ∧
      (takeSample sin cos s).hlk.series = s.hlk.series ∧ (takeSample sin cos s).hlk.held = s.hlk.held := by
  simp only [takeSample]
  repeat' split
  all_goals simp

@[simp] theorem storeReference_frame (s : State) :
    (storeReference s).time = s.time ∧ (storeReference s).pth = s.pth ∧ (storeReference s).chc = s.chc ∧
      (storeReference s).bga = s.bga ∧ (storeReference s).plc = s.plc ∧ (storeReference s).kbs = s.kbs ∧
      (storeReference s).thc = s.thc ∧ (storeReference s).swc = s.swc ∧ (storeReference s).fsu = s.fsu ∧
      (storeReference s).evr = s.evr ∧ (storeReference s).hlk = s.hlk ∧ (storeReference s).sts = s.sts ∧
      (storeReference s).pending = s.pending ∧ (storeReference s).hsi.monitors = s.hsi.monitors ∧
      (storeReference s).hsi.captures = s.hsi.captures ∧ (storeReference s).hsi.raw = s.hsi.raw ∧
      (storeReference s).hsi.rejected = s.hsi.rejected ∧ (storeReference s).hsi.hysteresis = s.hsi.hysteresis ∧
      (storeReference s).hsi.nominal = s.hsi.nominal ∧ (storeReference s).hsi.lost = s.hsi.lost ∧
      (storeReference s).psm.lid = s.psm.lid ∧ (storeReference s).psm.tablet = s.psm.tablet ∧
      (storeReference s).psm.conflict = s.psm.conflict ∧ (storeReference s).psm.settings = s.psm.settings ∧
      (storeReference s).psm.evaluated = s.psm.evaluated := by
  simp only [storeReference]
  repeat' split
  all_goals simp

@[simp] theorem loadCalibration_frame (s : State) :
    (loadCalibration s).time = s.time ∧ (loadCalibration s).pth = s.pth ∧ (loadCalibration s).chc = s.chc ∧
      (loadCalibration s).bga = s.bga ∧ (loadCalibration s).plc = s.plc ∧ (loadCalibration s).psm = s.psm ∧
      (loadCalibration s).kbs = s.kbs ∧ (loadCalibration s).thc = s.thc ∧ (loadCalibration s).swc = s.swc ∧
      (loadCalibration s).fsu = s.fsu ∧ (loadCalibration s).sts = s.sts ∧
      (loadCalibration s).pending = s.pending ∧ (loadCalibration s).hsi.captures = s.hsi.captures ∧
      (loadCalibration s).hsi.raw = s.hsi.raw ∧ (loadCalibration s).hsi.reported = s.hsi.reported ∧
      (loadCalibration s).hsi.rejected = s.hsi.rejected ∧ (loadCalibration s).hsi.lost = s.hsi.lost ∧
      (loadCalibration s).evr.routes = s.evr.routes ∧ (loadCalibration s).evr.button = s.evr.button ∧
      (loadCalibration s).evr.keys = s.evr.keys ∧ (loadCalibration s).evr.capture = s.evr.capture ∧
      (loadCalibration s).evr.fault = s.evr.fault ∧ (loadCalibration s).hlk.queue = s.hlk.queue ∧
      (loadCalibration s).hlk.resetPending = s.hlk.resetPending ∧ (loadCalibration s).hlk.rx = s.hlk.rx ∧
      (loadCalibration s).hlk.series = s.hlk.series ∧ (loadCalibration s).hlk.held = s.hlk.held := by
  simp only [loadCalibration]
  repeat' split
  all_goals simp

@[simp] theorem quiesceHinge_frame (s : State) :
    (quiesceHinge s).time = s.time ∧ (quiesceHinge s).pth = s.pth ∧ (quiesceHinge s).bga = s.bga ∧
      (quiesceHinge s).sts = s.sts ∧ (quiesceHinge s).pending = s.pending ∧
      (quiesceHinge s).chc.order = s.chc.order ∧ (quiesceHinge s).chc.threshold = s.chc.threshold ∧
      (quiesceHinge s).chc.openRow = s.chc.openRow ∧ (quiesceHinge s).chc.latches = s.chc.latches ∧
      (quiesceHinge s).chc.table = s.chc.table ∧ (quiesceHinge s).plc.devices = s.plc.devices ∧
      (quiesceHinge s).plc.pass = s.plc.pass ∧ (quiesceHinge s).hsi.monitors = s.hsi.monitors ∧
      (quiesceHinge s).hsi.validity = s.hsi.validity ∧ (quiesceHinge s).hsi.raw = s.hsi.raw ∧
      (quiesceHinge s).hsi.reported = s.hsi.reported ∧ (quiesceHinge s).hsi.rejected = s.hsi.rejected ∧
      (quiesceHinge s).hsi.hysteresis = s.hsi.hysteresis ∧ (quiesceHinge s).hsi.nominal = s.hsi.nominal ∧
      (quiesceHinge s).hsi.closedRef = s.hsi.closedRef ∧ (quiesceHinge s).psm.lid = s.psm.lid ∧
      (quiesceHinge s).psm.tablet = s.psm.tablet ∧ (quiesceHinge s).psm.conflict = s.psm.conflict ∧
      (quiesceHinge s).psm.settings = s.psm.settings ∧ (quiesceHinge s).psm.evaluated = s.psm.evaluated ∧
      (quiesceHinge s).kbs.settings = s.kbs.settings ∧ (quiesceHinge s).thc.holds = s.thc.holds ∧
      (quiesceHinge s).thc.inputs = s.thc.inputs ∧ (quiesceHinge s).thc.floor = s.thc.floor ∧
      (quiesceHinge s).thc.trip = s.thc.trip ∧ (quiesceHinge s).thc.curves = s.thc.curves ∧
      (quiesceHinge s).swc.presses = s.swc.presses ∧ (quiesceHinge s).swc.settings = s.swc.settings ∧
      (quiesceHinge s).swc.wakeTimer = s.swc.wakeTimer ∧ (quiesceHinge s).fsu.table = s.fsu.table ∧
      (quiesceHinge s).evr.routes = s.evr.routes ∧ (quiesceHinge s).hlk.queue = s.hlk.queue ∧
      (quiesceHinge s).hlk.resetPending = s.hlk.resetPending ∧ (quiesceHinge s).hlk.rx = s.hlk.rx ∧
      (quiesceHinge s).hlk.series = s.hlk.series ∧ (quiesceHinge s).hlk.held = s.hlk.held := by
  simp only [quiesceHinge]
  repeat' split
  all_goals simp

@[simp] theorem returnHinge_frame (fromOff : Bool) (s : State) :
    (returnHinge fromOff s).time = s.time ∧ (returnHinge fromOff s).pth = s.pth ∧
      (returnHinge fromOff s).chc = s.chc ∧ (returnHinge fromOff s).bga = s.bga ∧
      (returnHinge fromOff s).fsu = s.fsu ∧ (returnHinge fromOff s).sts = s.sts ∧
      (returnHinge fromOff s).pending = s.pending ∧ (returnHinge fromOff s).plc.devices = s.plc.devices ∧
      (returnHinge fromOff s).plc.pass = s.plc.pass ∧ (returnHinge fromOff s).plc.caught = s.plc.caught ∧
      (returnHinge fromOff s).plc.result = s.plc.result ∧ (returnHinge fromOff s).hsi.raw = s.hsi.raw ∧
      (returnHinge fromOff s).hsi.reported = s.hsi.reported ∧
      (returnHinge fromOff s).hsi.rejected = s.hsi.rejected ∧ (returnHinge fromOff s).psm.lid = s.psm.lid ∧
      (returnHinge fromOff s).psm.tablet = s.psm.tablet ∧
      (returnHinge fromOff s).psm.conflict = s.psm.conflict ∧
      (returnHinge fromOff s).psm.settings = s.psm.settings ∧
      (returnHinge fromOff s).psm.evaluated = s.psm.evaluated ∧
      (returnHinge fromOff s).kbs.settings = s.kbs.settings ∧ (returnHinge fromOff s).thc.holds = s.thc.holds ∧
      (returnHinge fromOff s).thc.inputs = s.thc.inputs ∧ (returnHinge fromOff s).thc.floor = s.thc.floor ∧
      (returnHinge fromOff s).thc.trip = s.thc.trip ∧ (returnHinge fromOff s).thc.curves = s.thc.curves ∧
      (returnHinge fromOff s).swc.presses = s.swc.presses ∧
      (returnHinge fromOff s).swc.settings = s.swc.settings ∧
      (returnHinge fromOff s).swc.wakeTimer = s.swc.wakeTimer ∧
      (returnHinge fromOff s).evr.routes = s.evr.routes ∧ (returnHinge fromOff s).hlk.queue = s.hlk.queue ∧
      (returnHinge fromOff s).hlk.resetPending = s.hlk.resetPending ∧
      (returnHinge fromOff s).hlk.rx = s.hlk.rx ∧ (returnHinge fromOff s).hlk.series = s.hlk.series ∧
      (returnHinge fromOff s).hlk.held = s.hlk.held := by
  simp only [returnHinge]
  repeat' split
  all_goals simp

@[simp] theorem deriveConflict_frame (s : State) :
    (deriveConflict s).time = s.time ∧ (deriveConflict s).pth = s.pth ∧ (deriveConflict s).chc = s.chc ∧
      (deriveConflict s).bga = s.bga ∧ (deriveConflict s).plc = s.plc ∧ (deriveConflict s).hsi = s.hsi ∧
      (deriveConflict s).kbs = s.kbs ∧ (deriveConflict s).thc = s.thc ∧ (deriveConflict s).swc = s.swc ∧
      (deriveConflict s).fsu = s.fsu ∧ (deriveConflict s).sts = s.sts ∧ (deriveConflict s).pending = s.pending ∧
      (deriveConflict s).psm.lid = s.psm.lid ∧ (deriveConflict s).psm.tablet = s.psm.tablet ∧
      (deriveConflict s).psm.settings = s.psm.settings ∧ (deriveConflict s).psm.evaluated = s.psm.evaluated ∧
      (deriveConflict s).evr.routes = s.evr.routes ∧ (deriveConflict s).evr.button = s.evr.button ∧
      (deriveConflict s).evr.keys = s.evr.keys ∧ (deriveConflict s).evr.capture = s.evr.capture ∧
      (deriveConflict s).evr.fault = s.evr.fault ∧ (deriveConflict s).hlk.queue = s.hlk.queue ∧
      (deriveConflict s).hlk.resetPending = s.hlk.resetPending ∧ (deriveConflict s).hlk.rx = s.hlk.rx ∧
      (deriveConflict s).hlk.series = s.hlk.series ∧ (deriveConflict s).hlk.held = s.hlk.held := by
  simp only [deriveConflict]
  repeat' split
  all_goals simp

@[simp] theorem edgeToHinge_frame (x : HingeSwitch) (asserted : Bool) (s : State) :
    (edgeToHinge x asserted s).time = s.time ∧ (edgeToHinge x asserted s).pth = s.pth ∧
      (edgeToHinge x asserted s).chc = s.chc ∧ (edgeToHinge x asserted s).bga = s.bga ∧
      (edgeToHinge x asserted s).plc = s.plc ∧ (edgeToHinge x asserted s).kbs = s.kbs ∧
      (edgeToHinge x asserted s).thc = s.thc ∧ (edgeToHinge x asserted s).swc = s.swc ∧
      (edgeToHinge x asserted s).fsu = s.fsu ∧ (edgeToHinge x asserted s).sts = s.sts ∧
      (edgeToHinge x asserted s).pending = s.pending ∧
      (edgeToHinge x asserted s).hsi.monitors = s.hsi.monitors ∧
      (edgeToHinge x asserted s).hsi.raw = s.hsi.raw ∧
      (edgeToHinge x asserted s).hsi.rejected = s.hsi.rejected ∧
      (edgeToHinge x asserted s).hsi.hysteresis = s.hsi.hysteresis ∧
      (edgeToHinge x asserted s).hsi.nominal = s.hsi.nominal ∧ (edgeToHinge x asserted s).psm.lid = s.psm.lid ∧
      (edgeToHinge x asserted s).psm.tablet = s.psm.tablet ∧
      (edgeToHinge x asserted s).psm.conflict = s.psm.conflict ∧
      (edgeToHinge x asserted s).psm.settings = s.psm.settings ∧
      (edgeToHinge x asserted s).psm.evaluated = s.psm.evaluated ∧
      (edgeToHinge x asserted s).evr.routes = s.evr.routes ∧
      (edgeToHinge x asserted s).hlk.queue = s.hlk.queue ∧
      (edgeToHinge x asserted s).hlk.resetPending = s.hlk.resetPending ∧
      (edgeToHinge x asserted s).hlk.rx = s.hlk.rx ∧ (edgeToHinge x asserted s).hlk.series = s.hlk.series ∧
      (edgeToHinge x asserted s).hlk.held = s.hlk.held := by
  simp only [edgeToHinge]
  repeat' split
  all_goals simp

@[simp] theorem debouncedEdge_frame (x : HingeSwitch) (s : State) :
    (debouncedEdge x s).time = s.time ∧ (debouncedEdge x s).pth = s.pth ∧ (debouncedEdge x s).chc = s.chc ∧
      (debouncedEdge x s).bga = s.bga ∧ (debouncedEdge x s).fsu = s.fsu ∧ (debouncedEdge x s).sts = s.sts ∧
      (debouncedEdge x s).pending = s.pending ∧ (debouncedEdge x s).plc.devices = s.plc.devices ∧
      (debouncedEdge x s).plc.pass = s.plc.pass ∧ (debouncedEdge x s).plc.caught = s.plc.caught ∧
      (debouncedEdge x s).plc.result = s.plc.result ∧ (debouncedEdge x s).hsi.monitors = s.hsi.monitors ∧
      (debouncedEdge x s).hsi.raw = s.hsi.raw ∧ (debouncedEdge x s).hsi.rejected = s.hsi.rejected ∧
      (debouncedEdge x s).hsi.hysteresis = s.hsi.hysteresis ∧ (debouncedEdge x s).hsi.nominal = s.hsi.nominal ∧
      (debouncedEdge x s).psm.settings = s.psm.settings ∧ (debouncedEdge x s).psm.evaluated = s.psm.evaluated ∧
      (debouncedEdge x s).kbs.settings = s.kbs.settings ∧ (debouncedEdge x s).thc.holds = s.thc.holds ∧
      (debouncedEdge x s).thc.inputs = s.thc.inputs ∧ (debouncedEdge x s).thc.floor = s.thc.floor ∧
      (debouncedEdge x s).thc.trip = s.thc.trip ∧ (debouncedEdge x s).thc.curves = s.thc.curves ∧
      (debouncedEdge x s).swc.presses = s.swc.presses ∧ (debouncedEdge x s).swc.settings = s.swc.settings ∧
      (debouncedEdge x s).swc.wakeTimer = s.swc.wakeTimer ∧ (debouncedEdge x s).evr.routes = s.evr.routes ∧
      (debouncedEdge x s).hlk.queue = s.hlk.queue ∧ (debouncedEdge x s).hlk.resetPending = s.hlk.resetPending ∧
      (debouncedEdge x s).hlk.rx = s.hlk.rx ∧ (debouncedEdge x s).hlk.series = s.hlk.series ∧
      (debouncedEdge x s).hlk.held = s.hlk.held := by
  simp only [debouncedEdge]
  repeat' split
  all_goals simp

@[simp] theorem handDerate_frame (before : Derate) (s : State) :
    (handDerate before s).time = s.time ∧ (handDerate before s).pth = s.pth ∧
      (handDerate before s).bga = s.bga ∧ (handDerate before s).hsi = s.hsi ∧
      (handDerate before s).psm = s.psm ∧ (handDerate before s).kbs = s.kbs ∧
      (handDerate before s).thc = s.thc ∧ (handDerate before s).swc = s.swc ∧
      (handDerate before s).fsu = s.fsu ∧ (handDerate before s).sts = s.sts ∧
      (handDerate before s).pending = s.pending ∧ (handDerate before s).chc.order = s.chc.order ∧
      (handDerate before s).chc.threshold = s.chc.threshold ∧
      (handDerate before s).chc.openRow = s.chc.openRow ∧ (handDerate before s).chc.latches = s.chc.latches ∧
      (handDerate before s).chc.table = s.chc.table ∧ (handDerate before s).plc.devices = s.plc.devices ∧
      (handDerate before s).plc.pass = s.plc.pass ∧ (handDerate before s).plc.caught = s.plc.caught ∧
      (handDerate before s).plc.result = s.plc.result ∧ (handDerate before s).evr.routes = s.evr.routes ∧
      (handDerate before s).evr.button = s.evr.button ∧ (handDerate before s).evr.keys = s.evr.keys ∧
      (handDerate before s).evr.capture = s.evr.capture ∧ (handDerate before s).evr.fault = s.evr.fault ∧
      (handDerate before s).hlk.queue = s.hlk.queue ∧
      (handDerate before s).hlk.resetPending = s.hlk.resetPending ∧ (handDerate before s).hlk.rx = s.hlk.rx ∧
      (handDerate before s).hlk.series = s.hlk.series ∧ (handDerate before s).hlk.held = s.hlk.held := by
  simp only [handDerate]
  repeat' split
  all_goals simp

@[simp] theorem tripCheck_frame (i : ThermalInput) (s : State) :
    (tripCheck i s).time = s.time ∧ (tripCheck i s).pth = s.pth ∧ (tripCheck i s).bga = s.bga ∧
      (tripCheck i s).hsi = s.hsi ∧ (tripCheck i s).psm = s.psm ∧ (tripCheck i s).sts = s.sts ∧
      (tripCheck i s).pending = s.pending ∧ (tripCheck i s).chc.order = s.chc.order ∧
      (tripCheck i s).chc.threshold = s.chc.threshold ∧ (tripCheck i s).chc.openRow = s.chc.openRow ∧
      (tripCheck i s).chc.latches = s.chc.latches ∧ (tripCheck i s).chc.table = s.chc.table ∧
      (tripCheck i s).plc.devices = s.plc.devices ∧ (tripCheck i s).plc.pass = s.plc.pass ∧
      (tripCheck i s).kbs.settings = s.kbs.settings ∧ (tripCheck i s).thc.holds = s.thc.holds ∧
      (tripCheck i s).thc.floor = s.thc.floor ∧ (tripCheck i s).thc.trip = s.thc.trip ∧
      (tripCheck i s).thc.curves = s.thc.curves ∧ (tripCheck i s).swc.presses = s.swc.presses ∧
      (tripCheck i s).swc.settings = s.swc.settings ∧ (tripCheck i s).swc.wakeTimer = s.swc.wakeTimer ∧
      (tripCheck i s).evr.routes = s.evr.routes ∧ (tripCheck i s).hlk.queue = s.hlk.queue ∧
      (tripCheck i s).hlk.resetPending = s.hlk.resetPending ∧ (tripCheck i s).hlk.rx = s.hlk.rx ∧
      (tripCheck i s).hlk.series = s.hlk.series ∧ (tripCheck i s).hlk.held = s.hlk.held := by
  simp only [tripCheck]
  repeat' split
  all_goals simp

@[simp] theorem derateAtReading_frame (wasValid : Bool) (s : State) :
    (derateAtReading wasValid s).time = s.time ∧ (derateAtReading wasValid s).pth = s.pth ∧
      (derateAtReading wasValid s).chc = s.chc ∧ (derateAtReading wasValid s).bga = s.bga ∧
      (derateAtReading wasValid s).plc = s.plc ∧ (derateAtReading wasValid s).hsi = s.hsi ∧
      (derateAtReading wasValid s).psm = s.psm ∧ (derateAtReading wasValid s).kbs = s.kbs ∧
      (derateAtReading wasValid s).swc = s.swc ∧ (derateAtReading wasValid s).fsu = s.fsu ∧
      (derateAtReading wasValid s).evr = s.evr ∧ (derateAtReading wasValid s).hlk = s.hlk ∧
      (derateAtReading wasValid s).sts = s.sts ∧ (derateAtReading wasValid s).pending = s.pending ∧
      (derateAtReading wasValid s).thc.holds = s.thc.holds ∧
      (derateAtReading wasValid s).thc.inputs = s.thc.inputs ∧
      (derateAtReading wasValid s).thc.floor = s.thc.floor ∧
      (derateAtReading wasValid s).thc.trip = s.thc.trip ∧
      (derateAtReading wasValid s).thc.curves = s.thc.curves := by
  simp only [derateAtReading]
  repeat' split
  all_goals simp

@[simp] theorem takeReading_frame (i : ThermalInput) (v : Int) (s : State) :
    (takeReading i v s).time = s.time ∧ (takeReading i v s).pth = s.pth ∧ (takeReading i v s).bga = s.bga ∧
      (takeReading i v s).hsi = s.hsi ∧ (takeReading i v s).psm = s.psm ∧ (takeReading i v s).sts = s.sts ∧
      (takeReading i v s).pending = s.pending ∧ (takeReading i v s).chc.order = s.chc.order ∧
      (takeReading i v s).chc.threshold = s.chc.threshold ∧ (takeReading i v s).chc.openRow = s.chc.openRow ∧
      (takeReading i v s).chc.latches = s.chc.latches ∧ (takeReading i v s).chc.table = s.chc.table ∧
      (takeReading i v s).plc.devices = s.plc.devices ∧ (takeReading i v s).plc.pass = s.plc.pass ∧
      (takeReading i v s).kbs.settings = s.kbs.settings ∧ (takeReading i v s).thc.holds = s.thc.holds ∧
      (takeReading i v s).thc.floor = s.thc.floor ∧ (takeReading i v s).thc.trip = s.thc.trip ∧
      (takeReading i v s).thc.curves = s.thc.curves ∧ (takeReading i v s).swc.presses = s.swc.presses ∧
      (takeReading i v s).swc.settings = s.swc.settings ∧ (takeReading i v s).swc.wakeTimer = s.swc.wakeTimer ∧
      (takeReading i v s).evr.routes = s.evr.routes ∧ (takeReading i v s).hlk.queue = s.hlk.queue ∧
      (takeReading i v s).hlk.resetPending = s.hlk.resetPending ∧ (takeReading i v s).hlk.rx = s.hlk.rx ∧
      (takeReading i v s).hlk.series = s.hlk.series ∧ (takeReading i v s).hlk.held = s.hlk.held := by
  simp only [takeReading]
  repeat' split
  all_goals simp

@[simp] theorem dropInput_frame (i : ThermalInput) (s : State) :
    (dropInput i s).time = s.time ∧ (dropInput i s).pth = s.pth ∧ (dropInput i s).bga = s.bga ∧
      (dropInput i s).hsi = s.hsi ∧ (dropInput i s).psm = s.psm ∧ (dropInput i s).kbs = s.kbs ∧
      (dropInput i s).swc = s.swc ∧ (dropInput i s).fsu = s.fsu ∧ (dropInput i s).sts = s.sts ∧
      (dropInput i s).pending = s.pending ∧ (dropInput i s).chc.order = s.chc.order ∧
      (dropInput i s).chc.threshold = s.chc.threshold ∧ (dropInput i s).chc.openRow = s.chc.openRow ∧
      (dropInput i s).chc.latches = s.chc.latches ∧ (dropInput i s).chc.table = s.chc.table ∧
      (dropInput i s).plc.devices = s.plc.devices ∧ (dropInput i s).plc.pass = s.plc.pass ∧
      (dropInput i s).plc.caught = s.plc.caught ∧ (dropInput i s).plc.result = s.plc.result ∧
      (dropInput i s).thc.holds = s.thc.holds ∧ (dropInput i s).thc.floor = s.thc.floor ∧
      (dropInput i s).thc.trip = s.thc.trip ∧ (dropInput i s).thc.curves = s.thc.curves ∧
      (dropInput i s).evr.routes = s.evr.routes ∧ (dropInput i s).evr.button = s.evr.button ∧
      (dropInput i s).evr.keys = s.evr.keys ∧ (dropInput i s).evr.capture = s.evr.capture ∧
      (dropInput i s).evr.fault = s.evr.fault ∧ (dropInput i s).hlk.queue = s.hlk.queue ∧
      (dropInput i s).hlk.resetPending = s.hlk.resetPending ∧ (dropInput i s).hlk.rx = s.hlk.rx ∧
      (dropInput i s).hlk.series = s.hlk.series ∧ (dropInput i s).hlk.held = s.hlk.held := by
  simp only [dropInput]
  repeat' split
  all_goals simp

@[simp] theorem cutWrite_frame (s : State) :
    (cutWrite s).time = s.time ∧ (cutWrite s).pth = s.pth ∧ (cutWrite s).bga = s.bga ∧
      (cutWrite s).hsi = s.hsi ∧ (cutWrite s).psm = s.psm ∧ (cutWrite s).kbs = s.kbs ∧
      (cutWrite s).thc = s.thc ∧ (cutWrite s).swc = s.swc ∧ (cutWrite s).sts = s.sts ∧
      (cutWrite s).pending = s.pending ∧ (cutWrite s).chc.order = s.chc.order ∧
      (cutWrite s).chc.threshold = s.chc.threshold ∧ (cutWrite s).chc.openRow = s.chc.openRow ∧
      (cutWrite s).chc.latches = s.chc.latches ∧ (cutWrite s).chc.table = s.chc.table ∧
      (cutWrite s).plc.devices = s.plc.devices ∧ (cutWrite s).plc.pass = s.plc.pass ∧
      (cutWrite s).plc.asked = s.plc.asked ∧ (cutWrite s).fsu.table = s.fsu.table ∧
      (cutWrite s).evr.routes = s.evr.routes ∧ (cutWrite s).evr.button = s.evr.button ∧
      (cutWrite s).evr.keys = s.evr.keys ∧ (cutWrite s).evr.capture = s.evr.capture ∧
      (cutWrite s).evr.fault = s.evr.fault ∧ (cutWrite s).hlk.queue = s.hlk.queue ∧
      (cutWrite s).hlk.resetPending = s.hlk.resetPending ∧ (cutWrite s).hlk.rx = s.hlk.rx ∧
      (cutWrite s).hlk.series = s.hlk.series ∧ (cutWrite s).hlk.held = s.hlk.held := by
  simp only [cutWrite]
  repeat' split
  all_goals simp

@[simp] theorem finishLink_frame (s : State) :
    (finishLink s).time = s.time ∧ (finishLink s).pth = s.pth ∧ (finishLink s).bga = s.bga ∧
      (finishLink s).hsi = s.hsi ∧ (finishLink s).psm = s.psm ∧ (finishLink s).kbs = s.kbs ∧
      (finishLink s).thc = s.thc ∧ (finishLink s).swc = s.swc ∧ (finishLink s).sts = s.sts ∧
      (finishLink s).pending = s.pending ∧ (finishLink s).chc.order = s.chc.order ∧
      (finishLink s).chc.threshold = s.chc.threshold ∧ (finishLink s).chc.openRow = s.chc.openRow ∧
      (finishLink s).chc.latches = s.chc.latches ∧ (finishLink s).chc.table = s.chc.table ∧
      (finishLink s).plc.devices = s.plc.devices ∧ (finishLink s).fsu.table = s.fsu.table ∧
      (finishLink s).evr.routes = s.evr.routes ∧ (finishLink s).evr.button = s.evr.button ∧
      (finishLink s).evr.keys = s.evr.keys ∧ (finishLink s).evr.capture = s.evr.capture ∧
      (finishLink s).evr.fault = s.evr.fault ∧ (finishLink s).hlk.queue = s.hlk.queue ∧
      (finishLink s).hlk.resetPending = s.hlk.resetPending ∧ (finishLink s).hlk.rx = s.hlk.rx ∧
      (finishLink s).hlk.series = s.hlk.series ∧ (finishLink s).hlk.held = s.hlk.held := by
  simp only [finishLink]
  repeat' split
  all_goals simp

@[simp] theorem quiesceLink_frame (s : State) :
    (quiesceLink s).time = s.time ∧ (quiesceLink s).pth = s.pth ∧ (quiesceLink s).bga = s.bga ∧
      (quiesceLink s).hsi = s.hsi ∧ (quiesceLink s).psm = s.psm ∧ (quiesceLink s).kbs = s.kbs ∧
      (quiesceLink s).thc = s.thc ∧ (quiesceLink s).swc = s.swc ∧ (quiesceLink s).sts = s.sts ∧
      (quiesceLink s).pending = s.pending ∧ (quiesceLink s).chc.order = s.chc.order ∧
      (quiesceLink s).chc.threshold = s.chc.threshold ∧ (quiesceLink s).chc.openRow = s.chc.openRow ∧
      (quiesceLink s).chc.latches = s.chc.latches ∧ (quiesceLink s).chc.table = s.chc.table ∧
      (quiesceLink s).plc.devices = s.plc.devices ∧ (quiesceLink s).fsu.table = s.fsu.table ∧
      (quiesceLink s).evr.routes = s.evr.routes ∧ (quiesceLink s).evr.button = s.evr.button ∧
      (quiesceLink s).evr.keys = s.evr.keys ∧ (quiesceLink s).evr.capture = s.evr.capture ∧
      (quiesceLink s).evr.fault = s.evr.fault ∧ (quiesceLink s).hlk.queue = s.hlk.queue ∧
      (quiesceLink s).hlk.resetPending = s.hlk.resetPending ∧ (quiesceLink s).hlk.rx = s.hlk.rx ∧
      (quiesceLink s).hlk.series = s.hlk.series ∧ (quiesceLink s).hlk.held = s.hlk.held := by
  simp only [quiesceLink]
  repeat' split
  all_goals simp

@[simp] theorem resumePass_frame (s : State) :
    (resumePass s).time = s.time ∧ (resumePass s).pth = s.pth ∧ (resumePass s).chc = s.chc ∧
      (resumePass s).bga = s.bga ∧ (resumePass s).hsi = s.hsi ∧ (resumePass s).psm = s.psm ∧
      (resumePass s).kbs = s.kbs ∧ (resumePass s).thc = s.thc ∧ (resumePass s).swc = s.swc ∧
      (resumePass s).fsu = s.fsu ∧ (resumePass s).evr = s.evr ∧ (resumePass s).hlk = s.hlk ∧
      (resumePass s).sts = s.sts ∧ (resumePass s).pending = s.pending ∧
      (resumePass s).plc.devices = s.plc.devices ∧ (resumePass s).plc.result = s.plc.result ∧
      (resumePass s).plc.asked = s.plc.asked := by
  simp only [resumePass]
  repeat' split
  all_goals simp

@[simp] theorem pollAtOnce_frame (p : PackId) (s : State) :
    (pollAtOnce p s).time = s.time ∧ (pollAtOnce p s).pth = s.pth ∧ (pollAtOnce p s).chc = s.chc ∧
      (pollAtOnce p s).bga = s.bga ∧ (pollAtOnce p s).hsi = s.hsi ∧ (pollAtOnce p s).psm = s.psm ∧
      (pollAtOnce p s).kbs = s.kbs ∧ (pollAtOnce p s).thc = s.thc ∧ (pollAtOnce p s).swc = s.swc ∧
      (pollAtOnce p s).fsu = s.fsu ∧ (pollAtOnce p s).evr = s.evr ∧ (pollAtOnce p s).hlk = s.hlk ∧
      (pollAtOnce p s).sts = s.sts ∧ (pollAtOnce p s).pending = s.pending ∧
      (pollAtOnce p s).plc.devices = s.plc.devices ∧ (pollAtOnce p s).plc.pass = s.plc.pass ∧
      (pollAtOnce p s).plc.caught = s.plc.caught ∧ (pollAtOnce p s).plc.result = s.plc.result ∧
      (pollAtOnce p s).plc.asked = s.plc.asked := by
  simp only [pollAtOnce]
  repeat' split
  all_goals simp

@[simp] theorem allDue_frame (s : State) :
    (allDue s).time = s.time ∧ (allDue s).pth = s.pth ∧ (allDue s).chc = s.chc ∧ (allDue s).bga = s.bga ∧
      (allDue s).hsi = s.hsi ∧ (allDue s).psm = s.psm ∧ (allDue s).kbs = s.kbs ∧ (allDue s).thc = s.thc ∧
      (allDue s).swc = s.swc ∧ (allDue s).fsu = s.fsu ∧ (allDue s).evr = s.evr ∧ (allDue s).hlk = s.hlk ∧
      (allDue s).sts = s.sts ∧ (allDue s).pending = s.pending ∧ (allDue s).plc.devices = s.plc.devices ∧
      (allDue s).plc.pass = s.plc.pass ∧ (allDue s).plc.caught = s.plc.caught ∧
      (allDue s).plc.result = s.plc.result ∧ (allDue s).plc.asked = s.plc.asked := by
  simp only [allDue]
  repeat' split
  all_goals simp

@[simp] theorem returnLink_frame (fromOff : Bool) (s : State) :
    (returnLink fromOff s).time = s.time ∧ (returnLink fromOff s).pth = s.pth ∧
      (returnLink fromOff s).bga = s.bga ∧ (returnLink fromOff s).hsi = s.hsi ∧
      (returnLink fromOff s).psm = s.psm ∧ (returnLink fromOff s).kbs = s.kbs ∧
      (returnLink fromOff s).thc = s.thc ∧ (returnLink fromOff s).swc = s.swc ∧
      (returnLink fromOff s).fsu = s.fsu ∧ (returnLink fromOff s).sts = s.sts ∧
      (returnLink fromOff s).pending = s.pending ∧ (returnLink fromOff s).chc.order = s.chc.order ∧
      (returnLink fromOff s).chc.threshold = s.chc.threshold ∧
      (returnLink fromOff s).chc.openRow = s.chc.openRow ∧ (returnLink fromOff s).chc.latches = s.chc.latches ∧
      (returnLink fromOff s).chc.table = s.chc.table ∧ (returnLink fromOff s).plc.result = s.plc.result ∧
      (returnLink fromOff s).evr.routes = s.evr.routes ∧ (returnLink fromOff s).evr.button = s.evr.button ∧
      (returnLink fromOff s).evr.keys = s.evr.keys ∧ (returnLink fromOff s).evr.capture = s.evr.capture ∧
      (returnLink fromOff s).evr.fault = s.evr.fault ∧ (returnLink fromOff s).hlk.queue = s.hlk.queue ∧
      (returnLink fromOff s).hlk.resetPending = s.hlk.resetPending ∧ (returnLink fromOff s).hlk.rx = s.hlk.rx ∧
      (returnLink fromOff s).hlk.series = s.hlk.series ∧ (returnLink fromOff s).hlk.held = s.hlk.held := by
  simp only [returnLink]
  repeat' split
  all_goals simp

@[simp] theorem tellQuiesce_frame (j : Job) (s : State) :
    (tellQuiesce j s).time = s.time ∧ (tellQuiesce j s).pth = s.pth ∧ (tellQuiesce j s).sts = s.sts ∧
      (tellQuiesce j s).pending = s.pending ∧ (tellQuiesce j s).chc.order = s.chc.order ∧
      (tellQuiesce j s).chc.threshold = s.chc.threshold ∧ (tellQuiesce j s).chc.openRow = s.chc.openRow ∧
      (tellQuiesce j s).chc.latches = s.chc.latches ∧ (tellQuiesce j s).chc.table = s.chc.table ∧
      (tellQuiesce j s).plc.devices = s.plc.devices ∧ (tellQuiesce j s).hsi.monitors = s.hsi.monitors ∧
      (tellQuiesce j s).hsi.validity = s.hsi.validity ∧ (tellQuiesce j s).hsi.raw = s.hsi.raw ∧
      (tellQuiesce j s).hsi.reported = s.hsi.reported ∧ (tellQuiesce j s).hsi.rejected = s.hsi.rejected ∧
      (tellQuiesce j s).hsi.hysteresis = s.hsi.hysteresis ∧ (tellQuiesce j s).hsi.nominal = s.hsi.nominal ∧
      (tellQuiesce j s).hsi.closedRef = s.hsi.closedRef ∧ (tellQuiesce j s).psm.lid = s.psm.lid ∧
      (tellQuiesce j s).psm.tablet = s.psm.tablet ∧ (tellQuiesce j s).psm.conflict = s.psm.conflict ∧
      (tellQuiesce j s).psm.settings = s.psm.settings ∧ (tellQuiesce j s).psm.evaluated = s.psm.evaluated ∧
      (tellQuiesce j s).kbs.settings = s.kbs.settings ∧ (tellQuiesce j s).thc.holds = s.thc.holds ∧
      (tellQuiesce j s).thc.inputs = s.thc.inputs ∧ (tellQuiesce j s).thc.floor = s.thc.floor ∧
      (tellQuiesce j s).thc.trip = s.thc.trip ∧ (tellQuiesce j s).thc.curves = s.thc.curves ∧
      (tellQuiesce j s).swc.presses = s.swc.presses ∧ (tellQuiesce j s).swc.settings = s.swc.settings ∧
      (tellQuiesce j s).swc.wakeTimer = s.swc.wakeTimer ∧ (tellQuiesce j s).fsu.table = s.fsu.table ∧
      (tellQuiesce j s).evr.routes = s.evr.routes ∧ (tellQuiesce j s).hlk.queue = s.hlk.queue ∧
      (tellQuiesce j s).hlk.resetPending = s.hlk.resetPending ∧ (tellQuiesce j s).hlk.rx = s.hlk.rx ∧
      (tellQuiesce j s).hlk.series = s.hlk.series ∧ (tellQuiesce j s).hlk.held = s.hlk.held := by
  simp only [tellQuiesce]
  repeat' split
  all_goals simp

@[simp] theorem tellRun_frame (j : Job) (fromOff : Bool) (s : State) :
    (tellRun j fromOff s).time = s.time ∧ (tellRun j fromOff s).fsu = s.fsu ∧
      (tellRun j fromOff s).sts = s.sts ∧ (tellRun j fromOff s).pending = s.pending ∧
      (tellRun j fromOff s).pth.adapter = s.pth.adapter ∧ (tellRun j fromOff s).pth.packA = s.pth.packA ∧
      (tellRun j fromOff s).pth.preference = s.pth.preference ∧ (tellRun j fromOff s).chc.order = s.chc.order ∧
      (tellRun j fromOff s).chc.threshold = s.chc.threshold ∧
      (tellRun j fromOff s).chc.openRow = s.chc.openRow ∧ (tellRun j fromOff s).chc.latches = s.chc.latches ∧
      (tellRun j fromOff s).chc.table = s.chc.table ∧ (tellRun j fromOff s).plc.result = s.plc.result ∧
      (tellRun j fromOff s).hsi.raw = s.hsi.raw ∧ (tellRun j fromOff s).hsi.reported = s.hsi.reported ∧
      (tellRun j fromOff s).hsi.rejected = s.hsi.rejected ∧ (tellRun j fromOff s).psm.lid = s.psm.lid ∧
      (tellRun j fromOff s).psm.tablet = s.psm.tablet ∧ (tellRun j fromOff s).psm.conflict = s.psm.conflict ∧
      (tellRun j fromOff s).psm.settings = s.psm.settings ∧
      (tellRun j fromOff s).psm.evaluated = s.psm.evaluated ∧
      (tellRun j fromOff s).kbs.settings = s.kbs.settings ∧ (tellRun j fromOff s).thc.inputs = s.thc.inputs ∧
      (tellRun j fromOff s).thc.floor = s.thc.floor ∧ (tellRun j fromOff s).thc.trip = s.thc.trip ∧
      (tellRun j fromOff s).thc.curves = s.thc.curves ∧ (tellRun j fromOff s).swc.presses = s.swc.presses ∧
      (tellRun j fromOff s).swc.settings = s.swc.settings ∧
      (tellRun j fromOff s).swc.wakeTimer = s.swc.wakeTimer ∧ (tellRun j fromOff s).evr.routes = s.evr.routes ∧
      (tellRun j fromOff s).hlk.queue = s.hlk.queue ∧
      (tellRun j fromOff s).hlk.resetPending = s.hlk.resetPending ∧ (tellRun j fromOff s).hlk.rx = s.hlk.rx ∧
      (tellRun j fromOff s).hlk.series = s.hlk.series ∧ (tellRun j fromOff s).hlk.held = s.hlk.held := by
  simp only [tellRun]
  repeat' split
  all_goals simp

@[simp] theorem occurEach_frame (c : FaultCode) (ds : List Detail) (s : State) :
    (occurEach c ds s).time = s.time ∧ (occurEach c ds s).pth = s.pth ∧ (occurEach c ds s).bga = s.bga ∧
      (occurEach c ds s).hsi = s.hsi ∧ (occurEach c ds s).psm = s.psm ∧ (occurEach c ds s).kbs = s.kbs ∧
      (occurEach c ds s).thc = s.thc ∧ (occurEach c ds s).swc = s.swc ∧ (occurEach c ds s).sts = s.sts ∧
      (occurEach c ds s).pending = s.pending ∧ (occurEach c ds s).chc.order = s.chc.order ∧
      (occurEach c ds s).chc.threshold = s.chc.threshold ∧ (occurEach c ds s).chc.openRow = s.chc.openRow ∧
      (occurEach c ds s).chc.latches = s.chc.latches ∧ (occurEach c ds s).chc.table = s.chc.table ∧
      (occurEach c ds s).plc.devices = s.plc.devices ∧ (occurEach c ds s).plc.pass = s.plc.pass ∧
      (occurEach c ds s).plc.asked = s.plc.asked ∧ (occurEach c ds s).evr.routes = s.evr.routes ∧
      (occurEach c ds s).hlk.queue = s.hlk.queue ∧ (occurEach c ds s).hlk.resetPending = s.hlk.resetPending ∧
      (occurEach c ds s).hlk.rx = s.hlk.rx ∧ (occurEach c ds s).hlk.series = s.hlk.series ∧
      (occurEach c ds s).hlk.held = s.hlk.held := by
  induction ds generalizing s with
  | nil => simp [occurEach]
  | cons d ds ih =>
    simp only [occurEach, ih]
    simp

@[simp] theorem raiseEach_frame (c : FaultCode) (ds : List Detail) (s : State) :
    (raiseEach c ds s).time = s.time ∧ (raiseEach c ds s).pth = s.pth ∧ (raiseEach c ds s).sts = s.sts ∧
      (raiseEach c ds s).pending = s.pending ∧ (raiseEach c ds s).chc.order = s.chc.order ∧
      (raiseEach c ds s).chc.threshold = s.chc.threshold ∧ (raiseEach c ds s).chc.openRow = s.chc.openRow ∧
      (raiseEach c ds s).chc.latches = s.chc.latches ∧ (raiseEach c ds s).chc.table = s.chc.table ∧
      (raiseEach c ds s).plc.devices = s.plc.devices ∧ (raiseEach c ds s).hsi.monitors = s.hsi.monitors ∧
      (raiseEach c ds s).hsi.validity = s.hsi.validity ∧ (raiseEach c ds s).hsi.raw = s.hsi.raw ∧
      (raiseEach c ds s).hsi.reported = s.hsi.reported ∧ (raiseEach c ds s).hsi.rejected = s.hsi.rejected ∧
      (raiseEach c ds s).hsi.hysteresis = s.hsi.hysteresis ∧ (raiseEach c ds s).hsi.nominal = s.hsi.nominal ∧
      (raiseEach c ds s).hsi.closedRef = s.hsi.closedRef ∧ (raiseEach c ds s).psm.lid = s.psm.lid ∧
      (raiseEach c ds s).psm.tablet = s.psm.tablet ∧ (raiseEach c ds s).psm.conflict = s.psm.conflict ∧
      (raiseEach c ds s).psm.settings = s.psm.settings ∧ (raiseEach c ds s).psm.evaluated = s.psm.evaluated ∧
      (raiseEach c ds s).kbs.settings = s.kbs.settings ∧ (raiseEach c ds s).thc.holds = s.thc.holds ∧
      (raiseEach c ds s).thc.inputs = s.thc.inputs ∧ (raiseEach c ds s).thc.floor = s.thc.floor ∧
      (raiseEach c ds s).thc.trip = s.thc.trip ∧ (raiseEach c ds s).thc.curves = s.thc.curves ∧
      (raiseEach c ds s).swc.presses = s.swc.presses ∧ (raiseEach c ds s).swc.settings = s.swc.settings ∧
      (raiseEach c ds s).swc.wakeTimer = s.swc.wakeTimer ∧ (raiseEach c ds s).evr.routes = s.evr.routes ∧
      (raiseEach c ds s).hlk.queue = s.hlk.queue ∧ (raiseEach c ds s).hlk.resetPending = s.hlk.resetPending ∧
      (raiseEach c ds s).hlk.rx = s.hlk.rx ∧ (raiseEach c ds s).hlk.series = s.hlk.series ∧
      (raiseEach c ds s).hlk.held = s.hlk.held := by
  simp only [raiseEach]
  repeat' split
  all_goals simp

@[simp] theorem raiseFault_frame (c : FaultCode) (d : Detail) (s : State) :
    (raiseFault c d s).time = s.time ∧ (raiseFault c d s).pth = s.pth ∧ (raiseFault c d s).sts = s.sts ∧
      (raiseFault c d s).pending = s.pending ∧ (raiseFault c d s).chc.order = s.chc.order ∧
      (raiseFault c d s).chc.threshold = s.chc.threshold ∧ (raiseFault c d s).chc.openRow = s.chc.openRow ∧
      (raiseFault c d s).chc.latches = s.chc.latches ∧ (raiseFault c d s).chc.table = s.chc.table ∧
      (raiseFault c d s).plc.devices = s.plc.devices ∧ (raiseFault c d s).hsi.monitors = s.hsi.monitors ∧
      (raiseFault c d s).hsi.validity = s.hsi.validity ∧ (raiseFault c d s).hsi.raw = s.hsi.raw ∧
      (raiseFault c d s).hsi.reported = s.hsi.reported ∧ (raiseFault c d s).hsi.rejected = s.hsi.rejected ∧
      (raiseFault c d s).hsi.hysteresis = s.hsi.hysteresis ∧ (raiseFault c d s).hsi.nominal = s.hsi.nominal ∧
      (raiseFault c d s).hsi.closedRef = s.hsi.closedRef ∧ (raiseFault c d s).psm.lid = s.psm.lid ∧
      (raiseFault c d s).psm.tablet = s.psm.tablet ∧ (raiseFault c d s).psm.conflict = s.psm.conflict ∧
      (raiseFault c d s).psm.settings = s.psm.settings ∧ (raiseFault c d s).psm.evaluated = s.psm.evaluated ∧
      (raiseFault c d s).kbs.settings = s.kbs.settings ∧ (raiseFault c d s).thc.holds = s.thc.holds ∧
      (raiseFault c d s).thc.inputs = s.thc.inputs ∧ (raiseFault c d s).thc.floor = s.thc.floor ∧
      (raiseFault c d s).thc.trip = s.thc.trip ∧ (raiseFault c d s).thc.curves = s.thc.curves ∧
      (raiseFault c d s).swc.presses = s.swc.presses ∧ (raiseFault c d s).swc.settings = s.swc.settings ∧
      (raiseFault c d s).swc.wakeTimer = s.swc.wakeTimer ∧ (raiseFault c d s).evr.routes = s.evr.routes ∧
      (raiseFault c d s).hlk.queue = s.hlk.queue ∧ (raiseFault c d s).hlk.resetPending = s.hlk.resetPending ∧
      (raiseFault c d s).hlk.rx = s.hlk.rx ∧ (raiseFault c d s).hlk.series = s.hlk.series ∧
      (raiseFault c d s).hlk.held = s.hlk.held := by
  simp only [raiseFault]
  repeat' split
  all_goals simp

@[simp] theorem chargerFails_frame (s : State) :
    (chargerFails s).time = s.time ∧ (chargerFails s).pth = s.pth ∧ (chargerFails s).sts = s.sts ∧
      (chargerFails s).pending = s.pending ∧ (chargerFails s).chc.order = s.chc.order ∧
      (chargerFails s).chc.threshold = s.chc.threshold ∧ (chargerFails s).chc.openRow = s.chc.openRow ∧
      (chargerFails s).chc.latches = s.chc.latches ∧ (chargerFails s).chc.table = s.chc.table ∧
      (chargerFails s).plc.devices = s.plc.devices ∧ (chargerFails s).hsi.monitors = s.hsi.monitors ∧
      (chargerFails s).hsi.validity = s.hsi.validity ∧ (chargerFails s).hsi.raw = s.hsi.raw ∧
      (chargerFails s).hsi.reported = s.hsi.reported ∧ (chargerFails s).hsi.rejected = s.hsi.rejected ∧
      (chargerFails s).hsi.hysteresis = s.hsi.hysteresis ∧ (chargerFails s).hsi.nominal = s.hsi.nominal ∧
      (chargerFails s).hsi.closedRef = s.hsi.closedRef ∧ (chargerFails s).psm.lid = s.psm.lid ∧
      (chargerFails s).psm.tablet = s.psm.tablet ∧ (chargerFails s).psm.conflict = s.psm.conflict ∧
      (chargerFails s).psm.settings = s.psm.settings ∧ (chargerFails s).psm.evaluated = s.psm.evaluated ∧
      (chargerFails s).kbs.settings = s.kbs.settings ∧ (chargerFails s).thc.holds = s.thc.holds ∧
      (chargerFails s).thc.inputs = s.thc.inputs ∧ (chargerFails s).thc.floor = s.thc.floor ∧
      (chargerFails s).thc.trip = s.thc.trip ∧ (chargerFails s).thc.curves = s.thc.curves ∧
      (chargerFails s).swc.presses = s.swc.presses ∧ (chargerFails s).swc.settings = s.swc.settings ∧
      (chargerFails s).swc.wakeTimer = s.swc.wakeTimer ∧ (chargerFails s).evr.routes = s.evr.routes ∧
      (chargerFails s).hlk.queue = s.hlk.queue ∧ (chargerFails s).hlk.resetPending = s.hlk.resetPending ∧
      (chargerFails s).hlk.rx = s.hlk.rx ∧ (chargerFails s).hlk.series = s.hlk.series ∧
      (chargerFails s).hlk.held = s.hlk.held := by
  simp only [chargerFails]
  repeat' split
  all_goals simp

@[simp] theorem chargerEnd_frame (w : WriteWork) (q : LinkPolicy) (o : TxOutcome) (s : State) :
    (chargerEnd w q o s).time = s.time ∧ (chargerEnd w q o s).pth = s.pth ∧ (chargerEnd w q o s).sts = s.sts ∧
      (chargerEnd w q o s).pending = s.pending ∧ (chargerEnd w q o s).chc.order = s.chc.order ∧
      (chargerEnd w q o s).chc.threshold = s.chc.threshold ∧ (chargerEnd w q o s).chc.openRow = s.chc.openRow ∧
      (chargerEnd w q o s).chc.latches = s.chc.latches ∧ (chargerEnd w q o s).chc.table = s.chc.table ∧
      (chargerEnd w q o s).plc.devices = s.plc.devices ∧ (chargerEnd w q o s).hsi.monitors = s.hsi.monitors ∧
      (chargerEnd w q o s).hsi.validity = s.hsi.validity ∧ (chargerEnd w q o s).hsi.raw = s.hsi.raw ∧
      (chargerEnd w q o s).hsi.reported = s.hsi.reported ∧ (chargerEnd w q o s).hsi.rejected = s.hsi.rejected ∧
      (chargerEnd w q o s).hsi.hysteresis = s.hsi.hysteresis ∧
      (chargerEnd w q o s).hsi.nominal = s.hsi.nominal ∧ (chargerEnd w q o s).hsi.closedRef = s.hsi.closedRef ∧
      (chargerEnd w q o s).psm.lid = s.psm.lid ∧ (chargerEnd w q o s).psm.tablet = s.psm.tablet ∧
      (chargerEnd w q o s).psm.conflict = s.psm.conflict ∧ (chargerEnd w q o s).psm.settings = s.psm.settings ∧
      (chargerEnd w q o s).psm.evaluated = s.psm.evaluated ∧
      (chargerEnd w q o s).kbs.settings = s.kbs.settings ∧ (chargerEnd w q o s).thc.holds = s.thc.holds ∧
      (chargerEnd w q o s).thc.inputs = s.thc.inputs ∧ (chargerEnd w q o s).thc.floor = s.thc.floor ∧
      (chargerEnd w q o s).thc.trip = s.thc.trip ∧ (chargerEnd w q o s).thc.curves = s.thc.curves ∧
      (chargerEnd w q o s).swc.presses = s.swc.presses ∧ (chargerEnd w q o s).swc.settings = s.swc.settings ∧
      (chargerEnd w q o s).swc.wakeTimer = s.swc.wakeTimer ∧ (chargerEnd w q o s).evr.routes = s.evr.routes ∧
      (chargerEnd w q o s).hlk.queue = s.hlk.queue ∧
      (chargerEnd w q o s).hlk.resetPending = s.hlk.resetPending ∧ (chargerEnd w q o s).hlk.rx = s.hlk.rx ∧
      (chargerEnd w q o s).hlk.series = s.hlk.series ∧ (chargerEnd w q o s).hlk.held = s.hlk.held := by
  simp only [chargerEnd]
  repeat' split
  all_goals simp

@[simp] theorem pollEnd_frame (w : PollWork) (o : TxOutcome) (s : State) :
    (pollEnd w o s).time = s.time ∧ (pollEnd w o s).hsi = s.hsi ∧ (pollEnd w o s).psm = s.psm ∧
      (pollEnd w o s).sts = s.sts ∧ (pollEnd w o s).pending = s.pending ∧
      (pollEnd w o s).pth.adapter = s.pth.adapter ∧ (pollEnd w o s).pth.preference = s.pth.preference ∧
      (pollEnd w o s).chc.order = s.chc.order ∧ (pollEnd w o s).chc.threshold = s.chc.threshold ∧
      (pollEnd w o s).chc.openRow = s.chc.openRow ∧ (pollEnd w o s).chc.latches = s.chc.latches ∧
      (pollEnd w o s).chc.table = s.chc.table ∧ (pollEnd w o s).plc.devices = s.plc.devices ∧
      (pollEnd w o s).plc.pass = s.plc.pass ∧ (pollEnd w o s).kbs.settings = s.kbs.settings ∧
      (pollEnd w o s).thc.holds = s.thc.holds ∧ (pollEnd w o s).thc.inputs = s.thc.inputs ∧
      (pollEnd w o s).thc.floor = s.thc.floor ∧ (pollEnd w o s).thc.trip = s.thc.trip ∧
      (pollEnd w o s).thc.curves = s.thc.curves ∧ (pollEnd w o s).swc.presses = s.swc.presses ∧
      (pollEnd w o s).swc.settings = s.swc.settings ∧ (pollEnd w o s).swc.wakeTimer = s.swc.wakeTimer ∧
      (pollEnd w o s).evr.routes = s.evr.routes ∧ (pollEnd w o s).hlk.queue = s.hlk.queue ∧
      (pollEnd w o s).hlk.resetPending = s.hlk.resetPending ∧ (pollEnd w o s).hlk.rx = s.hlk.rx ∧
      (pollEnd w o s).hlk.series = s.hlk.series ∧ (pollEnd w o s).hlk.held = s.hlk.held := by
  simp only [pollEnd]
  repeat' split
  all_goals simp

@[simp] theorem sensorFails_frame (x : Sensor) (s : State) :
    (sensorFails x s).time = s.time ∧ (sensorFails x s).pth = s.pth ∧ (sensorFails x s).sts = s.sts ∧
      (sensorFails x s).pending = s.pending ∧ (sensorFails x s).chc.order = s.chc.order ∧
      (sensorFails x s).chc.threshold = s.chc.threshold ∧ (sensorFails x s).chc.openRow = s.chc.openRow ∧
      (sensorFails x s).chc.latches = s.chc.latches ∧ (sensorFails x s).chc.table = s.chc.table ∧
      (sensorFails x s).plc.devices = s.plc.devices ∧ (sensorFails x s).hsi.monitors = s.hsi.monitors ∧
      (sensorFails x s).hsi.validity = s.hsi.validity ∧ (sensorFails x s).hsi.raw = s.hsi.raw ∧
      (sensorFails x s).hsi.reported = s.hsi.reported ∧ (sensorFails x s).hsi.rejected = s.hsi.rejected ∧
      (sensorFails x s).hsi.hysteresis = s.hsi.hysteresis ∧ (sensorFails x s).hsi.nominal = s.hsi.nominal ∧
      (sensorFails x s).hsi.closedRef = s.hsi.closedRef ∧ (sensorFails x s).psm.lid = s.psm.lid ∧
      (sensorFails x s).psm.tablet = s.psm.tablet ∧ (sensorFails x s).psm.conflict = s.psm.conflict ∧
      (sensorFails x s).psm.settings = s.psm.settings ∧ (sensorFails x s).psm.evaluated = s.psm.evaluated ∧
      (sensorFails x s).kbs.settings = s.kbs.settings ∧ (sensorFails x s).thc.holds = s.thc.holds ∧
      (sensorFails x s).thc.floor = s.thc.floor ∧ (sensorFails x s).thc.trip = s.thc.trip ∧
      (sensorFails x s).thc.curves = s.thc.curves ∧ (sensorFails x s).swc.presses = s.swc.presses ∧
      (sensorFails x s).swc.settings = s.swc.settings ∧ (sensorFails x s).swc.wakeTimer = s.swc.wakeTimer ∧
      (sensorFails x s).evr.routes = s.evr.routes ∧ (sensorFails x s).hlk.queue = s.hlk.queue ∧
      (sensorFails x s).hlk.resetPending = s.hlk.resetPending ∧ (sensorFails x s).hlk.rx = s.hlk.rx ∧
      (sensorFails x s).hlk.series = s.hlk.series ∧ (sensorFails x s).hlk.held = s.hlk.held := by
  simp only [sensorFails]
  repeat' split
  all_goals simp

@[simp] theorem sensorEnd_frame (x : Sensor) (o : TxOutcome) (s : State) :
    (sensorEnd x o s).time = s.time ∧ (sensorEnd x o s).pth = s.pth ∧ (sensorEnd x o s).sts = s.sts ∧
      (sensorEnd x o s).pending = s.pending ∧ (sensorEnd x o s).chc.order = s.chc.order ∧
      (sensorEnd x o s).chc.threshold = s.chc.threshold ∧ (sensorEnd x o s).chc.openRow = s.chc.openRow ∧
      (sensorEnd x o s).chc.latches = s.chc.latches ∧ (sensorEnd x o s).chc.table = s.chc.table ∧
      (sensorEnd x o s).plc.devices = s.plc.devices ∧ (sensorEnd x o s).hsi.monitors = s.hsi.monitors ∧
      (sensorEnd x o s).hsi.validity = s.hsi.validity ∧ (sensorEnd x o s).hsi.raw = s.hsi.raw ∧
      (sensorEnd x o s).hsi.reported = s.hsi.reported ∧ (sensorEnd x o s).hsi.rejected = s.hsi.rejected ∧
      (sensorEnd x o s).hsi.hysteresis = s.hsi.hysteresis ∧ (sensorEnd x o s).hsi.nominal = s.hsi.nominal ∧
      (sensorEnd x o s).hsi.closedRef = s.hsi.closedRef ∧ (sensorEnd x o s).psm.lid = s.psm.lid ∧
      (sensorEnd x o s).psm.tablet = s.psm.tablet ∧ (sensorEnd x o s).psm.conflict = s.psm.conflict ∧
      (sensorEnd x o s).psm.settings = s.psm.settings ∧ (sensorEnd x o s).psm.evaluated = s.psm.evaluated ∧
      (sensorEnd x o s).kbs.settings = s.kbs.settings ∧ (sensorEnd x o s).thc.holds = s.thc.holds ∧
      (sensorEnd x o s).thc.floor = s.thc.floor ∧ (sensorEnd x o s).thc.trip = s.thc.trip ∧
      (sensorEnd x o s).thc.curves = s.thc.curves ∧ (sensorEnd x o s).swc.presses = s.swc.presses ∧
      (sensorEnd x o s).swc.settings = s.swc.settings ∧ (sensorEnd x o s).swc.wakeTimer = s.swc.wakeTimer ∧
      (sensorEnd x o s).evr.routes = s.evr.routes ∧ (sensorEnd x o s).hlk.queue = s.hlk.queue ∧
      (sensorEnd x o s).hlk.resetPending = s.hlk.resetPending ∧ (sensorEnd x o s).hlk.rx = s.hlk.rx ∧
      (sensorEnd x o s).hlk.series = s.hlk.series ∧ (sensorEnd x o s).hlk.held = s.hlk.held := by
  simp only [sensorEnd]
  repeat' split
  all_goals simp

@[simp] theorem handOver_frame (w : OnWire) (o : TxOutcome) (s : State) :
    (handOver w o s).time = s.time ∧ (handOver w o s).sts = s.sts ∧ (handOver w o s).pending = s.pending ∧
      (handOver w o s).pth.adapter = s.pth.adapter ∧ (handOver w o s).pth.preference = s.pth.preference ∧
      (handOver w o s).chc.order = s.chc.order ∧ (handOver w o s).chc.threshold = s.chc.threshold ∧
      (handOver w o s).chc.openRow = s.chc.openRow ∧ (handOver w o s).chc.latches = s.chc.latches ∧
      (handOver w o s).chc.table = s.chc.table ∧ (handOver w o s).plc.devices = s.plc.devices ∧
      (handOver w o s).hsi.monitors = s.hsi.monitors ∧ (handOver w o s).hsi.validity = s.hsi.validity ∧
      (handOver w o s).hsi.raw = s.hsi.raw ∧ (handOver w o s).hsi.reported = s.hsi.reported ∧
      (handOver w o s).hsi.rejected = s.hsi.rejected ∧ (handOver w o s).hsi.hysteresis = s.hsi.hysteresis ∧
      (handOver w o s).hsi.nominal = s.hsi.nominal ∧ (handOver w o s).hsi.closedRef = s.hsi.closedRef ∧
      (handOver w o s).psm.lid = s.psm.lid ∧ (handOver w o s).psm.tablet = s.psm.tablet ∧
      (handOver w o s).psm.conflict = s.psm.conflict ∧ (handOver w o s).psm.settings = s.psm.settings ∧
      (handOver w o s).psm.evaluated = s.psm.evaluated ∧ (handOver w o s).kbs.settings = s.kbs.settings ∧
      (handOver w o s).thc.holds = s.thc.holds ∧ (handOver w o s).thc.floor = s.thc.floor ∧
      (handOver w o s).thc.trip = s.thc.trip ∧ (handOver w o s).thc.curves = s.thc.curves ∧
      (handOver w o s).swc.presses = s.swc.presses ∧ (handOver w o s).swc.settings = s.swc.settings ∧
      (handOver w o s).swc.wakeTimer = s.swc.wakeTimer ∧ (handOver w o s).evr.routes = s.evr.routes ∧
      (handOver w o s).hlk.queue = s.hlk.queue ∧ (handOver w o s).hlk.resetPending = s.hlk.resetPending ∧
      (handOver w o s).hlk.rx = s.hlk.rx ∧ (handOver w o s).hlk.series = s.hlk.series ∧
      (handOver w o s).hlk.held = s.hlk.held := by
  simp only [handOver]
  repeat' split
  all_goals simp

@[simp] theorem afterOutcome_frame (s : State) :
    (afterOutcome s).time = s.time ∧ (afterOutcome s).pth = s.pth ∧ (afterOutcome s).bga = s.bga ∧
      (afterOutcome s).hsi = s.hsi ∧ (afterOutcome s).psm = s.psm ∧ (afterOutcome s).kbs = s.kbs ∧
      (afterOutcome s).thc = s.thc ∧ (afterOutcome s).swc = s.swc ∧ (afterOutcome s).sts = s.sts ∧
      (afterOutcome s).pending = s.pending ∧ (afterOutcome s).chc.order = s.chc.order ∧
      (afterOutcome s).chc.threshold = s.chc.threshold ∧ (afterOutcome s).chc.openRow = s.chc.openRow ∧
      (afterOutcome s).chc.latches = s.chc.latches ∧ (afterOutcome s).chc.table = s.chc.table ∧
      (afterOutcome s).plc.devices = s.plc.devices ∧ (afterOutcome s).fsu.table = s.fsu.table ∧
      (afterOutcome s).evr.routes = s.evr.routes ∧ (afterOutcome s).evr.button = s.evr.button ∧
      (afterOutcome s).evr.keys = s.evr.keys ∧ (afterOutcome s).evr.capture = s.evr.capture ∧
      (afterOutcome s).evr.fault = s.evr.fault ∧ (afterOutcome s).hlk.queue = s.hlk.queue ∧
      (afterOutcome s).hlk.resetPending = s.hlk.resetPending ∧ (afterOutcome s).hlk.rx = s.hlk.rx ∧
      (afterOutcome s).hlk.series = s.hlk.series ∧ (afterOutcome s).hlk.held = s.hlk.held := by
  simp only [afterOutcome]
  repeat' split
  all_goals simp

@[simp] theorem endStuck_frame (entry : Nat) (s : State) :
    (endStuck entry s).time = s.time ∧ (endStuck entry s).pth = s.pth ∧ (endStuck entry s).bga = s.bga ∧
      (endStuck entry s).hsi = s.hsi ∧ (endStuck entry s).psm = s.psm ∧ (endStuck entry s).kbs = s.kbs ∧
      (endStuck entry s).thc = s.thc ∧ (endStuck entry s).swc = s.swc ∧ (endStuck entry s).sts = s.sts ∧
      (endStuck entry s).pending = s.pending ∧ (endStuck entry s).chc.order = s.chc.order ∧
      (endStuck entry s).chc.threshold = s.chc.threshold ∧ (endStuck entry s).chc.openRow = s.chc.openRow ∧
      (endStuck entry s).chc.latches = s.chc.latches ∧ (endStuck entry s).chc.table = s.chc.table ∧
      (endStuck entry s).plc.devices = s.plc.devices ∧ (endStuck entry s).evr.routes = s.evr.routes ∧
      (endStuck entry s).hlk.queue = s.hlk.queue ∧ (endStuck entry s).hlk.resetPending = s.hlk.resetPending ∧
      (endStuck entry s).hlk.rx = s.hlk.rx ∧ (endStuck entry s).hlk.series = s.hlk.series ∧
      (endStuck entry s).hlk.held = s.hlk.held := by
  simp only [endStuck]
  repeat' split
  all_goals simp

@[simp] theorem endTransaction_frame (w : OnWire) (o : TxOutcome) (s : State) :
    (endTransaction w o s).time = s.time ∧ (endTransaction w o s).sts = s.sts ∧
      (endTransaction w o s).pending = s.pending ∧ (endTransaction w o s).pth.adapter = s.pth.adapter ∧
      (endTransaction w o s).pth.preference = s.pth.preference ∧
      (endTransaction w o s).chc.order = s.chc.order ∧ (endTransaction w o s).chc.threshold = s.chc.threshold ∧
      (endTransaction w o s).chc.openRow = s.chc.openRow ∧ (endTransaction w o s).chc.latches = s.chc.latches ∧
      (endTransaction w o s).chc.table = s.chc.table ∧ (endTransaction w o s).hsi.monitors = s.hsi.monitors ∧
      (endTransaction w o s).hsi.validity = s.hsi.validity ∧ (endTransaction w o s).hsi.raw = s.hsi.raw ∧
      (endTransaction w o s).hsi.reported = s.hsi.reported ∧
      (endTransaction w o s).hsi.rejected = s.hsi.rejected ∧
      (endTransaction w o s).hsi.hysteresis = s.hsi.hysteresis ∧
      (endTransaction w o s).hsi.nominal = s.hsi.nominal ∧
      (endTransaction w o s).hsi.closedRef = s.hsi.closedRef ∧ (endTransaction w o s).psm.lid = s.psm.lid ∧
      (endTransaction w o s).psm.tablet = s.psm.tablet ∧ (endTransaction w o s).psm.conflict = s.psm.conflict ∧
      (endTransaction w o s).psm.settings = s.psm.settings ∧
      (endTransaction w o s).psm.evaluated = s.psm.evaluated ∧
      (endTransaction w o s).kbs.settings = s.kbs.settings ∧ (endTransaction w o s).thc.holds = s.thc.holds ∧
      (endTransaction w o s).thc.floor = s.thc.floor ∧ (endTransaction w o s).thc.trip = s.thc.trip ∧
      (endTransaction w o s).thc.curves = s.thc.curves ∧ (endTransaction w o s).swc.presses = s.swc.presses ∧
      (endTransaction w o s).swc.settings = s.swc.settings ∧
      (endTransaction w o s).swc.wakeTimer = s.swc.wakeTimer ∧
      (endTransaction w o s).evr.routes = s.evr.routes ∧ (endTransaction w o s).hlk.queue = s.hlk.queue ∧
      (endTransaction w o s).hlk.resetPending = s.hlk.resetPending ∧ (endTransaction w o s).hlk.rx = s.hlk.rx ∧
      (endTransaction w o s).hlk.series = s.hlk.series ∧ (endTransaction w o s).hlk.held = s.hlk.held := by
  simp only [endTransaction]
  repeat' split
  all_goals simp

@[simp] theorem recovered_frame (started : Bool) (w : OnWire) (s : State) :
    (recovered started w s).time = s.time ∧ (recovered started w s).sts = s.sts ∧
      (recovered started w s).pending = s.pending ∧ (recovered started w s).pth.adapter = s.pth.adapter ∧
      (recovered started w s).pth.preference = s.pth.preference ∧
      (recovered started w s).chc.order = s.chc.order ∧
      (recovered started w s).chc.threshold = s.chc.threshold ∧
      (recovered started w s).chc.openRow = s.chc.openRow ∧
      (recovered started w s).chc.latches = s.chc.latches ∧ (recovered started w s).chc.table = s.chc.table ∧
      (recovered started w s).hsi.monitors = s.hsi.monitors ∧
      (recovered started w s).hsi.validity = s.hsi.validity ∧ (recovered started w s).hsi.raw = s.hsi.raw ∧
      (recovered started w s).hsi.reported = s.hsi.reported ∧
      (recovered started w s).hsi.rejected = s.hsi.rejected ∧
      (recovered started w s).hsi.hysteresis = s.hsi.hysteresis ∧
      (recovered started w s).hsi.nominal = s.hsi.nominal ∧
      (recovered started w s).hsi.closedRef = s.hsi.closedRef ∧ (recovered started w s).psm.lid = s.psm.lid ∧
      (recovered started w s).psm.tablet = s.psm.tablet ∧
      (recovered started w s).psm.conflict = s.psm.conflict ∧
      (recovered started w s).psm.settings = s.psm.settings ∧
      (recovered started w s).psm.evaluated = s.psm.evaluated ∧
      (recovered started w s).kbs.settings = s.kbs.settings ∧ (recovered started w s).thc.holds = s.thc.holds ∧
      (recovered started w s).thc.floor = s.thc.floor ∧ (recovered started w s).thc.trip = s.thc.trip ∧
      (recovered started w s).thc.curves = s.thc.curves ∧ (recovered started w s).swc.presses = s.swc.presses ∧
      (recovered started w s).swc.settings = s.swc.settings ∧
      (recovered started w s).swc.wakeTimer = s.swc.wakeTimer ∧
      (recovered started w s).evr.routes = s.evr.routes ∧ (recovered started w s).hlk.queue = s.hlk.queue ∧
      (recovered started w s).hlk.resetPending = s.hlk.resetPending ∧
      (recovered started w s).hlk.rx = s.hlk.rx ∧ (recovered started w s).hlk.series = s.hlk.series ∧
      (recovered started w s).hlk.held = s.hlk.held := by
  simp only [recovered]
  repeat' split
  all_goals simp

@[simp] theorem answerReadPack_frame (pack : Byte) (s : State) :
    (answerReadPack pack s).2.time = s.time ∧ (answerReadPack pack s).2.pth = s.pth ∧
      (answerReadPack pack s).2.chc = s.chc ∧ (answerReadPack pack s).2.bga = s.bga ∧
      (answerReadPack pack s).2.plc = s.plc ∧ (answerReadPack pack s).2.hsi = s.hsi ∧
      (answerReadPack pack s).2.psm = s.psm ∧ (answerReadPack pack s).2.kbs = s.kbs ∧
      (answerReadPack pack s).2.thc = s.thc ∧ (answerReadPack pack s).2.swc = s.swc ∧
      (answerReadPack pack s).2.fsu = s.fsu ∧ (answerReadPack pack s).2.evr = s.evr ∧
      (answerReadPack pack s).2.hlk = s.hlk ∧ (answerReadPack pack s).2.sts = s.sts ∧
      (answerReadPack pack s).2.pending = s.pending := by
  simp only [answerReadPack]
  repeat' split
  all_goals simp

@[simp] theorem answerReadPath_frame (s : State) :
    (answerReadPath s).2.time = s.time ∧ (answerReadPath s).2.pth = s.pth ∧ (answerReadPath s).2.chc = s.chc ∧
      (answerReadPath s).2.bga = s.bga ∧ (answerReadPath s).2.plc = s.plc ∧ (answerReadPath s).2.hsi = s.hsi ∧
      (answerReadPath s).2.psm = s.psm ∧ (answerReadPath s).2.kbs = s.kbs ∧ (answerReadPath s).2.thc = s.thc ∧
      (answerReadPath s).2.swc = s.swc ∧ (answerReadPath s).2.fsu = s.fsu ∧ (answerReadPath s).2.evr = s.evr ∧
      (answerReadPath s).2.hlk = s.hlk ∧ (answerReadPath s).2.sts = s.sts ∧
      (answerReadPath s).2.pending = s.pending := by
  simp only [answerReadPath]
  repeat' split
  all_goals simp

@[simp] theorem answerSetSourcePreference_frame (pref : Byte) (s : State) :
    (answerSetSourcePreference pref s).2.time = s.time ∧ (answerSetSourcePreference pref s).2.hsi = s.hsi ∧
      (answerSetSourcePreference pref s).2.psm = s.psm ∧ (answerSetSourcePreference pref s).2.fsu = s.fsu ∧
      (answerSetSourcePreference pref s).2.sts = s.sts ∧
      (answerSetSourcePreference pref s).2.pending = s.pending ∧
      (answerSetSourcePreference pref s).2.pth.adapter = s.pth.adapter ∧
      (answerSetSourcePreference pref s).2.pth.packA = s.pth.packA ∧
      (answerSetSourcePreference pref s).2.chc.order = s.chc.order ∧
      (answerSetSourcePreference pref s).2.chc.threshold = s.chc.threshold ∧
      (answerSetSourcePreference pref s).2.chc.openRow = s.chc.openRow ∧
      (answerSetSourcePreference pref s).2.chc.latches = s.chc.latches ∧
      (answerSetSourcePreference pref s).2.chc.table = s.chc.table ∧
      (answerSetSourcePreference pref s).2.plc.devices = s.plc.devices ∧
      (answerSetSourcePreference pref s).2.plc.pass = s.plc.pass ∧
      (answerSetSourcePreference pref s).2.plc.caught = s.plc.caught ∧
      (answerSetSourcePreference pref s).2.plc.result = s.plc.result ∧
      (answerSetSourcePreference pref s).2.kbs.settings = s.kbs.settings ∧
      (answerSetSourcePreference pref s).2.thc.holds = s.thc.holds ∧
      (answerSetSourcePreference pref s).2.thc.inputs = s.thc.inputs ∧
      (answerSetSourcePreference pref s).2.thc.floor = s.thc.floor ∧
      (answerSetSourcePreference pref s).2.thc.trip = s.thc.trip ∧
      (answerSetSourcePreference pref s).2.thc.curves = s.thc.curves ∧
      (answerSetSourcePreference pref s).2.swc.presses = s.swc.presses ∧
      (answerSetSourcePreference pref s).2.swc.settings = s.swc.settings ∧
      (answerSetSourcePreference pref s).2.swc.wakeTimer = s.swc.wakeTimer ∧
      (answerSetSourcePreference pref s).2.evr.routes = s.evr.routes ∧
      (answerSetSourcePreference pref s).2.hlk.queue = s.hlk.queue ∧
      (answerSetSourcePreference pref s).2.hlk.resetPending = s.hlk.resetPending ∧
      (answerSetSourcePreference pref s).2.hlk.rx = s.hlk.rx ∧
      (answerSetSourcePreference pref s).2.hlk.series = s.hlk.series ∧
      (answerSetSourcePreference pref s).2.hlk.held = s.hlk.held := by
  simp only [answerSetSourcePreference]
  repeat' split
  all_goals simp

@[simp] theorem answerSetAdapterLimit_frame (limit : BitVec 32) (s : State) :
    (answerSetAdapterLimit limit s).2.time = s.time ∧ (answerSetAdapterLimit limit s).2.chc = s.chc ∧
      (answerSetAdapterLimit limit s).2.bga = s.bga ∧ (answerSetAdapterLimit limit s).2.plc = s.plc ∧
      (answerSetAdapterLimit limit s).2.hsi = s.hsi ∧ (answerSetAdapterLimit limit s).2.psm = s.psm ∧
      (answerSetAdapterLimit limit s).2.kbs = s.kbs ∧ (answerSetAdapterLimit limit s).2.thc = s.thc ∧
      (answerSetAdapterLimit limit s).2.swc = s.swc ∧ (answerSetAdapterLimit limit s).2.fsu = s.fsu ∧
      (answerSetAdapterLimit limit s).2.evr = s.evr ∧ (answerSetAdapterLimit limit s).2.hlk = s.hlk ∧
      (answerSetAdapterLimit limit s).2.sts = s.sts ∧ (answerSetAdapterLimit limit s).2.pending = s.pending ∧
      (answerSetAdapterLimit limit s).2.pth.path = s.pth.path ∧
      (answerSetAdapterLimit limit s).2.pth.swAdp = s.pth.swAdp ∧
      (answerSetAdapterLimit limit s).2.pth.swPa = s.pth.swPa ∧
      (answerSetAdapterLimit limit s).2.pth.swPb = s.pth.swPb ∧
      (answerSetAdapterLimit limit s).2.pth.packA = s.pth.packA ∧
      (answerSetAdapterLimit limit s).2.pth.packB = s.pth.packB ∧
      (answerSetAdapterLimit limit s).2.pth.preference = s.pth.preference ∧
      (answerSetAdapterLimit limit s).2.pth.ejectOk = s.pth.ejectOk ∧
      (answerSetAdapterLimit limit s).2.pth.ejectWindow = s.pth.ejectWindow := by
  simp only [answerSetAdapterLimit]
  repeat' split
  all_goals simp

@[simp] theorem ejectInUse_frame (s : State) :
    (ejectInUse s).time = s.time ∧ (ejectInUse s).hsi = s.hsi ∧ (ejectInUse s).psm = s.psm ∧
      (ejectInUse s).fsu = s.fsu ∧ (ejectInUse s).sts = s.sts ∧ (ejectInUse s).pending = s.pending ∧
      (ejectInUse s).pth.adapter = s.pth.adapter ∧ (ejectInUse s).pth.packA = s.pth.packA ∧
      (ejectInUse s).pth.preference = s.pth.preference ∧ (ejectInUse s).chc.order = s.chc.order ∧
      (ejectInUse s).chc.threshold = s.chc.threshold ∧ (ejectInUse s).chc.openRow = s.chc.openRow ∧
      (ejectInUse s).chc.latches = s.chc.latches ∧ (ejectInUse s).chc.table = s.chc.table ∧
      (ejectInUse s).plc.devices = s.plc.devices ∧ (ejectInUse s).plc.pass = s.plc.pass ∧
      (ejectInUse s).plc.caught = s.plc.caught ∧ (ejectInUse s).plc.result = s.plc.result ∧
      (ejectInUse s).kbs.settings = s.kbs.settings ∧ (ejectInUse s).thc.holds = s.thc.holds ∧
      (ejectInUse s).thc.inputs = s.thc.inputs ∧ (ejectInUse s).thc.floor = s.thc.floor ∧
      (ejectInUse s).thc.trip = s.thc.trip ∧ (ejectInUse s).thc.curves = s.thc.curves ∧
      (ejectInUse s).swc.presses = s.swc.presses ∧ (ejectInUse s).swc.settings = s.swc.settings ∧
      (ejectInUse s).swc.wakeTimer = s.swc.wakeTimer ∧ (ejectInUse s).evr.routes = s.evr.routes ∧
      (ejectInUse s).hlk.queue = s.hlk.queue ∧ (ejectInUse s).hlk.resetPending = s.hlk.resetPending ∧
      (ejectInUse s).hlk.rx = s.hlk.rx ∧ (ejectInUse s).hlk.series = s.hlk.series ∧
      (ejectInUse s).hlk.held = s.hlk.held := by
  simp only [ejectInUse]
  repeat' split
  all_goals simp

@[simp] theorem answerPrepareEject_frame (pack : Byte) (s : State) :
    (answerPrepareEject pack s).2.time = s.time ∧ (answerPrepareEject pack s).2.hsi = s.hsi ∧
      (answerPrepareEject pack s).2.psm = s.psm ∧ (answerPrepareEject pack s).2.fsu = s.fsu ∧
      (answerPrepareEject pack s).2.sts = s.sts ∧ (answerPrepareEject pack s).2.pending = s.pending ∧
      (answerPrepareEject pack s).2.pth.adapter = s.pth.adapter ∧
      (answerPrepareEject pack s).2.pth.preference = s.pth.preference ∧
      (answerPrepareEject pack s).2.chc.order = s.chc.order ∧
      (answerPrepareEject pack s).2.chc.threshold = s.chc.threshold ∧
      (answerPrepareEject pack s).2.chc.openRow = s.chc.openRow ∧
      (answerPrepareEject pack s).2.chc.latches = s.chc.latches ∧
      (answerPrepareEject pack s).2.chc.table = s.chc.table ∧
      (answerPrepareEject pack s).2.plc.devices = s.plc.devices ∧
      (answerPrepareEject pack s).2.plc.pass = s.plc.pass ∧
      (answerPrepareEject pack s).2.plc.caught = s.plc.caught ∧
      (answerPrepareEject pack s).2.plc.result = s.plc.result ∧
      (answerPrepareEject pack s).2.kbs.settings = s.kbs.settings ∧
      (answerPrepareEject pack s).2.thc.holds = s.thc.holds ∧
      (answerPrepareEject pack s).2.thc.inputs = s.thc.inputs ∧
      (answerPrepareEject pack s).2.thc.floor = s.thc.floor ∧
      (answerPrepareEject pack s).2.thc.trip = s.thc.trip ∧
      (answerPrepareEject pack s).2.thc.curves = s.thc.curves ∧
      (answerPrepareEject pack s).2.swc.presses = s.swc.presses ∧
      (answerPrepareEject pack s).2.swc.settings = s.swc.settings ∧
      (answerPrepareEject pack s).2.swc.wakeTimer = s.swc.wakeTimer ∧
      (answerPrepareEject pack s).2.evr.routes = s.evr.routes ∧
      (answerPrepareEject pack s).2.hlk.queue = s.hlk.queue ∧
      (answerPrepareEject pack s).2.hlk.resetPending = s.hlk.resetPending ∧
      (answerPrepareEject pack s).2.hlk.rx = s.hlk.rx ∧
      (answerPrepareEject pack s).2.hlk.series = s.hlk.series ∧
      (answerPrepareEject pack s).2.hlk.held = s.hlk.held := by
  simp only [answerPrepareEject]
  repeat' split
  all_goals simp

@[simp] theorem answerCancelEject_frame (s : State) :
    (answerCancelEject s).2.time = s.time ∧ (answerCancelEject s).2.hsi = s.hsi ∧
      (answerCancelEject s).2.psm = s.psm ∧ (answerCancelEject s).2.fsu = s.fsu ∧
      (answerCancelEject s).2.sts = s.sts ∧ (answerCancelEject s).2.pending = s.pending ∧
      (answerCancelEject s).2.pth.adapter = s.pth.adapter ∧
      (answerCancelEject s).2.pth.preference = s.pth.preference ∧
      (answerCancelEject s).2.chc.order = s.chc.order ∧
      (answerCancelEject s).2.chc.threshold = s.chc.threshold ∧
      (answerCancelEject s).2.chc.openRow = s.chc.openRow ∧
      (answerCancelEject s).2.chc.latches = s.chc.latches ∧ (answerCancelEject s).2.chc.table = s.chc.table ∧
      (answerCancelEject s).2.plc.devices = s.plc.devices ∧ (answerCancelEject s).2.plc.pass = s.plc.pass ∧
      (answerCancelEject s).2.plc.caught = s.plc.caught ∧ (answerCancelEject s).2.plc.result = s.plc.result ∧
      (answerCancelEject s).2.kbs.settings = s.kbs.settings ∧ (answerCancelEject s).2.thc.holds = s.thc.holds ∧
      (answerCancelEject s).2.thc.inputs = s.thc.inputs ∧ (answerCancelEject s).2.thc.floor = s.thc.floor ∧
      (answerCancelEject s).2.thc.trip = s.thc.trip ∧ (answerCancelEject s).2.thc.curves = s.thc.curves ∧
      (answerCancelEject s).2.swc.presses = s.swc.presses ∧
      (answerCancelEject s).2.swc.settings = s.swc.settings ∧
      (answerCancelEject s).2.swc.wakeTimer = s.swc.wakeTimer ∧
      (answerCancelEject s).2.evr.routes = s.evr.routes ∧ (answerCancelEject s).2.hlk.queue = s.hlk.queue ∧
      (answerCancelEject s).2.hlk.resetPending = s.hlk.resetPending ∧
      (answerCancelEject s).2.hlk.rx = s.hlk.rx ∧ (answerCancelEject s).2.hlk.series = s.hlk.series ∧
      (answerCancelEject s).2.hlk.held = s.hlk.held := by
  simp only [answerCancelEject]
  repeat' split
  all_goals simp

@[simp] theorem qualifyAdapter_frame (s : State) :
    (qualifyAdapter s).time = s.time ∧ (qualifyAdapter s).hsi = s.hsi ∧ (qualifyAdapter s).psm = s.psm ∧
      (qualifyAdapter s).fsu = s.fsu ∧ (qualifyAdapter s).sts = s.sts ∧ (qualifyAdapter s).pending = s.pending ∧
      (qualifyAdapter s).pth.packA = s.pth.packA ∧ (qualifyAdapter s).pth.preference = s.pth.preference ∧
      (qualifyAdapter s).chc.order = s.chc.order ∧ (qualifyAdapter s).chc.threshold = s.chc.threshold ∧
      (qualifyAdapter s).chc.openRow = s.chc.openRow ∧ (qualifyAdapter s).chc.latches = s.chc.latches ∧
      (qualifyAdapter s).chc.table = s.chc.table ∧ (qualifyAdapter s).plc.devices = s.plc.devices ∧
      (qualifyAdapter s).plc.pass = s.plc.pass ∧ (qualifyAdapter s).plc.caught = s.plc.caught ∧
      (qualifyAdapter s).plc.result = s.plc.result ∧ (qualifyAdapter s).kbs.settings = s.kbs.settings ∧
      (qualifyAdapter s).thc.holds = s.thc.holds ∧ (qualifyAdapter s).thc.inputs = s.thc.inputs ∧
      (qualifyAdapter s).thc.floor = s.thc.floor ∧ (qualifyAdapter s).thc.trip = s.thc.trip ∧
      (qualifyAdapter s).thc.curves = s.thc.curves ∧ (qualifyAdapter s).swc.presses = s.swc.presses ∧
      (qualifyAdapter s).swc.settings = s.swc.settings ∧ (qualifyAdapter s).swc.wakeTimer = s.swc.wakeTimer ∧
      (qualifyAdapter s).evr.routes = s.evr.routes ∧ (qualifyAdapter s).hlk.queue = s.hlk.queue ∧
      (qualifyAdapter s).hlk.resetPending = s.hlk.resetPending ∧ (qualifyAdapter s).hlk.rx = s.hlk.rx ∧
      (qualifyAdapter s).hlk.series = s.hlk.series ∧ (qualifyAdapter s).hlk.held = s.hlk.held := by
  simp only [qualifyAdapter]
  repeat' split
  all_goals simp

@[simp] theorem insertPack_frame (p : PackId) (s : State) :
    (insertPack p s).time = s.time ∧ (insertPack p s).chc = s.chc ∧ (insertPack p s).bga = s.bga ∧
      (insertPack p s).hsi = s.hsi ∧ (insertPack p s).psm = s.psm ∧ (insertPack p s).fsu = s.fsu ∧
      (insertPack p s).sts = s.sts ∧ (insertPack p s).pending = s.pending ∧
      (insertPack p s).pth.path = s.pth.path ∧ (insertPack p s).pth.swAdp = s.pth.swAdp ∧
      (insertPack p s).pth.swPa = s.pth.swPa ∧ (insertPack p s).pth.swPb = s.pth.swPb ∧
      (insertPack p s).pth.adapter = s.pth.adapter ∧ (insertPack p s).pth.preference = s.pth.preference ∧
      (insertPack p s).pth.ejectOk = s.pth.ejectOk ∧ (insertPack p s).pth.ejectWindow = s.pth.ejectWindow ∧
      (insertPack p s).plc.devices = s.plc.devices ∧ (insertPack p s).plc.pass = s.plc.pass ∧
      (insertPack p s).plc.caught = s.plc.caught ∧ (insertPack p s).plc.result = s.plc.result ∧
      (insertPack p s).kbs.settings = s.kbs.settings ∧ (insertPack p s).thc.holds = s.thc.holds ∧
      (insertPack p s).thc.inputs = s.thc.inputs ∧ (insertPack p s).thc.floor = s.thc.floor ∧
      (insertPack p s).thc.trip = s.thc.trip ∧ (insertPack p s).thc.curves = s.thc.curves ∧
      (insertPack p s).swc.presses = s.swc.presses ∧ (insertPack p s).swc.settings = s.swc.settings ∧
      (insertPack p s).swc.wakeTimer = s.swc.wakeTimer ∧ (insertPack p s).evr.routes = s.evr.routes ∧
      (insertPack p s).hlk.queue = s.hlk.queue ∧ (insertPack p s).hlk.resetPending = s.hlk.resetPending ∧
      (insertPack p s).hlk.rx = s.hlk.rx ∧ (insertPack p s).hlk.series = s.hlk.series ∧
      (insertPack p s).hlk.held = s.hlk.held := by
  simp only [insertPack]
  repeat' split
  all_goals simp

@[simp] theorem answerReadCharge_frame (s : State) :
    (answerReadCharge s).2.time = s.time ∧ (answerReadCharge s).2.pth = s.pth ∧
      (answerReadCharge s).2.chc = s.chc ∧ (answerReadCharge s).2.bga = s.bga ∧
      (answerReadCharge s).2.plc = s.plc ∧ (answerReadCharge s).2.hsi = s.hsi ∧
      (answerReadCharge s).2.psm = s.psm ∧ (answerReadCharge s).2.kbs = s.kbs ∧
      (answerReadCharge s).2.thc = s.thc ∧ (answerReadCharge s).2.swc = s.swc ∧
      (answerReadCharge s).2.fsu = s.fsu ∧ (answerReadCharge s).2.evr = s.evr ∧
      (answerReadCharge s).2.hlk = s.hlk ∧ (answerReadCharge s).2.sts = s.sts ∧
      (answerReadCharge s).2.pending = s.pending := by
  simp only [answerReadCharge]
  repeat' split
  all_goals simp

@[simp] theorem answerOpenProfileRow_frame (row : Byte) (s : State) :
    (answerOpenProfileRow row s).2.time = s.time ∧ (answerOpenProfileRow row s).2.pth = s.pth ∧
      (answerOpenProfileRow row s).2.bga = s.bga ∧ (answerOpenProfileRow row s).2.plc = s.plc ∧
      (answerOpenProfileRow row s).2.hsi = s.hsi ∧ (answerOpenProfileRow row s).2.psm = s.psm ∧
      (answerOpenProfileRow row s).2.kbs = s.kbs ∧ (answerOpenProfileRow row s).2.thc = s.thc ∧
      (answerOpenProfileRow row s).2.swc = s.swc ∧ (answerOpenProfileRow row s).2.fsu = s.fsu ∧
      (answerOpenProfileRow row s).2.evr = s.evr ∧ (answerOpenProfileRow row s).2.hlk = s.hlk ∧
      (answerOpenProfileRow row s).2.sts = s.sts ∧ (answerOpenProfileRow row s).2.pending = s.pending ∧
      (answerOpenProfileRow row s).2.chc.order = s.chc.order ∧
      (answerOpenProfileRow row s).2.chc.threshold = s.chc.threshold ∧
      (answerOpenProfileRow row s).2.chc.table = s.chc.table := by
  simp only [answerOpenProfileRow]
  repeat' split
  all_goals simp

@[simp] theorem answerStageProfileEntry_frame (slot : Byte) (entry : RawEntry) (s : State) :
    (answerStageProfileEntry slot entry s).2.time = s.time ∧
      (answerStageProfileEntry slot entry s).2.pth = s.pth ∧
      (answerStageProfileEntry slot entry s).2.bga = s.bga ∧
      (answerStageProfileEntry slot entry s).2.plc = s.plc ∧
      (answerStageProfileEntry slot entry s).2.hsi = s.hsi ∧
      (answerStageProfileEntry slot entry s).2.psm = s.psm ∧
      (answerStageProfileEntry slot entry s).2.kbs = s.kbs ∧
      (answerStageProfileEntry slot entry s).2.thc = s.thc ∧
      (answerStageProfileEntry slot entry s).2.swc = s.swc ∧
      (answerStageProfileEntry slot entry s).2.fsu = s.fsu ∧
      (answerStageProfileEntry slot entry s).2.evr = s.evr ∧
      (answerStageProfileEntry slot entry s).2.hlk = s.hlk ∧
      (answerStageProfileEntry slot entry s).2.sts = s.sts ∧
      (answerStageProfileEntry slot entry s).2.pending = s.pending ∧
      (answerStageProfileEntry slot entry s).2.chc.order = s.chc.order ∧
      (answerStageProfileEntry slot entry s).2.chc.threshold = s.chc.threshold ∧
      (answerStageProfileEntry slot entry s).2.chc.openRow = s.chc.openRow ∧
      (answerStageProfileEntry slot entry s).2.chc.table = s.chc.table := by
  simp only [answerStageProfileEntry]
  repeat' split
  all_goals simp

@[simp] theorem answerCommitProfile_frame (s : State) :
    (answerCommitProfile s).2.time = s.time ∧ (answerCommitProfile s).2.pth = s.pth ∧
      (answerCommitProfile s).2.bga = s.bga ∧ (answerCommitProfile s).2.plc = s.plc ∧
      (answerCommitProfile s).2.hsi = s.hsi ∧ (answerCommitProfile s).2.psm = s.psm ∧
      (answerCommitProfile s).2.kbs = s.kbs ∧ (answerCommitProfile s).2.thc = s.thc ∧
      (answerCommitProfile s).2.swc = s.swc ∧ (answerCommitProfile s).2.fsu = s.fsu ∧
      (answerCommitProfile s).2.evr = s.evr ∧ (answerCommitProfile s).2.hlk = s.hlk ∧
      (answerCommitProfile s).2.pending = s.pending ∧ (answerCommitProfile s).2.chc.order = s.chc.order ∧
      (answerCommitProfile s).2.chc.threshold = s.chc.threshold ∧
      (answerCommitProfile s).2.chc.openRow = s.chc.openRow ∧
      (answerCommitProfile s).2.chc.latches = s.chc.latches ∧ (answerCommitProfile s).2.chc.table = s.chc.table := by
  simp only [answerCommitProfile]
  repeat' split
  all_goals simp

@[simp] theorem answerCancelProfile_frame (s : State) :
    (answerCancelProfile s).2.time = s.time ∧ (answerCancelProfile s).2.pth = s.pth ∧
      (answerCancelProfile s).2.bga = s.bga ∧ (answerCancelProfile s).2.plc = s.plc ∧
      (answerCancelProfile s).2.hsi = s.hsi ∧ (answerCancelProfile s).2.psm = s.psm ∧
      (answerCancelProfile s).2.kbs = s.kbs ∧ (answerCancelProfile s).2.thc = s.thc ∧
      (answerCancelProfile s).2.swc = s.swc ∧ (answerCancelProfile s).2.fsu = s.fsu ∧
      (answerCancelProfile s).2.evr = s.evr ∧ (answerCancelProfile s).2.hlk = s.hlk ∧
      (answerCancelProfile s).2.sts = s.sts ∧ (answerCancelProfile s).2.pending = s.pending ∧
      (answerCancelProfile s).2.chc.order = s.chc.order ∧
      (answerCancelProfile s).2.chc.threshold = s.chc.threshold ∧
      (answerCancelProfile s).2.chc.table = s.chc.table := by
  simp only [answerCancelProfile]
  repeat' split
  all_goals simp

@[simp] theorem answerReadProfileEntry_frame (entry : Byte) (s : State) :
    (answerReadProfileEntry entry s).2.time = s.time ∧ (answerReadProfileEntry entry s).2.pth = s.pth ∧
      (answerReadProfileEntry entry s).2.chc = s.chc ∧ (answerReadProfileEntry entry s).2.bga = s.bga ∧
      (answerReadProfileEntry entry s).2.plc = s.plc ∧ (answerReadProfileEntry entry s).2.hsi = s.hsi ∧
      (answerReadProfileEntry entry s).2.psm = s.psm ∧ (answerReadProfileEntry entry s).2.kbs = s.kbs ∧
      (answerReadProfileEntry entry s).2.thc = s.thc ∧ (answerReadProfileEntry entry s).2.swc = s.swc ∧
      (answerReadProfileEntry entry s).2.fsu = s.fsu ∧ (answerReadProfileEntry entry s).2.evr = s.evr ∧
      (answerReadProfileEntry entry s).2.hlk = s.hlk ∧ (answerReadProfileEntry entry s).2.sts = s.sts ∧
      (answerReadProfileEntry entry s).2.pending = s.pending := by
  simp only [answerReadProfileEntry]
  repeat' split
  all_goals simp

@[simp] theorem storeDone_frame (row : Nat) (s : State) :
    (storeDone row s).time = s.time ∧ (storeDone row s).pth = s.pth ∧
      (storeDone row s).chc = s.chc ∧ (storeDone row s).bga = s.bga ∧
      (storeDone row s).plc = s.plc ∧ (storeDone row s).hsi = s.hsi ∧
      (storeDone row s).psm = s.psm ∧ (storeDone row s).kbs = s.kbs ∧
      (storeDone row s).thc = s.thc ∧ (storeDone row s).swc = s.swc ∧
      (storeDone row s).fsu = s.fsu ∧ (storeDone row s).sts = s.sts ∧
      (storeDone row s).pending = s.pending ∧ (storeDone row s).evr.routes = s.evr.routes ∧
      (storeDone row s).evr.button = s.evr.button ∧ (storeDone row s).evr.keys = s.evr.keys ∧
      (storeDone row s).evr.capture = s.evr.capture ∧
      (storeDone row s).evr.fault = s.evr.fault ∧ (storeDone row s).hlk.queue = s.hlk.queue ∧
      (storeDone row s).hlk.resetPending = s.hlk.resetPending ∧
      (storeDone row s).hlk.rx = s.hlk.rx ∧ (storeDone row s).hlk.series = s.hlk.series ∧
      (storeDone row s).hlk.held = s.hlk.held := by
  simp only [storeDone]
  repeat' split
  all_goals simp

@[simp] theorem commitDone_frame (row : Nat) (es : List ProfileEntry) (s : State) :
    (commitDone row es s).time = s.time ∧ (commitDone row es s).pth = s.pth ∧
      (commitDone row es s).bga = s.bga ∧ (commitDone row es s).hsi = s.hsi ∧
      (commitDone row es s).psm = s.psm ∧ (commitDone row es s).kbs = s.kbs ∧
      (commitDone row es s).thc = s.thc ∧ (commitDone row es s).swc = s.swc ∧
      (commitDone row es s).fsu = s.fsu ∧ (commitDone row es s).pending = s.pending ∧
      (commitDone row es s).chc.order = s.chc.order ∧ (commitDone row es s).chc.threshold = s.chc.threshold ∧
      (commitDone row es s).plc.devices = s.plc.devices ∧ (commitDone row es s).plc.pass = s.plc.pass ∧
      (commitDone row es s).plc.caught = s.plc.caught ∧ (commitDone row es s).plc.result = s.plc.result ∧
      (commitDone row es s).evr.routes = s.evr.routes ∧ (commitDone row es s).evr.button = s.evr.button ∧
      (commitDone row es s).evr.keys = s.evr.keys ∧ (commitDone row es s).evr.capture = s.evr.capture ∧
      (commitDone row es s).evr.fault = s.evr.fault ∧ (commitDone row es s).hlk.queue = s.hlk.queue ∧
      (commitDone row es s).hlk.resetPending = s.hlk.resetPending ∧ (commitDone row es s).hlk.rx = s.hlk.rx ∧
      (commitDone row es s).hlk.series = s.hlk.series ∧ (commitDone row es s).hlk.held = s.hlk.held := by
  simp only [commitDone]
  repeat' split
  all_goals simp

@[simp] theorem answerReadBudget_frame (s : State) :
    (answerReadBudget s).2.time = s.time ∧ (answerReadBudget s).2.pth = s.pth ∧
      (answerReadBudget s).2.chc = s.chc ∧ (answerReadBudget s).2.bga = s.bga ∧
      (answerReadBudget s).2.plc = s.plc ∧ (answerReadBudget s).2.hsi = s.hsi ∧
      (answerReadBudget s).2.psm = s.psm ∧ (answerReadBudget s).2.kbs = s.kbs ∧
      (answerReadBudget s).2.thc = s.thc ∧ (answerReadBudget s).2.swc = s.swc ∧
      (answerReadBudget s).2.fsu = s.fsu ∧ (answerReadBudget s).2.evr = s.evr ∧
      (answerReadBudget s).2.hlk = s.hlk ∧ (answerReadBudget s).2.sts = s.sts ∧
      (answerReadBudget s).2.pending = s.pending := by
  simp only [answerReadBudget]
  repeat' split
  all_goals simp

@[simp] theorem answerSetDischargeLimit_frame (pack : Byte) (limit : BitVec 32) (s : State) :
    (answerSetDischargeLimit pack limit s).2.time = s.time ∧
      (answerSetDischargeLimit pack limit s).2.pth = s.pth ∧
      (answerSetDischargeLimit pack limit s).2.chc = s.chc ∧
      (answerSetDischargeLimit pack limit s).2.plc = s.plc ∧
      (answerSetDischargeLimit pack limit s).2.hsi = s.hsi ∧
      (answerSetDischargeLimit pack limit s).2.psm = s.psm ∧
      (answerSetDischargeLimit pack limit s).2.kbs = s.kbs ∧
      (answerSetDischargeLimit pack limit s).2.thc = s.thc ∧
      (answerSetDischargeLimit pack limit s).2.swc = s.swc ∧
      (answerSetDischargeLimit pack limit s).2.fsu = s.fsu ∧
      (answerSetDischargeLimit pack limit s).2.evr = s.evr ∧
      (answerSetDischargeLimit pack limit s).2.hlk = s.hlk ∧
      (answerSetDischargeLimit pack limit s).2.sts = s.sts ∧
      (answerSetDischargeLimit pack limit s).2.pending = s.pending := by
  simp only [answerSetDischargeLimit]
  repeat' split
  all_goals simp

@[simp] theorem storeMeasurement_frame (mv : Nat) (ma : Nat) (s : State) :
    (storeMeasurement mv ma s).time = s.time ∧ (storeMeasurement mv ma s).chc = s.chc ∧
      (storeMeasurement mv ma s).plc = s.plc ∧ (storeMeasurement mv ma s).hsi = s.hsi ∧
      (storeMeasurement mv ma s).psm = s.psm ∧ (storeMeasurement mv ma s).kbs = s.kbs ∧
      (storeMeasurement mv ma s).thc = s.thc ∧ (storeMeasurement mv ma s).swc = s.swc ∧
      (storeMeasurement mv ma s).fsu = s.fsu ∧ (storeMeasurement mv ma s).evr = s.evr ∧
      (storeMeasurement mv ma s).hlk = s.hlk ∧ (storeMeasurement mv ma s).sts = s.sts ∧
      (storeMeasurement mv ma s).pending = s.pending ∧ (storeMeasurement mv ma s).pth.path = s.pth.path ∧
      (storeMeasurement mv ma s).pth.swAdp = s.pth.swAdp ∧ (storeMeasurement mv ma s).pth.swPa = s.pth.swPa ∧
      (storeMeasurement mv ma s).pth.swPb = s.pth.swPb ∧ (storeMeasurement mv ma s).pth.packA = s.pth.packA ∧
      (storeMeasurement mv ma s).pth.packB = s.pth.packB ∧
      (storeMeasurement mv ma s).pth.preference = s.pth.preference ∧
      (storeMeasurement mv ma s).pth.ejectOk = s.pth.ejectOk ∧
      (storeMeasurement mv ma s).pth.ejectWindow = s.pth.ejectWindow := by
  simp only [storeMeasurement]
  repeat' split
  all_goals simp

@[simp] theorem measure_frame (s : State) :
    (measure s).time = s.time ∧ (measure s).pth = s.pth ∧ (measure s).hsi = s.hsi ∧ (measure s).psm = s.psm ∧
      (measure s).kbs = s.kbs ∧ (measure s).thc = s.thc ∧ (measure s).swc = s.swc ∧ (measure s).fsu = s.fsu ∧
      (measure s).sts = s.sts ∧ (measure s).pending = s.pending ∧ (measure s).chc.order = s.chc.order ∧
      (measure s).chc.threshold = s.chc.threshold ∧ (measure s).chc.openRow = s.chc.openRow ∧
      (measure s).chc.latches = s.chc.latches ∧ (measure s).chc.table = s.chc.table ∧
      (measure s).plc.devices = s.plc.devices ∧ (measure s).plc.pass = s.plc.pass ∧
      (measure s).plc.caught = s.plc.caught ∧ (measure s).plc.result = s.plc.result ∧
      (measure s).evr.routes = s.evr.routes ∧ (measure s).evr.button = s.evr.button ∧
      (measure s).evr.keys = s.evr.keys ∧ (measure s).evr.capture = s.evr.capture ∧
      (measure s).evr.fault = s.evr.fault ∧ (measure s).hlk.queue = s.hlk.queue ∧
      (measure s).hlk.resetPending = s.hlk.resetPending ∧ (measure s).hlk.rx = s.hlk.rx ∧
      (measure s).hlk.series = s.hlk.series ∧ (measure s).hlk.held = s.hlk.held := by
  simp only [measure]
  repeat' split
  all_goals simp

@[simp] theorem answerSetLinkDevice_frame (entry : Byte) (segLen : Byte) (abort : Byte) (retry : Byte) (hold : Byte) (d : Option RawDefinable) (s : State) :
    (answerSetLinkDevice entry segLen abort retry hold d s).2.time = s.time ∧
      (answerSetLinkDevice entry segLen abort retry hold d s).2.pth = s.pth ∧
      (answerSetLinkDevice entry segLen abort retry hold d s).2.chc = s.chc ∧
      (answerSetLinkDevice entry segLen abort retry hold d s).2.bga = s.bga ∧
      (answerSetLinkDevice entry segLen abort retry hold d s).2.hsi = s.hsi ∧
      (answerSetLinkDevice entry segLen abort retry hold d s).2.psm = s.psm ∧
      (answerSetLinkDevice entry segLen abort retry hold d s).2.kbs = s.kbs ∧
      (answerSetLinkDevice entry segLen abort retry hold d s).2.thc = s.thc ∧
      (answerSetLinkDevice entry segLen abort retry hold d s).2.swc = s.swc ∧
      (answerSetLinkDevice entry segLen abort retry hold d s).2.fsu = s.fsu ∧
      (answerSetLinkDevice entry segLen abort retry hold d s).2.evr = s.evr ∧
      (answerSetLinkDevice entry segLen abort retry hold d s).2.hlk = s.hlk ∧
      (answerSetLinkDevice entry segLen abort retry hold d s).2.sts = s.sts ∧
      (answerSetLinkDevice entry segLen abort retry hold d s).2.pending = s.pending ∧
      (answerSetLinkDevice entry segLen abort retry hold d s).2.plc.pass = s.plc.pass ∧
      (answerSetLinkDevice entry segLen abort retry hold d s).2.plc.caught = s.plc.caught ∧
      (answerSetLinkDevice entry segLen abort retry hold d s).2.plc.result = s.plc.result ∧
      (answerSetLinkDevice entry segLen abort retry hold d s).2.plc.asked = s.plc.asked := by
  simp only [answerSetLinkDevice]
  repeat' split
  all_goals simp

@[simp] theorem answerLinkTransfer_frame (entry : Byte) (dir : Byte) (cmd : Byte) (len : Byte) (data : List Byte) (s : State) :
    (answerLinkTransfer entry dir cmd len data s).2.time = s.time ∧
      (answerLinkTransfer entry dir cmd len data s).2.pth = s.pth ∧
      (answerLinkTransfer entry dir cmd len data s).2.chc = s.chc ∧
      (answerLinkTransfer entry dir cmd len data s).2.bga = s.bga ∧
      (answerLinkTransfer entry dir cmd len data s).2.hsi = s.hsi ∧
      (answerLinkTransfer entry dir cmd len data s).2.psm = s.psm ∧
      (answerLinkTransfer entry dir cmd len data s).2.kbs = s.kbs ∧
      (answerLinkTransfer entry dir cmd len data s).2.thc = s.thc ∧
      (answerLinkTransfer entry dir cmd len data s).2.swc = s.swc ∧
      (answerLinkTransfer entry dir cmd len data s).2.fsu = s.fsu ∧
      (answerLinkTransfer entry dir cmd len data s).2.evr = s.evr ∧
      (answerLinkTransfer entry dir cmd len data s).2.hlk = s.hlk ∧
      (answerLinkTransfer entry dir cmd len data s).2.sts = s.sts ∧
      (answerLinkTransfer entry dir cmd len data s).2.pending = s.pending ∧
      (answerLinkTransfer entry dir cmd len data s).2.plc.devices = s.plc.devices ∧
      (answerLinkTransfer entry dir cmd len data s).2.plc.caught = s.plc.caught := by
  simp only [answerLinkTransfer]
  repeat' split
  all_goals simp

@[simp] theorem answerLinkResult_frame (s : State) :
    (answerLinkResult s).2.time = s.time ∧ (answerLinkResult s).2.pth = s.pth ∧
      (answerLinkResult s).2.chc = s.chc ∧ (answerLinkResult s).2.bga = s.bga ∧
      (answerLinkResult s).2.plc = s.plc ∧ (answerLinkResult s).2.hsi = s.hsi ∧
      (answerLinkResult s).2.psm = s.psm ∧ (answerLinkResult s).2.kbs = s.kbs ∧
      (answerLinkResult s).2.thc = s.thc ∧ (answerLinkResult s).2.swc = s.swc ∧
      (answerLinkResult s).2.fsu = s.fsu ∧ (answerLinkResult s).2.evr = s.evr ∧
      (answerLinkResult s).2.hlk = s.hlk ∧ (answerLinkResult s).2.sts = s.sts ∧
      (answerLinkResult s).2.pending = s.pending := by
  simp only [answerLinkResult]
  repeat' split
  all_goals simp

@[simp] theorem answerReadLinkStatus_frame (clear : Byte) (s : State) :
    (answerReadLinkStatus clear s).2.time = s.time ∧ (answerReadLinkStatus clear s).2.pth = s.pth ∧
      (answerReadLinkStatus clear s).2.chc = s.chc ∧ (answerReadLinkStatus clear s).2.bga = s.bga ∧
      (answerReadLinkStatus clear s).2.hsi = s.hsi ∧ (answerReadLinkStatus clear s).2.psm = s.psm ∧
      (answerReadLinkStatus clear s).2.kbs = s.kbs ∧ (answerReadLinkStatus clear s).2.thc = s.thc ∧
      (answerReadLinkStatus clear s).2.swc = s.swc ∧ (answerReadLinkStatus clear s).2.fsu = s.fsu ∧
      (answerReadLinkStatus clear s).2.evr = s.evr ∧ (answerReadLinkStatus clear s).2.hlk = s.hlk ∧
      (answerReadLinkStatus clear s).2.sts = s.sts ∧ (answerReadLinkStatus clear s).2.pending = s.pending ∧
      (answerReadLinkStatus clear s).2.plc.pass = s.plc.pass ∧
      (answerReadLinkStatus clear s).2.plc.caught = s.plc.caught ∧
      (answerReadLinkStatus clear s).2.plc.result = s.plc.result ∧
      (answerReadLinkStatus clear s).2.plc.asked = s.plc.asked := by
  simp only [answerReadLinkStatus]
  repeat' split
  all_goals simp

@[simp] theorem setLinkLines_frame (scl : Bool) (sda : Bool) (s : State) :
    (setLinkLines scl sda s).time = s.time ∧ (setLinkLines scl sda s).pth = s.pth ∧
      (setLinkLines scl sda s).chc = s.chc ∧ (setLinkLines scl sda s).bga = s.bga ∧
      (setLinkLines scl sda s).hsi = s.hsi ∧ (setLinkLines scl sda s).psm = s.psm ∧
      (setLinkLines scl sda s).kbs = s.kbs ∧ (setLinkLines scl sda s).thc = s.thc ∧
      (setLinkLines scl sda s).swc = s.swc ∧ (setLinkLines scl sda s).fsu = s.fsu ∧
      (setLinkLines scl sda s).evr = s.evr ∧ (setLinkLines scl sda s).hlk = s.hlk ∧
      (setLinkLines scl sda s).sts = s.sts ∧ (setLinkLines scl sda s).pending = s.pending ∧
      (setLinkLines scl sda s).plc.devices = s.plc.devices ∧ (setLinkLines scl sda s).plc.pass = s.plc.pass ∧
      (setLinkLines scl sda s).plc.caught = s.plc.caught ∧ (setLinkLines scl sda s).plc.result = s.plc.result ∧
      (setLinkLines scl sda s).plc.asked = s.plc.asked := by
  simp only [setLinkLines]
  repeat' split
  all_goals simp

@[simp] theorem endRecovery_frame (started : Bool) (w : OnWire) (scl : Bool) (sda : Bool) (s : State) :
    (endRecovery started w scl sda s).time = s.time ∧
      (endRecovery started w scl sda s).sts = s.sts ∧
      (endRecovery started w scl sda s).pending = s.pending ∧
      (endRecovery started w scl sda s).pth.adapter = s.pth.adapter ∧
      (endRecovery started w scl sda s).pth.preference = s.pth.preference ∧
      (endRecovery started w scl sda s).chc.order = s.chc.order ∧
      (endRecovery started w scl sda s).chc.threshold = s.chc.threshold ∧
      (endRecovery started w scl sda s).chc.openRow = s.chc.openRow ∧
      (endRecovery started w scl sda s).chc.latches = s.chc.latches ∧
      (endRecovery started w scl sda s).chc.table = s.chc.table ∧
      (endRecovery started w scl sda s).hsi.monitors = s.hsi.monitors ∧
      (endRecovery started w scl sda s).hsi.validity = s.hsi.validity ∧
      (endRecovery started w scl sda s).hsi.raw = s.hsi.raw ∧
      (endRecovery started w scl sda s).hsi.reported = s.hsi.reported ∧
      (endRecovery started w scl sda s).hsi.rejected = s.hsi.rejected ∧
      (endRecovery started w scl sda s).hsi.hysteresis = s.hsi.hysteresis ∧
      (endRecovery started w scl sda s).hsi.nominal = s.hsi.nominal ∧
      (endRecovery started w scl sda s).hsi.closedRef = s.hsi.closedRef ∧
      (endRecovery started w scl sda s).psm.lid = s.psm.lid ∧
      (endRecovery started w scl sda s).psm.tablet = s.psm.tablet ∧
      (endRecovery started w scl sda s).psm.conflict = s.psm.conflict ∧
      (endRecovery started w scl sda s).psm.settings = s.psm.settings ∧
      (endRecovery started w scl sda s).psm.evaluated = s.psm.evaluated ∧
      (endRecovery started w scl sda s).kbs.settings = s.kbs.settings ∧
      (endRecovery started w scl sda s).thc.holds = s.thc.holds ∧
      (endRecovery started w scl sda s).thc.floor = s.thc.floor ∧
      (endRecovery started w scl sda s).thc.trip = s.thc.trip ∧
      (endRecovery started w scl sda s).thc.curves = s.thc.curves ∧
      (endRecovery started w scl sda s).swc.presses = s.swc.presses ∧
      (endRecovery started w scl sda s).swc.settings = s.swc.settings ∧
      (endRecovery started w scl sda s).swc.wakeTimer = s.swc.wakeTimer ∧
      (endRecovery started w scl sda s).evr.routes = s.evr.routes ∧
      (endRecovery started w scl sda s).hlk.queue = s.hlk.queue ∧
      (endRecovery started w scl sda s).hlk.resetPending = s.hlk.resetPending ∧
      (endRecovery started w scl sda s).hlk.rx = s.hlk.rx ∧
      (endRecovery started w scl sda s).hlk.series = s.hlk.series ∧
      (endRecovery started w scl sda s).hlk.held = s.hlk.held := by
  simp only [endRecovery]
  repeat' split
  all_goals simp

@[simp] theorem answerReadAngle_frame (s : State) :
    (answerReadAngle s).2.time = s.time ∧ (answerReadAngle s).2.pth = s.pth ∧
      (answerReadAngle s).2.chc = s.chc ∧ (answerReadAngle s).2.bga = s.bga ∧
      (answerReadAngle s).2.plc = s.plc ∧ (answerReadAngle s).2.hsi = s.hsi ∧
      (answerReadAngle s).2.psm = s.psm ∧ (answerReadAngle s).2.kbs = s.kbs ∧
      (answerReadAngle s).2.thc = s.thc ∧ (answerReadAngle s).2.swc = s.swc ∧
      (answerReadAngle s).2.fsu = s.fsu ∧ (answerReadAngle s).2.evr = s.evr ∧
      (answerReadAngle s).2.hlk = s.hlk ∧ (answerReadAngle s).2.sts = s.sts ∧
      (answerReadAngle s).2.pending = s.pending := by
  simp only [answerReadAngle]
  repeat' split
  all_goals simp

@[simp] theorem answerCaptureAngle_frame (s : State) :
    (answerCaptureAngle s).2.time = s.time ∧ (answerCaptureAngle s).2.pth = s.pth ∧
      (answerCaptureAngle s).2.chc = s.chc ∧ (answerCaptureAngle s).2.bga = s.bga ∧
      (answerCaptureAngle s).2.plc = s.plc ∧ (answerCaptureAngle s).2.psm = s.psm ∧
      (answerCaptureAngle s).2.kbs = s.kbs ∧ (answerCaptureAngle s).2.thc = s.thc ∧
      (answerCaptureAngle s).2.swc = s.swc ∧ (answerCaptureAngle s).2.fsu = s.fsu ∧
      (answerCaptureAngle s).2.sts = s.sts ∧ (answerCaptureAngle s).2.pending = s.pending ∧
      (answerCaptureAngle s).2.hsi.monitors = s.hsi.monitors ∧
      (answerCaptureAngle s).2.hsi.validity = s.hsi.validity ∧ (answerCaptureAngle s).2.hsi.raw = s.hsi.raw ∧
      (answerCaptureAngle s).2.hsi.reported = s.hsi.reported ∧
      (answerCaptureAngle s).2.hsi.rejected = s.hsi.rejected ∧
      (answerCaptureAngle s).2.hsi.hysteresis = s.hsi.hysteresis ∧
      (answerCaptureAngle s).2.hsi.nominal = s.hsi.nominal ∧
      (answerCaptureAngle s).2.hsi.closedRef = s.hsi.closedRef ∧
      (answerCaptureAngle s).2.evr.routes = s.evr.routes ∧ (answerCaptureAngle s).2.hlk.queue = s.hlk.queue ∧
      (answerCaptureAngle s).2.hlk.resetPending = s.hlk.resetPending ∧
      (answerCaptureAngle s).2.hlk.rx = s.hlk.rx ∧ (answerCaptureAngle s).2.hlk.series = s.hlk.series ∧
      (answerCaptureAngle s).2.hlk.held = s.hlk.held := by
  simp only [answerCaptureAngle]
  repeat' split
  all_goals simp

@[simp] theorem answerReadCapture_frame (s : State) :
    (answerReadCapture s).2.time = s.time ∧ (answerReadCapture s).2.pth = s.pth ∧
      (answerReadCapture s).2.chc = s.chc ∧ (answerReadCapture s).2.bga = s.bga ∧
      (answerReadCapture s).2.plc = s.plc ∧ (answerReadCapture s).2.psm = s.psm ∧
      (answerReadCapture s).2.kbs = s.kbs ∧ (answerReadCapture s).2.thc = s.thc ∧
      (answerReadCapture s).2.swc = s.swc ∧ (answerReadCapture s).2.fsu = s.fsu ∧
      (answerReadCapture s).2.sts = s.sts ∧ (answerReadCapture s).2.pending = s.pending ∧
      (answerReadCapture s).2.hsi.monitors = s.hsi.monitors ∧
      (answerReadCapture s).2.hsi.validity = s.hsi.validity ∧ (answerReadCapture s).2.hsi.raw = s.hsi.raw ∧
      (answerReadCapture s).2.hsi.reported = s.hsi.reported ∧
      (answerReadCapture s).2.hsi.rejected = s.hsi.rejected ∧
      (answerReadCapture s).2.hsi.hysteresis = s.hsi.hysteresis ∧
      (answerReadCapture s).2.hsi.nominal = s.hsi.nominal ∧
      (answerReadCapture s).2.hsi.closedRef = s.hsi.closedRef ∧
      (answerReadCapture s).2.evr.routes = s.evr.routes ∧ (answerReadCapture s).2.hlk.queue = s.hlk.queue ∧
      (answerReadCapture s).2.hlk.resetPending = s.hlk.resetPending ∧
      (answerReadCapture s).2.hlk.rx = s.hlk.rx ∧ (answerReadCapture s).2.hlk.series = s.hlk.series ∧
      (answerReadCapture s).2.hlk.held = s.hlk.held := by
  simp only [answerReadCapture]
  repeat' split
  all_goals simp

@[simp] theorem answerSetHingeMonitor_frame (vl : RawEnable) (cl : RawEnable) (sp : RawEnable) (ci : RawEnable) (gl : RawEnable) (ol : RawEnable) (hyst : Byte) (nominal : BitVec 16) (s : State) :
    (answerSetHingeMonitor vl cl sp ci gl ol hyst nominal s).2.time = s.time ∧
      (answerSetHingeMonitor vl cl sp ci gl ol hyst nominal s).2.pth = s.pth ∧
      (answerSetHingeMonitor vl cl sp ci gl ol hyst nominal s).2.chc = s.chc ∧
      (answerSetHingeMonitor vl cl sp ci gl ol hyst nominal s).2.bga = s.bga ∧
      (answerSetHingeMonitor vl cl sp ci gl ol hyst nominal s).2.fsu = s.fsu ∧
      (answerSetHingeMonitor vl cl sp ci gl ol hyst nominal s).2.sts = s.sts ∧
      (answerSetHingeMonitor vl cl sp ci gl ol hyst nominal s).2.pending = s.pending ∧
      (answerSetHingeMonitor vl cl sp ci gl ol hyst nominal s).2.plc.devices = s.plc.devices ∧
      (answerSetHingeMonitor vl cl sp ci gl ol hyst nominal s).2.plc.pass = s.plc.pass ∧
      (answerSetHingeMonitor vl cl sp ci gl ol hyst nominal s).2.plc.caught = s.plc.caught ∧
      (answerSetHingeMonitor vl cl sp ci gl ol hyst nominal s).2.plc.result = s.plc.result ∧
      (answerSetHingeMonitor vl cl sp ci gl ol hyst nominal s).2.hsi.raw = s.hsi.raw ∧
      (answerSetHingeMonitor vl cl sp ci gl ol hyst nominal s).2.hsi.reported = s.hsi.reported ∧
      (answerSetHingeMonitor vl cl sp ci gl ol hyst nominal s).2.hsi.rejected = s.hsi.rejected ∧
      (answerSetHingeMonitor vl cl sp ci gl ol hyst nominal s).2.hsi.closedRef = s.hsi.closedRef ∧
      (answerSetHingeMonitor vl cl sp ci gl ol hyst nominal s).2.psm.lid = s.psm.lid ∧
      (answerSetHingeMonitor vl cl sp ci gl ol hyst nominal s).2.psm.tablet = s.psm.tablet ∧
      (answerSetHingeMonitor vl cl sp ci gl ol hyst nominal s).2.psm.conflict = s.psm.conflict ∧
      (answerSetHingeMonitor vl cl sp ci gl ol hyst nominal s).2.psm.settings = s.psm.settings ∧
      (answerSetHingeMonitor vl cl sp ci gl ol hyst nominal s).2.psm.evaluated = s.psm.evaluated ∧
      (answerSetHingeMonitor vl cl sp ci gl ol hyst nominal s).2.kbs.settings = s.kbs.settings ∧
      (answerSetHingeMonitor vl cl sp ci gl ol hyst nominal s).2.thc.holds = s.thc.holds ∧
      (answerSetHingeMonitor vl cl sp ci gl ol hyst nominal s).2.thc.inputs = s.thc.inputs ∧
      (answerSetHingeMonitor vl cl sp ci gl ol hyst nominal s).2.thc.floor = s.thc.floor ∧
      (answerSetHingeMonitor vl cl sp ci gl ol hyst nominal s).2.thc.trip = s.thc.trip ∧
      (answerSetHingeMonitor vl cl sp ci gl ol hyst nominal s).2.thc.curves = s.thc.curves ∧
      (answerSetHingeMonitor vl cl sp ci gl ol hyst nominal s).2.swc.presses = s.swc.presses ∧
      (answerSetHingeMonitor vl cl sp ci gl ol hyst nominal s).2.swc.settings = s.swc.settings ∧
      (answerSetHingeMonitor vl cl sp ci gl ol hyst nominal s).2.swc.wakeTimer = s.swc.wakeTimer ∧
      (answerSetHingeMonitor vl cl sp ci gl ol hyst nominal s).2.evr.routes = s.evr.routes ∧
      (answerSetHingeMonitor vl cl sp ci gl ol hyst nominal s).2.hlk.queue = s.hlk.queue ∧
      (answerSetHingeMonitor vl cl sp ci gl ol hyst nominal s).2.hlk.resetPending = s.hlk.resetPending ∧
      (answerSetHingeMonitor vl cl sp ci gl ol hyst nominal s).2.hlk.rx = s.hlk.rx ∧
      (answerSetHingeMonitor vl cl sp ci gl ol hyst nominal s).2.hlk.series = s.hlk.series ∧
      (answerSetHingeMonitor vl cl sp ci gl ol hyst nominal s).2.hlk.held = s.hlk.held := by
  simp only [answerSetHingeMonitor]
  repeat' split
  all_goals simp

@[simp] theorem clearSource_frame (x : HingeSource) (s : State) :
    (clearSource x s).time = s.time ∧ (clearSource x s).pth = s.pth ∧ (clearSource x s).chc = s.chc ∧
      (clearSource x s).bga = s.bga ∧ (clearSource x s).plc = s.plc ∧ (clearSource x s).psm = s.psm ∧
      (clearSource x s).kbs = s.kbs ∧ (clearSource x s).thc = s.thc ∧ (clearSource x s).swc = s.swc ∧
      (clearSource x s).fsu = s.fsu ∧ (clearSource x s).evr = s.evr ∧ (clearSource x s).hlk = s.hlk ∧
      (clearSource x s).sts = s.sts ∧ (clearSource x s).pending = s.pending ∧
      (clearSource x s).hsi.validity = s.hsi.validity ∧ (clearSource x s).hsi.captures = s.hsi.captures ∧
      (clearSource x s).hsi.raw = s.hsi.raw ∧ (clearSource x s).hsi.reported = s.hsi.reported ∧
      (clearSource x s).hsi.rejected = s.hsi.rejected ∧ (clearSource x s).hsi.hysteresis = s.hsi.hysteresis ∧
      (clearSource x s).hsi.nominal = s.hsi.nominal ∧ (clearSource x s).hsi.lost = s.hsi.lost ∧
      (clearSource x s).hsi.closedRef = s.hsi.closedRef := by
  simp only [clearSource]
  repeat' split
  all_goals simp

@[simp] theorem clearErrors_frame (s : State) :
    (clearErrors s).time = s.time ∧ (clearErrors s).pth = s.pth ∧ (clearErrors s).chc = s.chc ∧
      (clearErrors s).bga = s.bga ∧ (clearErrors s).fsu = s.fsu ∧ (clearErrors s).sts = s.sts ∧
      (clearErrors s).pending = s.pending ∧ (clearErrors s).plc.devices = s.plc.devices ∧
      (clearErrors s).plc.pass = s.plc.pass ∧ (clearErrors s).plc.caught = s.plc.caught ∧
      (clearErrors s).plc.result = s.plc.result ∧ (clearErrors s).hsi.raw = s.hsi.raw ∧
      (clearErrors s).hsi.reported = s.hsi.reported ∧ (clearErrors s).hsi.rejected = s.hsi.rejected ∧
      (clearErrors s).hsi.hysteresis = s.hsi.hysteresis ∧ (clearErrors s).hsi.nominal = s.hsi.nominal ∧
      (clearErrors s).hsi.closedRef = s.hsi.closedRef ∧ (clearErrors s).psm.lid = s.psm.lid ∧
      (clearErrors s).psm.tablet = s.psm.tablet ∧ (clearErrors s).psm.conflict = s.psm.conflict ∧
      (clearErrors s).psm.settings = s.psm.settings ∧ (clearErrors s).psm.evaluated = s.psm.evaluated ∧
      (clearErrors s).kbs.settings = s.kbs.settings ∧ (clearErrors s).thc.holds = s.thc.holds ∧
      (clearErrors s).thc.inputs = s.thc.inputs ∧ (clearErrors s).thc.floor = s.thc.floor ∧
      (clearErrors s).thc.trip = s.thc.trip ∧ (clearErrors s).thc.curves = s.thc.curves ∧
      (clearErrors s).swc.presses = s.swc.presses ∧ (clearErrors s).swc.settings = s.swc.settings ∧
      (clearErrors s).swc.wakeTimer = s.swc.wakeTimer ∧ (clearErrors s).evr.routes = s.evr.routes ∧
      (clearErrors s).hlk.queue = s.hlk.queue ∧ (clearErrors s).hlk.resetPending = s.hlk.resetPending ∧
      (clearErrors s).hlk.rx = s.hlk.rx ∧ (clearErrors s).hlk.series = s.hlk.series ∧
      (clearErrors s).hlk.held = s.hlk.held := by
  simp only [clearErrors]
  repeat' split
  all_goals simp

@[simp] theorem answerClearHingeErrors_frame (s : State) :
    (answerClearHingeErrors s).2.time = s.time ∧ (answerClearHingeErrors s).2.pth = s.pth ∧
      (answerClearHingeErrors s).2.chc = s.chc ∧ (answerClearHingeErrors s).2.bga = s.bga ∧
      (answerClearHingeErrors s).2.fsu = s.fsu ∧ (answerClearHingeErrors s).2.sts = s.sts ∧
      (answerClearHingeErrors s).2.pending = s.pending ∧
      (answerClearHingeErrors s).2.plc.devices = s.plc.devices ∧
      (answerClearHingeErrors s).2.plc.pass = s.plc.pass ∧
      (answerClearHingeErrors s).2.plc.caught = s.plc.caught ∧
      (answerClearHingeErrors s).2.plc.result = s.plc.result ∧
      (answerClearHingeErrors s).2.hsi.raw = s.hsi.raw ∧
      (answerClearHingeErrors s).2.hsi.reported = s.hsi.reported ∧
      (answerClearHingeErrors s).2.hsi.rejected = s.hsi.rejected ∧
      (answerClearHingeErrors s).2.hsi.hysteresis = s.hsi.hysteresis ∧
      (answerClearHingeErrors s).2.hsi.nominal = s.hsi.nominal ∧
      (answerClearHingeErrors s).2.hsi.closedRef = s.hsi.closedRef ∧
      (answerClearHingeErrors s).2.psm.lid = s.psm.lid ∧
      (answerClearHingeErrors s).2.psm.tablet = s.psm.tablet ∧
      (answerClearHingeErrors s).2.psm.conflict = s.psm.conflict ∧
      (answerClearHingeErrors s).2.psm.settings = s.psm.settings ∧
      (answerClearHingeErrors s).2.psm.evaluated = s.psm.evaluated ∧
      (answerClearHingeErrors s).2.kbs.settings = s.kbs.settings ∧
      (answerClearHingeErrors s).2.thc.holds = s.thc.holds ∧
      (answerClearHingeErrors s).2.thc.inputs = s.thc.inputs ∧
      (answerClearHingeErrors s).2.thc.floor = s.thc.floor ∧
      (answerClearHingeErrors s).2.thc.trip = s.thc.trip ∧
      (answerClearHingeErrors s).2.thc.curves = s.thc.curves ∧
      (answerClearHingeErrors s).2.swc.presses = s.swc.presses ∧
      (answerClearHingeErrors s).2.swc.settings = s.swc.settings ∧
      (answerClearHingeErrors s).2.swc.wakeTimer = s.swc.wakeTimer ∧
      (answerClearHingeErrors s).2.evr.routes = s.evr.routes ∧
      (answerClearHingeErrors s).2.hlk.queue = s.hlk.queue ∧
      (answerClearHingeErrors s).2.hlk.resetPending = s.hlk.resetPending ∧
      (answerClearHingeErrors s).2.hlk.rx = s.hlk.rx ∧ (answerClearHingeErrors s).2.hlk.series = s.hlk.series ∧
      (answerClearHingeErrors s).2.hlk.held = s.hlk.held := by
  simp only [answerClearHingeErrors]
  repeat' split
  all_goals simp

@[simp] theorem answerSaveCalibration_frame (s : State) :
    (answerSaveCalibration s).2.time = s.time ∧ (answerSaveCalibration s).2.pth = s.pth ∧
      (answerSaveCalibration s).2.chc = s.chc ∧ (answerSaveCalibration s).2.bga = s.bga ∧
      (answerSaveCalibration s).2.plc = s.plc ∧ (answerSaveCalibration s).2.hsi = s.hsi ∧
      (answerSaveCalibration s).2.psm = s.psm ∧ (answerSaveCalibration s).2.kbs = s.kbs ∧
      (answerSaveCalibration s).2.thc = s.thc ∧ (answerSaveCalibration s).2.swc = s.swc ∧
      (answerSaveCalibration s).2.fsu = s.fsu ∧ (answerSaveCalibration s).2.evr = s.evr ∧
      (answerSaveCalibration s).2.hlk = s.hlk ∧ (answerSaveCalibration s).2.pending = s.pending := by
  simp only [answerSaveCalibration]
  repeat' split
  all_goals simp

@[simp] theorem calibrationSaved_frame (c : Calibration) (s : State) :
    (calibrationSaved c s).time = s.time ∧ (calibrationSaved c s).pth = s.pth ∧
      (calibrationSaved c s).chc = s.chc ∧ (calibrationSaved c s).bga = s.bga ∧
      (calibrationSaved c s).fsu = s.fsu ∧ (calibrationSaved c s).pending = s.pending ∧
      (calibrationSaved c s).plc.devices = s.plc.devices ∧ (calibrationSaved c s).plc.pass = s.plc.pass ∧
      (calibrationSaved c s).plc.caught = s.plc.caught ∧ (calibrationSaved c s).plc.result = s.plc.result ∧
      (calibrationSaved c s).hsi.raw = s.hsi.raw ∧ (calibrationSaved c s).hsi.reported = s.hsi.reported ∧
      (calibrationSaved c s).hsi.rejected = s.hsi.rejected ∧
      (calibrationSaved c s).hsi.hysteresis = s.hsi.hysteresis ∧
      (calibrationSaved c s).hsi.nominal = s.hsi.nominal ∧
      (calibrationSaved c s).hsi.closedRef = s.hsi.closedRef ∧ (calibrationSaved c s).psm.lid = s.psm.lid ∧
      (calibrationSaved c s).psm.tablet = s.psm.tablet ∧ (calibrationSaved c s).psm.conflict = s.psm.conflict ∧
      (calibrationSaved c s).psm.settings = s.psm.settings ∧
      (calibrationSaved c s).psm.evaluated = s.psm.evaluated ∧
      (calibrationSaved c s).kbs.settings = s.kbs.settings ∧ (calibrationSaved c s).thc.holds = s.thc.holds ∧
      (calibrationSaved c s).thc.inputs = s.thc.inputs ∧ (calibrationSaved c s).thc.floor = s.thc.floor ∧
      (calibrationSaved c s).thc.trip = s.thc.trip ∧ (calibrationSaved c s).thc.curves = s.thc.curves ∧
      (calibrationSaved c s).swc.presses = s.swc.presses ∧
      (calibrationSaved c s).swc.settings = s.swc.settings ∧
      (calibrationSaved c s).swc.wakeTimer = s.swc.wakeTimer ∧
      (calibrationSaved c s).evr.routes = s.evr.routes ∧ (calibrationSaved c s).hlk.queue = s.hlk.queue ∧
      (calibrationSaved c s).hlk.resetPending = s.hlk.resetPending ∧ (calibrationSaved c s).hlk.rx = s.hlk.rx ∧
      (calibrationSaved c s).hlk.series = s.hlk.series ∧ (calibrationSaved c s).hlk.held = s.hlk.held := by
  simp only [calibrationSaved]
  repeat' split
  all_goals simp

@[simp] theorem answerReadPosture_frame (s : State) :
    (answerReadPosture s).2.time = s.time ∧ (answerReadPosture s).2.pth = s.pth ∧
      (answerReadPosture s).2.chc = s.chc ∧ (answerReadPosture s).2.bga = s.bga ∧
      (answerReadPosture s).2.plc = s.plc ∧ (answerReadPosture s).2.hsi = s.hsi ∧
      (answerReadPosture s).2.psm = s.psm ∧ (answerReadPosture s).2.kbs = s.kbs ∧
      (answerReadPosture s).2.thc = s.thc ∧ (answerReadPosture s).2.swc = s.swc ∧
      (answerReadPosture s).2.fsu = s.fsu ∧ (answerReadPosture s).2.evr = s.evr ∧
      (answerReadPosture s).2.hlk = s.hlk ∧ (answerReadPosture s).2.sts = s.sts ∧
      (answerReadPosture s).2.pending = s.pending := by
  simp only [answerReadPosture]
  repeat' split
  all_goals simp

@[simp] theorem expireDwell_frame (s : State) :
    (expireDwell s).time = s.time ∧ (expireDwell s).pth = s.pth ∧ (expireDwell s).chc = s.chc ∧
      (expireDwell s).bga = s.bga ∧ (expireDwell s).fsu = s.fsu ∧ (expireDwell s).sts = s.sts ∧
      (expireDwell s).pending = s.pending ∧ (expireDwell s).plc.devices = s.plc.devices ∧
      (expireDwell s).plc.pass = s.plc.pass ∧ (expireDwell s).plc.caught = s.plc.caught ∧
      (expireDwell s).plc.result = s.plc.result ∧ (expireDwell s).hsi.monitors = s.hsi.monitors ∧
      (expireDwell s).hsi.validity = s.hsi.validity ∧ (expireDwell s).hsi.raw = s.hsi.raw ∧
      (expireDwell s).hsi.reported = s.hsi.reported ∧ (expireDwell s).hsi.rejected = s.hsi.rejected ∧
      (expireDwell s).hsi.hysteresis = s.hsi.hysteresis ∧ (expireDwell s).hsi.nominal = s.hsi.nominal ∧
      (expireDwell s).hsi.closedRef = s.hsi.closedRef ∧ (expireDwell s).psm.lid = s.psm.lid ∧
      (expireDwell s).psm.tablet = s.psm.tablet ∧ (expireDwell s).psm.conflict = s.psm.conflict ∧
      (expireDwell s).psm.settings = s.psm.settings ∧ (expireDwell s).psm.evaluated = s.psm.evaluated ∧
      (expireDwell s).kbs.settings = s.kbs.settings ∧ (expireDwell s).thc.holds = s.thc.holds ∧
      (expireDwell s).thc.inputs = s.thc.inputs ∧ (expireDwell s).thc.floor = s.thc.floor ∧
      (expireDwell s).thc.trip = s.thc.trip ∧ (expireDwell s).thc.curves = s.thc.curves ∧
      (expireDwell s).swc.presses = s.swc.presses ∧ (expireDwell s).swc.settings = s.swc.settings ∧
      (expireDwell s).swc.wakeTimer = s.swc.wakeTimer ∧ (expireDwell s).evr.routes = s.evr.routes ∧
      (expireDwell s).hlk.queue = s.hlk.queue ∧ (expireDwell s).hlk.resetPending = s.hlk.resetPending ∧
      (expireDwell s).hlk.rx = s.hlk.rx ∧ (expireDwell s).hlk.series = s.hlk.series ∧
      (expireDwell s).hlk.held = s.hlk.held := by
  simp only [expireDwell]
  repeat' split
  all_goals simp

@[simp] theorem answerSetPostureThresholds_frame (standEnter : BitVec 16) (standLeave : BitVec 16) (tabletEnter : BitVec 16) (tabletLeave : BitVec 16) (dwell : BitVec 16) (s : State) :
    (answerSetPostureThresholds standEnter standLeave tabletEnter tabletLeave dwell s).2.time = s.time ∧
      (answerSetPostureThresholds standEnter standLeave tabletEnter tabletLeave dwell s).2.pth = s.pth ∧
      (answerSetPostureThresholds standEnter standLeave tabletEnter tabletLeave dwell s).2.chc = s.chc ∧
      (answerSetPostureThresholds standEnter standLeave tabletEnter tabletLeave dwell s).2.bga = s.bga ∧
      (answerSetPostureThresholds standEnter standLeave tabletEnter tabletLeave dwell s).2.fsu = s.fsu ∧
      (answerSetPostureThresholds standEnter standLeave tabletEnter tabletLeave dwell s).2.sts = s.sts ∧
      (answerSetPostureThresholds standEnter standLeave tabletEnter tabletLeave dwell s).2.pending = s.pending ∧
      (answerSetPostureThresholds standEnter standLeave tabletEnter tabletLeave dwell s).2.plc.devices = s.plc.devices ∧
      (answerSetPostureThresholds standEnter standLeave tabletEnter tabletLeave dwell s).2.plc.pass = s.plc.pass ∧
      (answerSetPostureThresholds standEnter standLeave tabletEnter tabletLeave dwell s).2.plc.caught = s.plc.caught ∧
      (answerSetPostureThresholds standEnter standLeave tabletEnter tabletLeave dwell s).2.plc.result = s.plc.result ∧
      (answerSetPostureThresholds standEnter standLeave tabletEnter tabletLeave dwell s).2.hsi.monitors = s.hsi.monitors ∧
      (answerSetPostureThresholds standEnter standLeave tabletEnter tabletLeave dwell s).2.hsi.validity = s.hsi.validity ∧
      (answerSetPostureThresholds standEnter standLeave tabletEnter tabletLeave dwell s).2.hsi.raw = s.hsi.raw ∧
      (answerSetPostureThresholds standEnter standLeave tabletEnter tabletLeave dwell s).2.hsi.reported = s.hsi.reported ∧
      (answerSetPostureThresholds standEnter standLeave tabletEnter tabletLeave dwell s).2.hsi.rejected = s.hsi.rejected ∧
      (answerSetPostureThresholds standEnter standLeave tabletEnter tabletLeave dwell s).2.hsi.hysteresis = s.hsi.hysteresis ∧
      (answerSetPostureThresholds standEnter standLeave tabletEnter tabletLeave dwell s).2.hsi.nominal = s.hsi.nominal ∧
      (answerSetPostureThresholds standEnter standLeave tabletEnter tabletLeave dwell s).2.hsi.closedRef = s.hsi.closedRef ∧
      (answerSetPostureThresholds standEnter standLeave tabletEnter tabletLeave dwell s).2.psm.lid = s.psm.lid ∧
      (answerSetPostureThresholds standEnter standLeave tabletEnter tabletLeave dwell s).2.psm.tablet = s.psm.tablet ∧
      (answerSetPostureThresholds standEnter standLeave tabletEnter tabletLeave dwell s).2.psm.conflict = s.psm.conflict ∧
      (answerSetPostureThresholds standEnter standLeave tabletEnter tabletLeave dwell s).2.psm.evaluated = s.psm.evaluated ∧
      (answerSetPostureThresholds standEnter standLeave tabletEnter tabletLeave dwell s).2.kbs.settings = s.kbs.settings ∧
      (answerSetPostureThresholds standEnter standLeave tabletEnter tabletLeave dwell s).2.thc.holds = s.thc.holds ∧
      (answerSetPostureThresholds standEnter standLeave tabletEnter tabletLeave dwell s).2.thc.inputs = s.thc.inputs ∧
      (answerSetPostureThresholds standEnter standLeave tabletEnter tabletLeave dwell s).2.thc.floor = s.thc.floor ∧
      (answerSetPostureThresholds standEnter standLeave tabletEnter tabletLeave dwell s).2.thc.trip = s.thc.trip ∧
      (answerSetPostureThresholds standEnter standLeave tabletEnter tabletLeave dwell s).2.thc.curves = s.thc.curves ∧
      (answerSetPostureThresholds standEnter standLeave tabletEnter tabletLeave dwell s).2.swc.presses = s.swc.presses ∧
      (answerSetPostureThresholds standEnter standLeave tabletEnter tabletLeave dwell s).2.swc.settings = s.swc.settings ∧
      (answerSetPostureThresholds standEnter standLeave tabletEnter tabletLeave dwell s).2.swc.wakeTimer = s.swc.wakeTimer ∧
      (answerSetPostureThresholds standEnter standLeave tabletEnter tabletLeave dwell s).2.evr.routes = s.evr.routes ∧
      (answerSetPostureThresholds standEnter standLeave tabletEnter tabletLeave dwell s).2.hlk.queue = s.hlk.queue ∧
      (answerSetPostureThresholds standEnter standLeave tabletEnter tabletLeave dwell s).2.hlk.resetPending = s.hlk.resetPending ∧
      (answerSetPostureThresholds standEnter standLeave tabletEnter tabletLeave dwell s).2.hlk.rx = s.hlk.rx ∧
      (answerSetPostureThresholds standEnter standLeave tabletEnter tabletLeave dwell s).2.hlk.series = s.hlk.series ∧
      (answerSetPostureThresholds standEnter standLeave tabletEnter tabletLeave dwell s).2.hlk.held = s.hlk.held := by
  simp only [answerSetPostureThresholds]
  repeat' split
  all_goals simp

@[simp] theorem dueEdge_frame (line : HingeSwitch) (s : State) :
    (dueEdge line s).time = s.time ∧ (dueEdge line s).pth = s.pth ∧ (dueEdge line s).chc = s.chc ∧
      (dueEdge line s).bga = s.bga ∧ (dueEdge line s).fsu = s.fsu ∧ (dueEdge line s).sts = s.sts ∧
      (dueEdge line s).pending = s.pending ∧ (dueEdge line s).plc.devices = s.plc.devices ∧
      (dueEdge line s).plc.pass = s.plc.pass ∧ (dueEdge line s).plc.caught = s.plc.caught ∧
      (dueEdge line s).plc.result = s.plc.result ∧ (dueEdge line s).hsi.monitors = s.hsi.monitors ∧
      (dueEdge line s).hsi.raw = s.hsi.raw ∧ (dueEdge line s).hsi.rejected = s.hsi.rejected ∧
      (dueEdge line s).hsi.hysteresis = s.hsi.hysteresis ∧ (dueEdge line s).hsi.nominal = s.hsi.nominal ∧
      (dueEdge line s).psm.settings = s.psm.settings ∧ (dueEdge line s).psm.evaluated = s.psm.evaluated ∧
      (dueEdge line s).kbs.settings = s.kbs.settings ∧ (dueEdge line s).thc.holds = s.thc.holds ∧
      (dueEdge line s).thc.inputs = s.thc.inputs ∧ (dueEdge line s).thc.floor = s.thc.floor ∧
      (dueEdge line s).thc.trip = s.thc.trip ∧ (dueEdge line s).thc.curves = s.thc.curves ∧
      (dueEdge line s).swc.presses = s.swc.presses ∧ (dueEdge line s).swc.settings = s.swc.settings ∧
      (dueEdge line s).swc.wakeTimer = s.swc.wakeTimer ∧ (dueEdge line s).evr.routes = s.evr.routes ∧
      (dueEdge line s).hlk.queue = s.hlk.queue ∧ (dueEdge line s).hlk.resetPending = s.hlk.resetPending ∧
      (dueEdge line s).hlk.rx = s.hlk.rx ∧ (dueEdge line s).hlk.series = s.hlk.series ∧
      (dueEdge line s).hlk.held = s.hlk.held := by
  simp only [dueEdge]
  repeat' split
  all_goals simp

@[simp] theorem firstEvaluation_frame (s : State) :
    (firstEvaluation s).time = s.time ∧ (firstEvaluation s).pth = s.pth ∧ (firstEvaluation s).chc = s.chc ∧
      (firstEvaluation s).bga = s.bga ∧ (firstEvaluation s).fsu = s.fsu ∧ (firstEvaluation s).sts = s.sts ∧
      (firstEvaluation s).pending = s.pending ∧ (firstEvaluation s).plc.devices = s.plc.devices ∧
      (firstEvaluation s).plc.pass = s.plc.pass ∧ (firstEvaluation s).plc.caught = s.plc.caught ∧
      (firstEvaluation s).plc.result = s.plc.result ∧ (firstEvaluation s).hsi.monitors = s.hsi.monitors ∧
      (firstEvaluation s).hsi.validity = s.hsi.validity ∧ (firstEvaluation s).hsi.raw = s.hsi.raw ∧
      (firstEvaluation s).hsi.reported = s.hsi.reported ∧ (firstEvaluation s).hsi.rejected = s.hsi.rejected ∧
      (firstEvaluation s).hsi.hysteresis = s.hsi.hysteresis ∧ (firstEvaluation s).hsi.nominal = s.hsi.nominal ∧
      (firstEvaluation s).hsi.closedRef = s.hsi.closedRef ∧ (firstEvaluation s).psm.lid = s.psm.lid ∧
      (firstEvaluation s).psm.tablet = s.psm.tablet ∧ (firstEvaluation s).psm.conflict = s.psm.conflict ∧
      (firstEvaluation s).psm.settings = s.psm.settings ∧ (firstEvaluation s).kbs.settings = s.kbs.settings ∧
      (firstEvaluation s).thc.holds = s.thc.holds ∧ (firstEvaluation s).thc.inputs = s.thc.inputs ∧
      (firstEvaluation s).thc.floor = s.thc.floor ∧ (firstEvaluation s).thc.trip = s.thc.trip ∧
      (firstEvaluation s).thc.curves = s.thc.curves ∧ (firstEvaluation s).swc.presses = s.swc.presses ∧
      (firstEvaluation s).swc.settings = s.swc.settings ∧ (firstEvaluation s).swc.wakeTimer = s.swc.wakeTimer ∧
      (firstEvaluation s).evr.routes = s.evr.routes ∧ (firstEvaluation s).hlk.queue = s.hlk.queue ∧
      (firstEvaluation s).hlk.resetPending = s.hlk.resetPending ∧ (firstEvaluation s).hlk.rx = s.hlk.rx ∧
      (firstEvaluation s).hlk.series = s.hlk.series ∧ (firstEvaluation s).hlk.held = s.hlk.held := by
  simp only [firstEvaluation]
  repeat' split
  all_goals simp

@[simp] theorem settleOverflow_frame (s : State) :
    (settleOverflow s).time = s.time ∧ (settleOverflow s).pth = s.pth ∧ (settleOverflow s).chc = s.chc ∧
      (settleOverflow s).bga = s.bga ∧ (settleOverflow s).plc = s.plc ∧ (settleOverflow s).hsi = s.hsi ∧
      (settleOverflow s).psm = s.psm ∧ (settleOverflow s).thc = s.thc ∧ (settleOverflow s).swc = s.swc ∧
      (settleOverflow s).fsu = s.fsu ∧ (settleOverflow s).sts = s.sts ∧ (settleOverflow s).pending = s.pending ∧
      (settleOverflow s).kbs.settings = s.kbs.settings ∧ (settleOverflow s).evr.routes = s.evr.routes ∧
      (settleOverflow s).hlk.queue = s.hlk.queue ∧ (settleOverflow s).hlk.resetPending = s.hlk.resetPending ∧
      (settleOverflow s).hlk.rx = s.hlk.rx ∧ (settleOverflow s).hlk.series = s.hlk.series ∧
      (settleOverflow s).hlk.held = s.hlk.held := by
  simp only [settleOverflow]
  repeat' split
  all_goals simp

@[simp] theorem removeKeys_frame (n : Nat) (s : State) :
    (removeKeys n s).time = s.time ∧ (removeKeys n s).pth = s.pth ∧ (removeKeys n s).chc = s.chc ∧
      (removeKeys n s).bga = s.bga ∧ (removeKeys n s).plc = s.plc ∧ (removeKeys n s).hsi = s.hsi ∧
      (removeKeys n s).psm = s.psm ∧ (removeKeys n s).thc = s.thc ∧ (removeKeys n s).swc = s.swc ∧
      (removeKeys n s).fsu = s.fsu ∧ (removeKeys n s).sts = s.sts ∧ (removeKeys n s).pending = s.pending ∧
      (removeKeys n s).kbs.settings = s.kbs.settings ∧ (removeKeys n s).evr.routes = s.evr.routes ∧
      (removeKeys n s).hlk.queue = s.hlk.queue ∧ (removeKeys n s).hlk.resetPending = s.hlk.resetPending ∧
      (removeKeys n s).hlk.rx = s.hlk.rx ∧ (removeKeys n s).hlk.series = s.hlk.series ∧
      (removeKeys n s).hlk.held = s.hlk.held := by
  simp only [removeKeys]
  repeat' split
  all_goals simp

@[simp] theorem answerFetchKeys_frame (max : Byte) (s : State) :
    (answerFetchKeys max s).2.time = s.time ∧ (answerFetchKeys max s).2.pth = s.pth ∧
      (answerFetchKeys max s).2.chc = s.chc ∧ (answerFetchKeys max s).2.bga = s.bga ∧
      (answerFetchKeys max s).2.plc = s.plc ∧ (answerFetchKeys max s).2.hsi = s.hsi ∧
      (answerFetchKeys max s).2.psm = s.psm ∧ (answerFetchKeys max s).2.thc = s.thc ∧
      (answerFetchKeys max s).2.swc = s.swc ∧ (answerFetchKeys max s).2.fsu = s.fsu ∧
      (answerFetchKeys max s).2.sts = s.sts ∧ (answerFetchKeys max s).2.pending = s.pending ∧
      (answerFetchKeys max s).2.kbs.settings = s.kbs.settings ∧
      (answerFetchKeys max s).2.evr.routes = s.evr.routes ∧ (answerFetchKeys max s).2.hlk.queue = s.hlk.queue ∧
      (answerFetchKeys max s).2.hlk.resetPending = s.hlk.resetPending ∧
      (answerFetchKeys max s).2.hlk.rx = s.hlk.rx ∧ (answerFetchKeys max s).2.hlk.series = s.hlk.series ∧
      (answerFetchKeys max s).2.hlk.held = s.hlk.held := by
  simp only [answerFetchKeys]
  repeat' split
  all_goals simp

@[simp] theorem answerReadKeyMap_frame (choice : Byte) (s : State) :
    (answerReadKeyMap choice s).2.time = s.time ∧ (answerReadKeyMap choice s).2.pth = s.pth ∧
      (answerReadKeyMap choice s).2.chc = s.chc ∧ (answerReadKeyMap choice s).2.bga = s.bga ∧
      (answerReadKeyMap choice s).2.plc = s.plc ∧ (answerReadKeyMap choice s).2.hsi = s.hsi ∧
      (answerReadKeyMap choice s).2.psm = s.psm ∧ (answerReadKeyMap choice s).2.kbs = s.kbs ∧
      (answerReadKeyMap choice s).2.thc = s.thc ∧ (answerReadKeyMap choice s).2.swc = s.swc ∧
      (answerReadKeyMap choice s).2.fsu = s.fsu ∧ (answerReadKeyMap choice s).2.evr = s.evr ∧
      (answerReadKeyMap choice s).2.hlk = s.hlk ∧ (answerReadKeyMap choice s).2.sts = s.sts ∧
      (answerReadKeyMap choice s).2.pending = s.pending := by
  simp only [answerReadKeyMap]
  repeat' split
  all_goals simp

@[simp] theorem answerSetKeyboard_frame (press : Byte) (release : Byte) (delay : BitVec 16) (period : BitVec 16) (wake : Byte) (map : Option (List Byte)) (s : State) :
    (answerSetKeyboard press release delay period wake map s).2.time = s.time ∧
      (answerSetKeyboard press release delay period wake map s).2.pth = s.pth ∧
      (answerSetKeyboard press release delay period wake map s).2.chc = s.chc ∧
      (answerSetKeyboard press release delay period wake map s).2.bga = s.bga ∧
      (answerSetKeyboard press release delay period wake map s).2.plc = s.plc ∧
      (answerSetKeyboard press release delay period wake map s).2.hsi = s.hsi ∧
      (answerSetKeyboard press release delay period wake map s).2.psm = s.psm ∧
      (answerSetKeyboard press release delay period wake map s).2.thc = s.thc ∧
      (answerSetKeyboard press release delay period wake map s).2.swc = s.swc ∧
      (answerSetKeyboard press release delay period wake map s).2.fsu = s.fsu ∧
      (answerSetKeyboard press release delay period wake map s).2.evr = s.evr ∧
      (answerSetKeyboard press release delay period wake map s).2.hlk = s.hlk ∧
      (answerSetKeyboard press release delay period wake map s).2.sts = s.sts ∧
      (answerSetKeyboard press release delay period wake map s).2.pending = s.pending ∧
      (answerSetKeyboard press release delay period wake map s).2.kbs.queue = s.kbs.queue := by
  simp only [answerSetKeyboard]
  repeat' split
  all_goals simp

@[simp] theorem raiseShorts_frame (cols : List Nat) (s : State) :
    (raiseShorts cols s).time = s.time ∧ (raiseShorts cols s).pth = s.pth ∧ (raiseShorts cols s).sts = s.sts ∧
      (raiseShorts cols s).pending = s.pending ∧ (raiseShorts cols s).chc.order = s.chc.order ∧
      (raiseShorts cols s).chc.threshold = s.chc.threshold ∧ (raiseShorts cols s).chc.openRow = s.chc.openRow ∧
      (raiseShorts cols s).chc.latches = s.chc.latches ∧ (raiseShorts cols s).chc.table = s.chc.table ∧
      (raiseShorts cols s).plc.devices = s.plc.devices ∧ (raiseShorts cols s).hsi.monitors = s.hsi.monitors ∧
      (raiseShorts cols s).hsi.validity = s.hsi.validity ∧ (raiseShorts cols s).hsi.raw = s.hsi.raw ∧
      (raiseShorts cols s).hsi.reported = s.hsi.reported ∧ (raiseShorts cols s).hsi.rejected = s.hsi.rejected ∧
      (raiseShorts cols s).hsi.hysteresis = s.hsi.hysteresis ∧
      (raiseShorts cols s).hsi.nominal = s.hsi.nominal ∧ (raiseShorts cols s).hsi.closedRef = s.hsi.closedRef ∧
      (raiseShorts cols s).psm.lid = s.psm.lid ∧ (raiseShorts cols s).psm.tablet = s.psm.tablet ∧
      (raiseShorts cols s).psm.conflict = s.psm.conflict ∧ (raiseShorts cols s).psm.settings = s.psm.settings ∧
      (raiseShorts cols s).psm.evaluated = s.psm.evaluated ∧
      (raiseShorts cols s).kbs.settings = s.kbs.settings ∧ (raiseShorts cols s).thc.holds = s.thc.holds ∧
      (raiseShorts cols s).thc.inputs = s.thc.inputs ∧ (raiseShorts cols s).thc.floor = s.thc.floor ∧
      (raiseShorts cols s).thc.trip = s.thc.trip ∧ (raiseShorts cols s).thc.curves = s.thc.curves ∧
      (raiseShorts cols s).swc.presses = s.swc.presses ∧ (raiseShorts cols s).swc.settings = s.swc.settings ∧
      (raiseShorts cols s).swc.wakeTimer = s.swc.wakeTimer ∧ (raiseShorts cols s).evr.routes = s.evr.routes ∧
      (raiseShorts cols s).hlk.queue = s.hlk.queue ∧
      (raiseShorts cols s).hlk.resetPending = s.hlk.resetPending ∧ (raiseShorts cols s).hlk.rx = s.hlk.rx ∧
      (raiseShorts cols s).hlk.series = s.hlk.series ∧ (raiseShorts cols s).hlk.held = s.hlk.held := by
  simp only [raiseShorts]
  repeat' split
  all_goals simp

@[simp] theorem keyPressed_frame (asleep : Bool) (k : Nat) (a : KeyAttr) (s : State) :
    (keyPressed asleep k a s).time = s.time ∧ (keyPressed asleep k a s).pth = s.pth ∧
      (keyPressed asleep k a s).chc = s.chc ∧ (keyPressed asleep k a s).bga = s.bga ∧
      (keyPressed asleep k a s).hsi = s.hsi ∧ (keyPressed asleep k a s).psm = s.psm ∧
      (keyPressed asleep k a s).fsu = s.fsu ∧ (keyPressed asleep k a s).sts = s.sts ∧
      (keyPressed asleep k a s).pending = s.pending ∧ (keyPressed asleep k a s).plc.devices = s.plc.devices ∧
      (keyPressed asleep k a s).plc.pass = s.plc.pass ∧ (keyPressed asleep k a s).plc.caught = s.plc.caught ∧
      (keyPressed asleep k a s).plc.result = s.plc.result ∧
      (keyPressed asleep k a s).kbs.settings = s.kbs.settings ∧
      (keyPressed asleep k a s).thc.holds = s.thc.holds ∧ (keyPressed asleep k a s).thc.inputs = s.thc.inputs ∧
      (keyPressed asleep k a s).thc.floor = s.thc.floor ∧ (keyPressed asleep k a s).thc.trip = s.thc.trip ∧
      (keyPressed asleep k a s).thc.curves = s.thc.curves ∧
      (keyPressed asleep k a s).swc.presses = s.swc.presses ∧
      (keyPressed asleep k a s).swc.settings = s.swc.settings ∧
      (keyPressed asleep k a s).swc.wakeTimer = s.swc.wakeTimer ∧
      (keyPressed asleep k a s).evr.routes = s.evr.routes ∧ (keyPressed asleep k a s).hlk.queue = s.hlk.queue ∧
      (keyPressed asleep k a s).hlk.resetPending = s.hlk.resetPending ∧
      (keyPressed asleep k a s).hlk.rx = s.hlk.rx ∧ (keyPressed asleep k a s).hlk.series = s.hlk.series ∧
      (keyPressed asleep k a s).hlk.held = s.hlk.held := by
  simp only [keyPressed]
  repeat' split
  all_goals simp

@[simp] theorem keyReleased_frame (k : Nat) (a : KeyAttr) (s : State) :
    (keyReleased k a s).time = s.time ∧ (keyReleased k a s).pth = s.pth ∧ (keyReleased k a s).chc = s.chc ∧
      (keyReleased k a s).bga = s.bga ∧ (keyReleased k a s).plc = s.plc ∧ (keyReleased k a s).hsi = s.hsi ∧
      (keyReleased k a s).psm = s.psm ∧ (keyReleased k a s).thc = s.thc ∧ (keyReleased k a s).swc = s.swc ∧
      (keyReleased k a s).fsu = s.fsu ∧ (keyReleased k a s).sts = s.sts ∧
      (keyReleased k a s).pending = s.pending ∧ (keyReleased k a s).kbs.settings = s.kbs.settings ∧
      (keyReleased k a s).evr.routes = s.evr.routes ∧ (keyReleased k a s).hlk.queue = s.hlk.queue ∧
      (keyReleased k a s).hlk.resetPending = s.hlk.resetPending ∧ (keyReleased k a s).hlk.rx = s.hlk.rx ∧
      (keyReleased k a s).hlk.series = s.hlk.series ∧ (keyReleased k a s).hlk.held = s.hlk.held := by
  simp only [keyReleased]
  repeat' split
  all_goals simp

@[simp] theorem keyEvents_frame (asleep : Bool) (bs as : List KeyEntry) (k : Nat) (s : State) :
    (keyEvents asleep bs as k s).time = s.time ∧ (keyEvents asleep bs as k s).pth = s.pth ∧
      (keyEvents asleep bs as k s).chc = s.chc ∧ (keyEvents asleep bs as k s).bga = s.bga ∧
      (keyEvents asleep bs as k s).hsi = s.hsi ∧ (keyEvents asleep bs as k s).psm = s.psm ∧
      (keyEvents asleep bs as k s).fsu = s.fsu ∧ (keyEvents asleep bs as k s).sts = s.sts ∧
      (keyEvents asleep bs as k s).pending = s.pending ∧
      (keyEvents asleep bs as k s).plc.devices = s.plc.devices ∧
      (keyEvents asleep bs as k s).plc.pass = s.plc.pass ∧
      (keyEvents asleep bs as k s).plc.caught = s.plc.caught ∧
      (keyEvents asleep bs as k s).plc.result = s.plc.result ∧
      (keyEvents asleep bs as k s).kbs.settings = s.kbs.settings ∧
      (keyEvents asleep bs as k s).thc.holds = s.thc.holds ∧
      (keyEvents asleep bs as k s).thc.inputs = s.thc.inputs ∧
      (keyEvents asleep bs as k s).thc.floor = s.thc.floor ∧
      (keyEvents asleep bs as k s).thc.trip = s.thc.trip ∧
      (keyEvents asleep bs as k s).thc.curves = s.thc.curves ∧
      (keyEvents asleep bs as k s).swc.presses = s.swc.presses ∧
      (keyEvents asleep bs as k s).swc.settings = s.swc.settings ∧
      (keyEvents asleep bs as k s).swc.wakeTimer = s.swc.wakeTimer ∧
      (keyEvents asleep bs as k s).evr.routes = s.evr.routes ∧
      (keyEvents asleep bs as k s).hlk.queue = s.hlk.queue ∧
      (keyEvents asleep bs as k s).hlk.resetPending = s.hlk.resetPending ∧
      (keyEvents asleep bs as k s).hlk.rx = s.hlk.rx ∧ (keyEvents asleep bs as k s).hlk.series = s.hlk.series ∧
      (keyEvents asleep bs as k s).hlk.held = s.hlk.held := by
  induction bs generalizing as k s with
  | nil => simp [keyEvents]
  | cons b bs ih =>
    cases as with
    | nil => simp [keyEvents]
    | cons a as =>
      simp only [keyEvents, ih]
      repeat' split
      all_goals simp

@[simp] theorem settleScan_frame (s : State) :
    (settleScan s).time = s.time ∧ (settleScan s).pth = s.pth ∧ (settleScan s).chc = s.chc ∧
      (settleScan s).bga = s.bga ∧ (settleScan s).plc = s.plc ∧ (settleScan s).hsi = s.hsi ∧
      (settleScan s).psm = s.psm ∧ (settleScan s).thc = s.thc ∧ (settleScan s).swc = s.swc ∧
      (settleScan s).fsu = s.fsu ∧ (settleScan s).evr = s.evr ∧ (settleScan s).hlk = s.hlk ∧
      (settleScan s).sts = s.sts ∧ (settleScan s).pending = s.pending ∧ (settleScan s).kbs.queue = s.kbs.queue ∧
      (settleScan s).kbs.settings = s.kbs.settings := by
  simp only [settleScan]
  repeat' split
  all_goals simp

@[simp] theorem handRepeat_frame (k : Nat) (s : State) :
    (handRepeat k s).time = s.time ∧ (handRepeat k s).pth = s.pth ∧ (handRepeat k s).chc = s.chc ∧
      (handRepeat k s).bga = s.bga ∧ (handRepeat k s).plc = s.plc ∧ (handRepeat k s).hsi = s.hsi ∧
      (handRepeat k s).psm = s.psm ∧ (handRepeat k s).thc = s.thc ∧ (handRepeat k s).swc = s.swc ∧
      (handRepeat k s).fsu = s.fsu ∧ (handRepeat k s).sts = s.sts ∧ (handRepeat k s).pending = s.pending ∧
      (handRepeat k s).kbs.settings = s.kbs.settings ∧ (handRepeat k s).evr.routes = s.evr.routes ∧
      (handRepeat k s).hlk.queue = s.hlk.queue ∧ (handRepeat k s).hlk.resetPending = s.hlk.resetPending ∧
      (handRepeat k s).hlk.rx = s.hlk.rx ∧ (handRepeat k s).hlk.series = s.hlk.series ∧
      (handRepeat k s).hlk.held = s.hlk.held := by
  simp only [handRepeat]
  repeat' split
  all_goals simp

@[simp] theorem answerReadThermal_frame (choice : Byte) (s : State) :
    (answerReadThermal choice s).2.time = s.time ∧ (answerReadThermal choice s).2.pth = s.pth ∧
      (answerReadThermal choice s).2.chc = s.chc ∧ (answerReadThermal choice s).2.bga = s.bga ∧
      (answerReadThermal choice s).2.plc = s.plc ∧ (answerReadThermal choice s).2.hsi = s.hsi ∧
      (answerReadThermal choice s).2.psm = s.psm ∧ (answerReadThermal choice s).2.kbs = s.kbs ∧
      (answerReadThermal choice s).2.thc = s.thc ∧ (answerReadThermal choice s).2.swc = s.swc ∧
      (answerReadThermal choice s).2.fsu = s.fsu ∧ (answerReadThermal choice s).2.evr = s.evr ∧
      (answerReadThermal choice s).2.hlk = s.hlk ∧ (answerReadThermal choice s).2.sts = s.sts ∧
      (answerReadThermal choice s).2.pending = s.pending := by
  simp only [answerReadThermal]
  repeat' split
  all_goals simp

@[simp] theorem answerReportTemperature_frame (temp : BitVec 16) (s : State) :
    (answerReportTemperature temp s).2.time = s.time ∧ (answerReportTemperature temp s).2.pth = s.pth ∧
      (answerReportTemperature temp s).2.bga = s.bga ∧ (answerReportTemperature temp s).2.hsi = s.hsi ∧
      (answerReportTemperature temp s).2.psm = s.psm ∧ (answerReportTemperature temp s).2.sts = s.sts ∧
      (answerReportTemperature temp s).2.pending = s.pending ∧
      (answerReportTemperature temp s).2.chc.order = s.chc.order ∧
      (answerReportTemperature temp s).2.chc.threshold = s.chc.threshold ∧
      (answerReportTemperature temp s).2.chc.openRow = s.chc.openRow ∧
      (answerReportTemperature temp s).2.chc.latches = s.chc.latches ∧
      (answerReportTemperature temp s).2.chc.table = s.chc.table ∧
      (answerReportTemperature temp s).2.plc.devices = s.plc.devices ∧
      (answerReportTemperature temp s).2.plc.pass = s.plc.pass ∧
      (answerReportTemperature temp s).2.kbs.settings = s.kbs.settings ∧
      (answerReportTemperature temp s).2.thc.holds = s.thc.holds ∧
      (answerReportTemperature temp s).2.thc.floor = s.thc.floor ∧
      (answerReportTemperature temp s).2.thc.trip = s.thc.trip ∧
      (answerReportTemperature temp s).2.thc.curves = s.thc.curves ∧
      (answerReportTemperature temp s).2.swc.presses = s.swc.presses ∧
      (answerReportTemperature temp s).2.swc.settings = s.swc.settings ∧
      (answerReportTemperature temp s).2.swc.wakeTimer = s.swc.wakeTimer ∧
      (answerReportTemperature temp s).2.evr.routes = s.evr.routes ∧
      (answerReportTemperature temp s).2.hlk.queue = s.hlk.queue ∧
      (answerReportTemperature temp s).2.hlk.resetPending = s.hlk.resetPending ∧
      (answerReportTemperature temp s).2.hlk.rx = s.hlk.rx ∧
      (answerReportTemperature temp s).2.hlk.series = s.hlk.series ∧
      (answerReportTemperature temp s).2.hlk.held = s.hlk.held := by
  simp only [answerReportTemperature]
  repeat' split
  all_goals simp

@[simp] theorem setCurvePoint_frame (fan : Byte) (set : Byte) (point : Byte) (temp : BitVec 16) (duty : Byte) (s : State) :
    (setCurvePoint fan set point temp duty s).2.time = s.time ∧
      (setCurvePoint fan set point temp duty s).2.pth = s.pth ∧
      (setCurvePoint fan set point temp duty s).2.chc = s.chc ∧
      (setCurvePoint fan set point temp duty s).2.bga = s.bga ∧
      (setCurvePoint fan set point temp duty s).2.plc = s.plc ∧
      (setCurvePoint fan set point temp duty s).2.hsi = s.hsi ∧
      (setCurvePoint fan set point temp duty s).2.psm = s.psm ∧
      (setCurvePoint fan set point temp duty s).2.kbs = s.kbs ∧
      (setCurvePoint fan set point temp duty s).2.swc = s.swc ∧
      (setCurvePoint fan set point temp duty s).2.fsu = s.fsu ∧
      (setCurvePoint fan set point temp duty s).2.evr = s.evr ∧
      (setCurvePoint fan set point temp duty s).2.hlk = s.hlk ∧
      (setCurvePoint fan set point temp duty s).2.sts = s.sts ∧
      (setCurvePoint fan set point temp duty s).2.pending = s.pending ∧
      (setCurvePoint fan set point temp duty s).2.thc.holds = s.thc.holds ∧
      (setCurvePoint fan set point temp duty s).2.thc.inputs = s.thc.inputs ∧
      (setCurvePoint fan set point temp duty s).2.thc.floor = s.thc.floor ∧
      (setCurvePoint fan set point temp duty s).2.thc.trip = s.thc.trip := by
  simp only [setCurvePoint]
  repeat' split
  all_goals simp

@[simp] theorem setLimits_frame (floor : BitVec 16) (trip : BitVec 16) (s : State) :
    (setLimits floor trip s).2.time = s.time ∧ (setLimits floor trip s).2.pth = s.pth ∧
      (setLimits floor trip s).2.chc = s.chc ∧ (setLimits floor trip s).2.bga = s.bga ∧
      (setLimits floor trip s).2.plc = s.plc ∧ (setLimits floor trip s).2.hsi = s.hsi ∧
      (setLimits floor trip s).2.psm = s.psm ∧ (setLimits floor trip s).2.kbs = s.kbs ∧
      (setLimits floor trip s).2.swc = s.swc ∧ (setLimits floor trip s).2.fsu = s.fsu ∧
      (setLimits floor trip s).2.evr = s.evr ∧ (setLimits floor trip s).2.hlk = s.hlk ∧
      (setLimits floor trip s).2.sts = s.sts ∧ (setLimits floor trip s).2.pending = s.pending ∧
      (setLimits floor trip s).2.thc.holds = s.thc.holds ∧ (setLimits floor trip s).2.thc.curves = s.thc.curves := by
  simp only [setLimits]
  repeat' split
  all_goals simp

@[simp] theorem answerSetFanCurvePoint_frame (what : RawCurve) (s : State) :
    (answerSetFanCurvePoint what s).2.time = s.time ∧ (answerSetFanCurvePoint what s).2.pth = s.pth ∧
      (answerSetFanCurvePoint what s).2.chc = s.chc ∧ (answerSetFanCurvePoint what s).2.bga = s.bga ∧
      (answerSetFanCurvePoint what s).2.plc = s.plc ∧ (answerSetFanCurvePoint what s).2.hsi = s.hsi ∧
      (answerSetFanCurvePoint what s).2.psm = s.psm ∧ (answerSetFanCurvePoint what s).2.kbs = s.kbs ∧
      (answerSetFanCurvePoint what s).2.swc = s.swc ∧ (answerSetFanCurvePoint what s).2.fsu = s.fsu ∧
      (answerSetFanCurvePoint what s).2.evr = s.evr ∧ (answerSetFanCurvePoint what s).2.hlk = s.hlk ∧
      (answerSetFanCurvePoint what s).2.sts = s.sts ∧ (answerSetFanCurvePoint what s).2.pending = s.pending ∧
      (answerSetFanCurvePoint what s).2.thc.holds = s.thc.holds := by
  simp only [answerSetFanCurvePoint]
  repeat' split
  all_goals simp

@[simp] theorem pushHold_frame (x : Hold) (s : State) :
    (pushHold x s).time = s.time ∧ (pushHold x s).pth = s.pth ∧ (pushHold x s).chc = s.chc ∧
      (pushHold x s).bga = s.bga ∧ (pushHold x s).plc = s.plc ∧ (pushHold x s).hsi = s.hsi ∧
      (pushHold x s).psm = s.psm ∧ (pushHold x s).kbs = s.kbs ∧ (pushHold x s).swc = s.swc ∧
      (pushHold x s).fsu = s.fsu ∧ (pushHold x s).sts = s.sts ∧ (pushHold x s).pending = s.pending ∧
      (pushHold x s).thc.inputs = s.thc.inputs ∧ (pushHold x s).thc.floor = s.thc.floor ∧
      (pushHold x s).thc.trip = s.thc.trip ∧ (pushHold x s).thc.curves = s.thc.curves ∧
      (pushHold x s).evr.routes = s.evr.routes ∧ (pushHold x s).evr.button = s.evr.button ∧
      (pushHold x s).evr.keys = s.evr.keys ∧ (pushHold x s).evr.capture = s.evr.capture ∧
      (pushHold x s).evr.fault = s.evr.fault ∧ (pushHold x s).hlk.queue = s.hlk.queue ∧
      (pushHold x s).hlk.resetPending = s.hlk.resetPending ∧ (pushHold x s).hlk.rx = s.hlk.rx ∧
      (pushHold x s).hlk.series = s.hlk.series ∧ (pushHold x s).hlk.held = s.hlk.held := by
  simp only [pushHold]
  repeat' split
  all_goals simp

@[simp] theorem answerPushHold_frame (owner : Channel) (fan0 : Byte) (fan1 : Byte) (expiry : BitVec 16) (s : State) :
    (answerPushHold owner fan0 fan1 expiry s).2.time = s.time ∧
      (answerPushHold owner fan0 fan1 expiry s).2.pth = s.pth ∧
      (answerPushHold owner fan0 fan1 expiry s).2.chc = s.chc ∧
      (answerPushHold owner fan0 fan1 expiry s).2.bga = s.bga ∧
      (answerPushHold owner fan0 fan1 expiry s).2.plc = s.plc ∧
      (answerPushHold owner fan0 fan1 expiry s).2.hsi = s.hsi ∧
      (answerPushHold owner fan0 fan1 expiry s).2.psm = s.psm ∧
      (answerPushHold owner fan0 fan1 expiry s).2.kbs = s.kbs ∧
      (answerPushHold owner fan0 fan1 expiry s).2.swc = s.swc ∧
      (answerPushHold owner fan0 fan1 expiry s).2.fsu = s.fsu ∧
      (answerPushHold owner fan0 fan1 expiry s).2.sts = s.sts ∧
      (answerPushHold owner fan0 fan1 expiry s).2.pending = s.pending ∧
      (answerPushHold owner fan0 fan1 expiry s).2.thc.inputs = s.thc.inputs ∧
      (answerPushHold owner fan0 fan1 expiry s).2.thc.floor = s.thc.floor ∧
      (answerPushHold owner fan0 fan1 expiry s).2.thc.trip = s.thc.trip ∧
      (answerPushHold owner fan0 fan1 expiry s).2.thc.curves = s.thc.curves ∧
      (answerPushHold owner fan0 fan1 expiry s).2.evr.routes = s.evr.routes ∧
      (answerPushHold owner fan0 fan1 expiry s).2.evr.button = s.evr.button ∧
      (answerPushHold owner fan0 fan1 expiry s).2.evr.keys = s.evr.keys ∧
      (answerPushHold owner fan0 fan1 expiry s).2.evr.capture = s.evr.capture ∧
      (answerPushHold owner fan0 fan1 expiry s).2.evr.fault = s.evr.fault ∧
      (answerPushHold owner fan0 fan1 expiry s).2.hlk.queue = s.hlk.queue ∧
      (answerPushHold owner fan0 fan1 expiry s).2.hlk.resetPending = s.hlk.resetPending ∧
      (answerPushHold owner fan0 fan1 expiry s).2.hlk.rx = s.hlk.rx ∧
      (answerPushHold owner fan0 fan1 expiry s).2.hlk.series = s.hlk.series ∧
      (answerPushHold owner fan0 fan1 expiry s).2.hlk.held = s.hlk.held := by
  simp only [answerPushHold]
  repeat' split
  all_goals simp

@[simp] theorem answerPopHold_frame (s : State) :
    (answerPopHold s).2.time = s.time ∧ (answerPopHold s).2.pth = s.pth ∧ (answerPopHold s).2.chc = s.chc ∧
      (answerPopHold s).2.bga = s.bga ∧ (answerPopHold s).2.plc = s.plc ∧ (answerPopHold s).2.hsi = s.hsi ∧
      (answerPopHold s).2.psm = s.psm ∧ (answerPopHold s).2.kbs = s.kbs ∧ (answerPopHold s).2.swc = s.swc ∧
      (answerPopHold s).2.fsu = s.fsu ∧ (answerPopHold s).2.evr = s.evr ∧ (answerPopHold s).2.hlk = s.hlk ∧
      (answerPopHold s).2.sts = s.sts ∧ (answerPopHold s).2.pending = s.pending ∧
      (answerPopHold s).2.thc.inputs = s.thc.inputs ∧ (answerPopHold s).2.thc.floor = s.thc.floor ∧
      (answerPopHold s).2.thc.trip = s.thc.trip ∧ (answerPopHold s).2.thc.curves = s.thc.curves := by
  simp only [answerPopHold]
  repeat' split
  all_goals simp

@[simp] theorem answerReadHolds_frame (s : State) :
    (answerReadHolds s).2.time = s.time ∧ (answerReadHolds s).2.pth = s.pth ∧
      (answerReadHolds s).2.chc = s.chc ∧ (answerReadHolds s).2.bga = s.bga ∧
      (answerReadHolds s).2.plc = s.plc ∧ (answerReadHolds s).2.hsi = s.hsi ∧
      (answerReadHolds s).2.psm = s.psm ∧ (answerReadHolds s).2.kbs = s.kbs ∧
      (answerReadHolds s).2.thc = s.thc ∧ (answerReadHolds s).2.swc = s.swc ∧
      (answerReadHolds s).2.fsu = s.fsu ∧ (answerReadHolds s).2.evr = s.evr ∧
      (answerReadHolds s).2.hlk = s.hlk ∧ (answerReadHolds s).2.sts = s.sts ∧
      (answerReadHolds s).2.pending = s.pending := by
  simp only [answerReadHolds]
  repeat' split
  all_goals simp

@[simp] theorem startSettle_frame (p : Platform) (s : State) :
    (startSettle p s).time = s.time ∧ (startSettle p s).pth = s.pth ∧ (startSettle p s).chc = s.chc ∧
      (startSettle p s).bga = s.bga ∧ (startSettle p s).hsi = s.hsi ∧ (startSettle p s).psm = s.psm ∧
      (startSettle p s).fsu = s.fsu ∧ (startSettle p s).sts = s.sts ∧ (startSettle p s).pending = s.pending ∧
      (startSettle p s).plc.devices = s.plc.devices ∧ (startSettle p s).plc.pass = s.plc.pass ∧
      (startSettle p s).plc.caught = s.plc.caught ∧ (startSettle p s).plc.result = s.plc.result ∧
      (startSettle p s).kbs.settings = s.kbs.settings ∧ (startSettle p s).thc.holds = s.thc.holds ∧
      (startSettle p s).thc.inputs = s.thc.inputs ∧ (startSettle p s).thc.floor = s.thc.floor ∧
      (startSettle p s).thc.trip = s.thc.trip ∧ (startSettle p s).thc.curves = s.thc.curves ∧
      (startSettle p s).swc.presses = s.swc.presses ∧ (startSettle p s).swc.settings = s.swc.settings ∧
      (startSettle p s).swc.wakeTimer = s.swc.wakeTimer ∧ (startSettle p s).evr.routes = s.evr.routes ∧
      (startSettle p s).hlk.queue = s.hlk.queue ∧ (startSettle p s).hlk.resetPending = s.hlk.resetPending ∧
      (startSettle p s).hlk.rx = s.hlk.rx ∧ (startSettle p s).hlk.series = s.hlk.series ∧
      (startSettle p s).hlk.held = s.hlk.held := by
  simp only [startSettle]
  repeat' split
  all_goals simp

@[simp] theorem answerEnterState_frame (target : Byte) (s : State) :
    (answerEnterState target s).2.time = s.time ∧ (answerEnterState target s).2.pth = s.pth ∧
      (answerEnterState target s).2.chc = s.chc ∧ (answerEnterState target s).2.bga = s.bga ∧
      (answerEnterState target s).2.hsi = s.hsi ∧ (answerEnterState target s).2.psm = s.psm ∧
      (answerEnterState target s).2.fsu = s.fsu ∧ (answerEnterState target s).2.sts = s.sts ∧
      (answerEnterState target s).2.pending = s.pending ∧
      (answerEnterState target s).2.plc.devices = s.plc.devices ∧
      (answerEnterState target s).2.plc.pass = s.plc.pass ∧
      (answerEnterState target s).2.plc.caught = s.plc.caught ∧
      (answerEnterState target s).2.plc.result = s.plc.result ∧
      (answerEnterState target s).2.kbs.settings = s.kbs.settings ∧
      (answerEnterState target s).2.thc.holds = s.thc.holds ∧
      (answerEnterState target s).2.thc.inputs = s.thc.inputs ∧
      (answerEnterState target s).2.thc.floor = s.thc.floor ∧
      (answerEnterState target s).2.thc.trip = s.thc.trip ∧
      (answerEnterState target s).2.thc.curves = s.thc.curves ∧
      (answerEnterState target s).2.swc.presses = s.swc.presses ∧
      (answerEnterState target s).2.swc.settings = s.swc.settings ∧
      (answerEnterState target s).2.swc.wakeTimer = s.swc.wakeTimer ∧
      (answerEnterState target s).2.evr.routes = s.evr.routes ∧
      (answerEnterState target s).2.hlk.queue = s.hlk.queue ∧
      (answerEnterState target s).2.hlk.resetPending = s.hlk.resetPending ∧
      (answerEnterState target s).2.hlk.rx = s.hlk.rx ∧
      (answerEnterState target s).2.hlk.series = s.hlk.series ∧
      (answerEnterState target s).2.hlk.held = s.hlk.held := by
  simp only [answerEnterState]
  repeat' split
  all_goals simp

@[simp] theorem answerSetWake_frame (sleepMask : Byte) (offMask : Byte) (low : Byte) (critical : Byte) (shutdown : Byte) (autoOn : Byte) (s : State) :
    (answerSetWake sleepMask offMask low critical shutdown autoOn s).2.time = s.time ∧
      (answerSetWake sleepMask offMask low critical shutdown autoOn s).2.pth = s.pth ∧
      (answerSetWake sleepMask offMask low critical shutdown autoOn s).2.chc = s.chc ∧
      (answerSetWake sleepMask offMask low critical shutdown autoOn s).2.bga = s.bga ∧
      (answerSetWake sleepMask offMask low critical shutdown autoOn s).2.plc = s.plc ∧
      (answerSetWake sleepMask offMask low critical shutdown autoOn s).2.hsi = s.hsi ∧
      (answerSetWake sleepMask offMask low critical shutdown autoOn s).2.psm = s.psm ∧
      (answerSetWake sleepMask offMask low critical shutdown autoOn s).2.kbs = s.kbs ∧
      (answerSetWake sleepMask offMask low critical shutdown autoOn s).2.thc = s.thc ∧
      (answerSetWake sleepMask offMask low critical shutdown autoOn s).2.fsu = s.fsu ∧
      (answerSetWake sleepMask offMask low critical shutdown autoOn s).2.evr = s.evr ∧
      (answerSetWake sleepMask offMask low critical shutdown autoOn s).2.hlk = s.hlk ∧
      (answerSetWake sleepMask offMask low critical shutdown autoOn s).2.sts = s.sts ∧
      (answerSetWake sleepMask offMask low critical shutdown autoOn s).2.pending = s.pending ∧
      (answerSetWake sleepMask offMask low critical shutdown autoOn s).2.swc.presses = s.swc.presses ∧
      (answerSetWake sleepMask offMask low critical shutdown autoOn s).2.swc.wakeTimer = s.swc.wakeTimer := by
  simp only [answerSetWake]
  repeat' split
  all_goals simp

@[simp] theorem answerSetWakeTimer_frame (seconds : BitVec 32) (s : State) :
    (answerSetWakeTimer seconds s).2.time = s.time ∧ (answerSetWakeTimer seconds s).2.pth = s.pth ∧
      (answerSetWakeTimer seconds s).2.chc = s.chc ∧ (answerSetWakeTimer seconds s).2.bga = s.bga ∧
      (answerSetWakeTimer seconds s).2.plc = s.plc ∧ (answerSetWakeTimer seconds s).2.hsi = s.hsi ∧
      (answerSetWakeTimer seconds s).2.psm = s.psm ∧ (answerSetWakeTimer seconds s).2.kbs = s.kbs ∧
      (answerSetWakeTimer seconds s).2.thc = s.thc ∧ (answerSetWakeTimer seconds s).2.fsu = s.fsu ∧
      (answerSetWakeTimer seconds s).2.evr = s.evr ∧ (answerSetWakeTimer seconds s).2.hlk = s.hlk ∧
      (answerSetWakeTimer seconds s).2.sts = s.sts ∧ (answerSetWakeTimer seconds s).2.pending = s.pending ∧
      (answerSetWakeTimer seconds s).2.swc.presses = s.swc.presses ∧
      (answerSetWakeTimer seconds s).2.swc.settings = s.swc.settings := by
  simp only [answerSetWakeTimer]
  repeat' split
  all_goals simp

@[simp] theorem answerReadWake_frame (s : State) :
    (answerReadWake s).2.time = s.time ∧ (answerReadWake s).2.pth = s.pth ∧ (answerReadWake s).2.chc = s.chc ∧
      (answerReadWake s).2.bga = s.bga ∧ (answerReadWake s).2.plc = s.plc ∧ (answerReadWake s).2.hsi = s.hsi ∧
      (answerReadWake s).2.psm = s.psm ∧ (answerReadWake s).2.kbs = s.kbs ∧ (answerReadWake s).2.thc = s.thc ∧
      (answerReadWake s).2.swc = s.swc ∧ (answerReadWake s).2.fsu = s.fsu ∧ (answerReadWake s).2.evr = s.evr ∧
      (answerReadWake s).2.hlk = s.hlk ∧ (answerReadWake s).2.sts = s.sts ∧
      (answerReadWake s).2.pending = s.pending := by
  simp only [answerReadWake]
  repeat' split
  all_goals simp

@[simp] theorem setPresses_frame (n : Nat) (s : State) :
    (setPresses n s).time = s.time ∧ (setPresses n s).pth = s.pth ∧ (setPresses n s).chc = s.chc ∧
      (setPresses n s).bga = s.bga ∧ (setPresses n s).plc = s.plc ∧ (setPresses n s).hsi = s.hsi ∧
      (setPresses n s).psm = s.psm ∧ (setPresses n s).kbs = s.kbs ∧ (setPresses n s).thc = s.thc ∧
      (setPresses n s).fsu = s.fsu ∧ (setPresses n s).sts = s.sts ∧ (setPresses n s).pending = s.pending ∧
      (setPresses n s).swc.settings = s.swc.settings ∧ (setPresses n s).swc.wakeTimer = s.swc.wakeTimer ∧
      (setPresses n s).evr.routes = s.evr.routes ∧ (setPresses n s).hlk.queue = s.hlk.queue ∧
      (setPresses n s).hlk.resetPending = s.hlk.resetPending ∧ (setPresses n s).hlk.rx = s.hlk.rx ∧
      (setPresses n s).hlk.series = s.hlk.series ∧ (setPresses n s).hlk.held = s.hlk.held := by
  simp only [setPresses]
  repeat' split
  all_goals simp

@[simp] theorem answerTakePress_frame (s : State) :
    (answerTakePress s).2.time = s.time ∧ (answerTakePress s).2.pth = s.pth ∧
      (answerTakePress s).2.chc = s.chc ∧ (answerTakePress s).2.bga = s.bga ∧
      (answerTakePress s).2.plc = s.plc ∧ (answerTakePress s).2.hsi = s.hsi ∧
      (answerTakePress s).2.psm = s.psm ∧ (answerTakePress s).2.kbs = s.kbs ∧
      (answerTakePress s).2.thc = s.thc ∧ (answerTakePress s).2.fsu = s.fsu ∧
      (answerTakePress s).2.sts = s.sts ∧ (answerTakePress s).2.pending = s.pending ∧
      (answerTakePress s).2.swc.settings = s.swc.settings ∧
      (answerTakePress s).2.swc.wakeTimer = s.swc.wakeTimer ∧ (answerTakePress s).2.evr.routes = s.evr.routes ∧
      (answerTakePress s).2.hlk.queue = s.hlk.queue ∧
      (answerTakePress s).2.hlk.resetPending = s.hlk.resetPending ∧ (answerTakePress s).2.hlk.rx = s.hlk.rx ∧
      (answerTakePress s).2.hlk.series = s.hlk.series ∧ (answerTakePress s).2.hlk.held = s.hlk.held := by
  simp only [answerTakePress]
  repeat' split
  all_goals simp

@[simp] theorem fallAsleep_frame (s : State) :
    (fallAsleep s).time = s.time ∧ (fallAsleep s).pth = s.pth ∧ (fallAsleep s).chc = s.chc ∧
      (fallAsleep s).bga = s.bga ∧ (fallAsleep s).hsi = s.hsi ∧ (fallAsleep s).psm = s.psm ∧
      (fallAsleep s).fsu = s.fsu ∧ (fallAsleep s).sts = s.sts ∧ (fallAsleep s).pending = s.pending ∧
      (fallAsleep s).plc.devices = s.plc.devices ∧ (fallAsleep s).plc.pass = s.plc.pass ∧
      (fallAsleep s).plc.caught = s.plc.caught ∧ (fallAsleep s).plc.result = s.plc.result ∧
      (fallAsleep s).kbs.settings = s.kbs.settings ∧ (fallAsleep s).thc.holds = s.thc.holds ∧
      (fallAsleep s).thc.inputs = s.thc.inputs ∧ (fallAsleep s).thc.floor = s.thc.floor ∧
      (fallAsleep s).thc.trip = s.thc.trip ∧ (fallAsleep s).thc.curves = s.thc.curves ∧
      (fallAsleep s).swc.presses = s.swc.presses ∧ (fallAsleep s).swc.settings = s.swc.settings ∧
      (fallAsleep s).swc.wakeTimer = s.swc.wakeTimer ∧ (fallAsleep s).evr.routes = s.evr.routes ∧
      (fallAsleep s).hlk.queue = s.hlk.queue ∧ (fallAsleep s).hlk.resetPending = s.hlk.resetPending ∧
      (fallAsleep s).hlk.rx = s.hlk.rx ∧ (fallAsleep s).hlk.series = s.hlk.series ∧
      (fallAsleep s).hlk.held = s.hlk.held := by
  simp only [fallAsleep]
  repeat' split
  all_goals simp

@[simp] theorem pressButton_frame (s : State) :
    (pressButton s).time = s.time ∧ (pressButton s).pth = s.pth ∧ (pressButton s).chc = s.chc ∧
      (pressButton s).bga = s.bga ∧ (pressButton s).hsi = s.hsi ∧ (pressButton s).psm = s.psm ∧
      (pressButton s).fsu = s.fsu ∧ (pressButton s).sts = s.sts ∧ (pressButton s).pending = s.pending ∧
      (pressButton s).plc.devices = s.plc.devices ∧ (pressButton s).plc.pass = s.plc.pass ∧
      (pressButton s).plc.caught = s.plc.caught ∧ (pressButton s).plc.result = s.plc.result ∧
      (pressButton s).kbs.settings = s.kbs.settings ∧ (pressButton s).thc.holds = s.thc.holds ∧
      (pressButton s).thc.inputs = s.thc.inputs ∧ (pressButton s).thc.floor = s.thc.floor ∧
      (pressButton s).thc.trip = s.thc.trip ∧ (pressButton s).thc.curves = s.thc.curves ∧
      (pressButton s).swc.settings = s.swc.settings ∧ (pressButton s).swc.wakeTimer = s.swc.wakeTimer ∧
      (pressButton s).evr.routes = s.evr.routes ∧ (pressButton s).hlk.queue = s.hlk.queue ∧
      (pressButton s).hlk.resetPending = s.hlk.resetPending ∧ (pressButton s).hlk.rx = s.hlk.rx ∧
      (pressButton s).hlk.series = s.hlk.series ∧ (pressButton s).hlk.held = s.hlk.held := by
  simp only [pressButton]
  repeat' split
  all_goals simp

@[simp] theorem markFault_frame (c : FaultCode) (st : FaultState) (s : State) :
    (markFault c st s).time = s.time ∧ (markFault c st s).pth = s.pth ∧ (markFault c st s).chc = s.chc ∧
      (markFault c st s).bga = s.bga ∧ (markFault c st s).plc = s.plc ∧ (markFault c st s).hsi = s.hsi ∧
      (markFault c st s).psm = s.psm ∧ (markFault c st s).kbs = s.kbs ∧ (markFault c st s).thc = s.thc ∧
      (markFault c st s).swc = s.swc ∧ (markFault c st s).sts = s.sts ∧ (markFault c st s).pending = s.pending ∧
      (markFault c st s).evr.routes = s.evr.routes ∧ (markFault c st s).hlk.queue = s.hlk.queue ∧
      (markFault c st s).hlk.resetPending = s.hlk.resetPending ∧ (markFault c st s).hlk.rx = s.hlk.rx ∧
      (markFault c st s).hlk.series = s.hlk.series ∧ (markFault c st s).hlk.held = s.hlk.held := by
  simp only [markFault]
  repeat' split
  all_goals simp

@[simp] theorem answerFetchFault_frame (s : State) :
    (answerFetchFault s).2.time = s.time ∧ (answerFetchFault s).2.pth = s.pth ∧
      (answerFetchFault s).2.chc = s.chc ∧ (answerFetchFault s).2.bga = s.bga ∧
      (answerFetchFault s).2.plc = s.plc ∧ (answerFetchFault s).2.hsi = s.hsi ∧
      (answerFetchFault s).2.psm = s.psm ∧ (answerFetchFault s).2.kbs = s.kbs ∧
      (answerFetchFault s).2.thc = s.thc ∧ (answerFetchFault s).2.swc = s.swc ∧
      (answerFetchFault s).2.sts = s.sts ∧ (answerFetchFault s).2.pending = s.pending ∧
      (answerFetchFault s).2.evr.routes = s.evr.routes ∧ (answerFetchFault s).2.hlk.queue = s.hlk.queue ∧
      (answerFetchFault s).2.hlk.resetPending = s.hlk.resetPending ∧ (answerFetchFault s).2.hlk.rx = s.hlk.rx ∧
      (answerFetchFault s).2.hlk.series = s.hlk.series ∧ (answerFetchFault s).2.hlk.held = s.hlk.held := by
  simp only [answerFetchFault]
  repeat' split
  all_goals simp

@[simp] theorem clearOwner_frame (c : FaultCode) (s : State) :
    (clearOwner c s).time = s.time ∧ (clearOwner c s).bga = s.bga ∧ (clearOwner c s).hsi = s.hsi ∧
      (clearOwner c s).psm = s.psm ∧ (clearOwner c s).kbs = s.kbs ∧ (clearOwner c s).thc = s.thc ∧
      (clearOwner c s).swc = s.swc ∧ (clearOwner c s).fsu = s.fsu ∧ (clearOwner c s).sts = s.sts ∧
      (clearOwner c s).pending = s.pending ∧ (clearOwner c s).pth.path = s.pth.path ∧
      (clearOwner c s).pth.swAdp = s.pth.swAdp ∧ (clearOwner c s).pth.swPa = s.pth.swPa ∧
      (clearOwner c s).pth.swPb = s.pth.swPb ∧ (clearOwner c s).pth.adapter = s.pth.adapter ∧
      (clearOwner c s).pth.preference = s.pth.preference ∧ (clearOwner c s).pth.ejectOk = s.pth.ejectOk ∧
      (clearOwner c s).pth.ejectWindow = s.pth.ejectWindow ∧ (clearOwner c s).chc.order = s.chc.order ∧
      (clearOwner c s).chc.threshold = s.chc.threshold ∧ (clearOwner c s).chc.openRow = s.chc.openRow ∧
      (clearOwner c s).chc.latches = s.chc.latches ∧ (clearOwner c s).chc.table = s.chc.table ∧
      (clearOwner c s).plc.devices = s.plc.devices ∧ (clearOwner c s).plc.pass = s.plc.pass ∧
      (clearOwner c s).plc.caught = s.plc.caught ∧ (clearOwner c s).plc.result = s.plc.result ∧
      (clearOwner c s).evr.routes = s.evr.routes ∧ (clearOwner c s).evr.button = s.evr.button ∧
      (clearOwner c s).evr.keys = s.evr.keys ∧ (clearOwner c s).evr.capture = s.evr.capture ∧
      (clearOwner c s).evr.fault = s.evr.fault ∧ (clearOwner c s).hlk.queue = s.hlk.queue ∧
      (clearOwner c s).hlk.resetPending = s.hlk.resetPending ∧ (clearOwner c s).hlk.rx = s.hlk.rx ∧
      (clearOwner c s).hlk.series = s.hlk.series ∧ (clearOwner c s).hlk.held = s.hlk.held := by
  simp only [clearOwner]
  repeat' split
  all_goals simp

@[simp] theorem answerClearFault_frame (code : Byte) (s : State) :
    (answerClearFault code s).2.time = s.time ∧ (answerClearFault code s).2.bga = s.bga ∧
      (answerClearFault code s).2.hsi = s.hsi ∧ (answerClearFault code s).2.psm = s.psm ∧
      (answerClearFault code s).2.kbs = s.kbs ∧ (answerClearFault code s).2.thc = s.thc ∧
      (answerClearFault code s).2.swc = s.swc ∧ (answerClearFault code s).2.sts = s.sts ∧
      (answerClearFault code s).2.pending = s.pending ∧ (answerClearFault code s).2.pth.path = s.pth.path ∧
      (answerClearFault code s).2.pth.swAdp = s.pth.swAdp ∧ (answerClearFault code s).2.pth.swPa = s.pth.swPa ∧
      (answerClearFault code s).2.pth.swPb = s.pth.swPb ∧
      (answerClearFault code s).2.pth.adapter = s.pth.adapter ∧
      (answerClearFault code s).2.pth.preference = s.pth.preference ∧
      (answerClearFault code s).2.pth.ejectOk = s.pth.ejectOk ∧
      (answerClearFault code s).2.pth.ejectWindow = s.pth.ejectWindow ∧
      (answerClearFault code s).2.chc.order = s.chc.order ∧
      (answerClearFault code s).2.chc.threshold = s.chc.threshold ∧
      (answerClearFault code s).2.chc.openRow = s.chc.openRow ∧
      (answerClearFault code s).2.chc.latches = s.chc.latches ∧
      (answerClearFault code s).2.chc.table = s.chc.table ∧
      (answerClearFault code s).2.plc.devices = s.plc.devices ∧
      (answerClearFault code s).2.plc.pass = s.plc.pass ∧
      (answerClearFault code s).2.plc.caught = s.plc.caught ∧
      (answerClearFault code s).2.plc.result = s.plc.result ∧
      (answerClearFault code s).2.evr.routes = s.evr.routes ∧
      (answerClearFault code s).2.hlk.queue = s.hlk.queue ∧
      (answerClearFault code s).2.hlk.resetPending = s.hlk.resetPending ∧
      (answerClearFault code s).2.hlk.rx = s.hlk.rx ∧ (answerClearFault code s).2.hlk.series = s.hlk.series ∧
      (answerClearFault code s).2.hlk.held = s.hlk.held := by
  simp only [answerClearFault]
  repeat' split
  all_goals simp

@[simp] theorem restart_frame (j : Job) (fromOff : Bool) (s : State) :
    (restart j fromOff s).2.time = s.time ∧ (restart j fromOff s).2.sts = s.sts ∧
      (restart j fromOff s).2.pending = s.pending ∧ (restart j fromOff s).2.pth.adapter = s.pth.adapter ∧
      (restart j fromOff s).2.pth.packA = s.pth.packA ∧
      (restart j fromOff s).2.pth.preference = s.pth.preference ∧
      (restart j fromOff s).2.chc.order = s.chc.order ∧
      (restart j fromOff s).2.chc.threshold = s.chc.threshold ∧
      (restart j fromOff s).2.chc.openRow = s.chc.openRow ∧
      (restart j fromOff s).2.chc.latches = s.chc.latches ∧ (restart j fromOff s).2.chc.table = s.chc.table ∧
      (restart j fromOff s).2.plc.result = s.plc.result ∧ (restart j fromOff s).2.hsi.raw = s.hsi.raw ∧
      (restart j fromOff s).2.hsi.reported = s.hsi.reported ∧
      (restart j fromOff s).2.hsi.rejected = s.hsi.rejected ∧ (restart j fromOff s).2.psm.lid = s.psm.lid ∧
      (restart j fromOff s).2.psm.tablet = s.psm.tablet ∧
      (restart j fromOff s).2.psm.conflict = s.psm.conflict ∧
      (restart j fromOff s).2.psm.settings = s.psm.settings ∧
      (restart j fromOff s).2.psm.evaluated = s.psm.evaluated ∧
      (restart j fromOff s).2.kbs.settings = s.kbs.settings ∧
      (restart j fromOff s).2.thc.inputs = s.thc.inputs ∧ (restart j fromOff s).2.thc.floor = s.thc.floor ∧
      (restart j fromOff s).2.thc.trip = s.thc.trip ∧ (restart j fromOff s).2.thc.curves = s.thc.curves ∧
      (restart j fromOff s).2.swc.presses = s.swc.presses ∧
      (restart j fromOff s).2.swc.settings = s.swc.settings ∧
      (restart j fromOff s).2.swc.wakeTimer = s.swc.wakeTimer ∧
      (restart j fromOff s).2.fsu.table = s.fsu.table ∧ (restart j fromOff s).2.evr.routes = s.evr.routes ∧
      (restart j fromOff s).2.hlk.queue = s.hlk.queue ∧
      (restart j fromOff s).2.hlk.resetPending = s.hlk.resetPending ∧
      (restart j fromOff s).2.hlk.rx = s.hlk.rx ∧ (restart j fromOff s).2.hlk.series = s.hlk.series ∧
      (restart j fromOff s).2.hlk.held = s.hlk.held := by
  simp only [restart]
  repeat' split
  all_goals simp

@[simp] theorem answerRestartJob_frame (job : Byte) (s : State) :
    (answerRestartJob job s).2.time = s.time ∧ (answerRestartJob job s).2.sts = s.sts ∧
      (answerRestartJob job s).2.pending = s.pending ∧ (answerRestartJob job s).2.pth.adapter = s.pth.adapter ∧
      (answerRestartJob job s).2.pth.packA = s.pth.packA ∧
      (answerRestartJob job s).2.pth.preference = s.pth.preference ∧
      (answerRestartJob job s).2.chc.order = s.chc.order ∧
      (answerRestartJob job s).2.chc.threshold = s.chc.threshold ∧
      (answerRestartJob job s).2.chc.openRow = s.chc.openRow ∧
      (answerRestartJob job s).2.chc.latches = s.chc.latches ∧
      (answerRestartJob job s).2.chc.table = s.chc.table ∧
      (answerRestartJob job s).2.plc.result = s.plc.result ∧ (answerRestartJob job s).2.hsi.raw = s.hsi.raw ∧
      (answerRestartJob job s).2.hsi.reported = s.hsi.reported ∧
      (answerRestartJob job s).2.hsi.rejected = s.hsi.rejected ∧
      (answerRestartJob job s).2.psm.lid = s.psm.lid ∧ (answerRestartJob job s).2.psm.tablet = s.psm.tablet ∧
      (answerRestartJob job s).2.psm.conflict = s.psm.conflict ∧
      (answerRestartJob job s).2.psm.settings = s.psm.settings ∧
      (answerRestartJob job s).2.psm.evaluated = s.psm.evaluated ∧
      (answerRestartJob job s).2.kbs.settings = s.kbs.settings ∧
      (answerRestartJob job s).2.thc.inputs = s.thc.inputs ∧
      (answerRestartJob job s).2.thc.floor = s.thc.floor ∧ (answerRestartJob job s).2.thc.trip = s.thc.trip ∧
      (answerRestartJob job s).2.thc.curves = s.thc.curves ∧
      (answerRestartJob job s).2.swc.presses = s.swc.presses ∧
      (answerRestartJob job s).2.swc.settings = s.swc.settings ∧
      (answerRestartJob job s).2.swc.wakeTimer = s.swc.wakeTimer ∧
      (answerRestartJob job s).2.fsu.table = s.fsu.table ∧
      (answerRestartJob job s).2.evr.routes = s.evr.routes ∧
      (answerRestartJob job s).2.hlk.queue = s.hlk.queue ∧
      (answerRestartJob job s).2.hlk.resetPending = s.hlk.resetPending ∧
      (answerRestartJob job s).2.hlk.rx = s.hlk.rx ∧ (answerRestartJob job s).2.hlk.series = s.hlk.series ∧
      (answerRestartJob job s).2.hlk.held = s.hlk.held := by
  simp only [answerRestartJob]
  repeat' split
  all_goals simp

@[simp] theorem answerHaltJob_frame (job : Byte) (dest : Byte) (s : State) :
    (answerHaltJob job dest s).2.time = s.time ∧ (answerHaltJob job dest s).2.pth = s.pth ∧
      (answerHaltJob job dest s).2.sts = s.sts ∧ (answerHaltJob job dest s).2.pending = s.pending ∧
      (answerHaltJob job dest s).2.chc.order = s.chc.order ∧
      (answerHaltJob job dest s).2.chc.threshold = s.chc.threshold ∧
      (answerHaltJob job dest s).2.chc.openRow = s.chc.openRow ∧
      (answerHaltJob job dest s).2.chc.latches = s.chc.latches ∧
      (answerHaltJob job dest s).2.chc.table = s.chc.table ∧
      (answerHaltJob job dest s).2.plc.devices = s.plc.devices ∧
      (answerHaltJob job dest s).2.hsi.monitors = s.hsi.monitors ∧
      (answerHaltJob job dest s).2.hsi.validity = s.hsi.validity ∧
      (answerHaltJob job dest s).2.hsi.raw = s.hsi.raw ∧
      (answerHaltJob job dest s).2.hsi.reported = s.hsi.reported ∧
      (answerHaltJob job dest s).2.hsi.rejected = s.hsi.rejected ∧
      (answerHaltJob job dest s).2.hsi.hysteresis = s.hsi.hysteresis ∧
      (answerHaltJob job dest s).2.hsi.nominal = s.hsi.nominal ∧
      (answerHaltJob job dest s).2.hsi.closedRef = s.hsi.closedRef ∧
      (answerHaltJob job dest s).2.psm.lid = s.psm.lid ∧
      (answerHaltJob job dest s).2.psm.tablet = s.psm.tablet ∧
      (answerHaltJob job dest s).2.psm.conflict = s.psm.conflict ∧
      (answerHaltJob job dest s).2.psm.settings = s.psm.settings ∧
      (answerHaltJob job dest s).2.psm.evaluated = s.psm.evaluated ∧
      (answerHaltJob job dest s).2.kbs.settings = s.kbs.settings ∧
      (answerHaltJob job dest s).2.thc.holds = s.thc.holds ∧
      (answerHaltJob job dest s).2.thc.inputs = s.thc.inputs ∧
      (answerHaltJob job dest s).2.thc.floor = s.thc.floor ∧
      (answerHaltJob job dest s).2.thc.trip = s.thc.trip ∧
      (answerHaltJob job dest s).2.thc.curves = s.thc.curves ∧
      (answerHaltJob job dest s).2.swc.presses = s.swc.presses ∧
      (answerHaltJob job dest s).2.swc.settings = s.swc.settings ∧
      (answerHaltJob job dest s).2.swc.wakeTimer = s.swc.wakeTimer ∧
      (answerHaltJob job dest s).2.fsu.table = s.fsu.table ∧
      (answerHaltJob job dest s).2.evr.routes = s.evr.routes ∧
      (answerHaltJob job dest s).2.hlk.queue = s.hlk.queue ∧
      (answerHaltJob job dest s).2.hlk.resetPending = s.hlk.resetPending ∧
      (answerHaltJob job dest s).2.hlk.rx = s.hlk.rx ∧ (answerHaltJob job dest s).2.hlk.series = s.hlk.series ∧
      (answerHaltJob job dest s).2.hlk.held = s.hlk.held := by
  simp only [answerHaltJob]
  repeat' split
  all_goals simp

@[simp] theorem setRecovery_frame (j : Job) (r : Option Recovery) (s : State) :
    (setRecovery j r s).time = s.time ∧ (setRecovery j r s).pth = s.pth ∧ (setRecovery j r s).chc = s.chc ∧
      (setRecovery j r s).bga = s.bga ∧ (setRecovery j r s).plc = s.plc ∧ (setRecovery j r s).hsi = s.hsi ∧
      (setRecovery j r s).psm = s.psm ∧ (setRecovery j r s).kbs = s.kbs ∧ (setRecovery j r s).thc = s.thc ∧
      (setRecovery j r s).swc = s.swc ∧ (setRecovery j r s).evr = s.evr ∧ (setRecovery j r s).hlk = s.hlk ∧
      (setRecovery j r s).sts = s.sts ∧ (setRecovery j r s).pending = s.pending ∧
      (setRecovery j r s).fsu.table = s.fsu.table := by
  simp only [setRecovery]
  repeat' split
  all_goals simp

@[simp] theorem answerSetRecovery_frame (power : Byte) (link : Byte) (hinge : Byte) (keys : Byte) (thermal : Byte) (s : State) :
    (answerSetRecovery power link hinge keys thermal s).2.time = s.time ∧
      (answerSetRecovery power link hinge keys thermal s).2.pth = s.pth ∧
      (answerSetRecovery power link hinge keys thermal s).2.chc = s.chc ∧
      (answerSetRecovery power link hinge keys thermal s).2.bga = s.bga ∧
      (answerSetRecovery power link hinge keys thermal s).2.plc = s.plc ∧
      (answerSetRecovery power link hinge keys thermal s).2.hsi = s.hsi ∧
      (answerSetRecovery power link hinge keys thermal s).2.psm = s.psm ∧
      (answerSetRecovery power link hinge keys thermal s).2.kbs = s.kbs ∧
      (answerSetRecovery power link hinge keys thermal s).2.thc = s.thc ∧
      (answerSetRecovery power link hinge keys thermal s).2.swc = s.swc ∧
      (answerSetRecovery power link hinge keys thermal s).2.evr = s.evr ∧
      (answerSetRecovery power link hinge keys thermal s).2.hlk = s.hlk ∧
      (answerSetRecovery power link hinge keys thermal s).2.sts = s.sts ∧
      (answerSetRecovery power link hinge keys thermal s).2.pending = s.pending ∧
      (answerSetRecovery power link hinge keys thermal s).2.fsu.table = s.fsu.table := by
  simp only [answerSetRecovery]
  repeat' split
  all_goals simp

@[simp] theorem answerFetchEvents_frame (c : Channel) (max : Byte) (s : State) :
    (answerFetchEvents c max s).2.time = s.time ∧ (answerFetchEvents c max s).2.pth = s.pth ∧
      (answerFetchEvents c max s).2.chc = s.chc ∧ (answerFetchEvents c max s).2.bga = s.bga ∧
      (answerFetchEvents c max s).2.plc = s.plc ∧ (answerFetchEvents c max s).2.hsi = s.hsi ∧
      (answerFetchEvents c max s).2.psm = s.psm ∧ (answerFetchEvents c max s).2.kbs = s.kbs ∧
      (answerFetchEvents c max s).2.thc = s.thc ∧ (answerFetchEvents c max s).2.swc = s.swc ∧
      (answerFetchEvents c max s).2.fsu = s.fsu ∧ (answerFetchEvents c max s).2.hlk = s.hlk ∧
      (answerFetchEvents c max s).2.sts = s.sts ∧ (answerFetchEvents c max s).2.pending = s.pending ∧
      (answerFetchEvents c max s).2.evr.routes = s.evr.routes ∧
      (answerFetchEvents c max s).2.evr.button = s.evr.button ∧
      (answerFetchEvents c max s).2.evr.keys = s.evr.keys ∧
      (answerFetchEvents c max s).2.evr.capture = s.evr.capture ∧
      (answerFetchEvents c max s).2.evr.fault = s.evr.fault := by
  simp only [answerFetchEvents]
  repeat' split
  all_goals simp

@[simp] theorem rerouteOn_frame (c : Channel) (e : EvSource) (before : Route) (after : Route) (s : State) :
    (rerouteOn c e before after s).time = s.time ∧ (rerouteOn c e before after s).pth = s.pth ∧
      (rerouteOn c e before after s).chc = s.chc ∧ (rerouteOn c e before after s).bga = s.bga ∧
      (rerouteOn c e before after s).plc = s.plc ∧ (rerouteOn c e before after s).hsi = s.hsi ∧
      (rerouteOn c e before after s).psm = s.psm ∧ (rerouteOn c e before after s).kbs = s.kbs ∧
      (rerouteOn c e before after s).thc = s.thc ∧ (rerouteOn c e before after s).swc = s.swc ∧
      (rerouteOn c e before after s).fsu = s.fsu ∧ (rerouteOn c e before after s).sts = s.sts ∧
      (rerouteOn c e before after s).pending = s.pending ∧
      (rerouteOn c e before after s).evr.routes = s.evr.routes ∧
      (rerouteOn c e before after s).evr.button = s.evr.button ∧
      (rerouteOn c e before after s).evr.keys = s.evr.keys ∧
      (rerouteOn c e before after s).evr.capture = s.evr.capture ∧
      (rerouteOn c e before after s).evr.fault = s.evr.fault ∧
      (rerouteOn c e before after s).hlk.queue = s.hlk.queue ∧
      (rerouteOn c e before after s).hlk.resetPending = s.hlk.resetPending ∧
      (rerouteOn c e before after s).hlk.rx = s.hlk.rx ∧
      (rerouteOn c e before after s).hlk.series = s.hlk.series ∧
      (rerouteOn c e before after s).hlk.held = s.hlk.held := by
  simp only [rerouteOn]
  repeat' split
  all_goals simp

@[simp] theorem reroute_frame (e : EvSource) (r : Route) (s : State) :
    (reroute e r s).time = s.time ∧ (reroute e r s).pth = s.pth ∧ (reroute e r s).chc = s.chc ∧
      (reroute e r s).bga = s.bga ∧ (reroute e r s).plc = s.plc ∧ (reroute e r s).hsi = s.hsi ∧
      (reroute e r s).psm = s.psm ∧ (reroute e r s).kbs = s.kbs ∧ (reroute e r s).thc = s.thc ∧
      (reroute e r s).swc = s.swc ∧ (reroute e r s).fsu = s.fsu ∧ (reroute e r s).sts = s.sts ∧
      (reroute e r s).pending = s.pending ∧ (reroute e r s).evr.button = s.evr.button ∧
      (reroute e r s).evr.keys = s.evr.keys ∧ (reroute e r s).evr.capture = s.evr.capture ∧
      (reroute e r s).evr.fault = s.evr.fault ∧ (reroute e r s).hlk.queue = s.hlk.queue ∧
      (reroute e r s).hlk.resetPending = s.hlk.resetPending ∧ (reroute e r s).hlk.rx = s.hlk.rx ∧
      (reroute e r s).hlk.series = s.hlk.series ∧ (reroute e r s).hlk.held = s.hlk.held := by
  simp only [reroute]
  repeat' split
  all_goals simp

@[simp] theorem answerSetRoute_frame (source : Byte) (route : Byte) (s : State) :
    (answerSetRoute source route s).2.time = s.time ∧ (answerSetRoute source route s).2.pth = s.pth ∧
      (answerSetRoute source route s).2.chc = s.chc ∧ (answerSetRoute source route s).2.bga = s.bga ∧
      (answerSetRoute source route s).2.plc = s.plc ∧ (answerSetRoute source route s).2.hsi = s.hsi ∧
      (answerSetRoute source route s).2.psm = s.psm ∧ (answerSetRoute source route s).2.kbs = s.kbs ∧
      (answerSetRoute source route s).2.thc = s.thc ∧ (answerSetRoute source route s).2.swc = s.swc ∧
      (answerSetRoute source route s).2.fsu = s.fsu ∧ (answerSetRoute source route s).2.sts = s.sts ∧
      (answerSetRoute source route s).2.pending = s.pending ∧
      (answerSetRoute source route s).2.evr.button = s.evr.button ∧
      (answerSetRoute source route s).2.evr.keys = s.evr.keys ∧
      (answerSetRoute source route s).2.evr.capture = s.evr.capture ∧
      (answerSetRoute source route s).2.evr.fault = s.evr.fault ∧
      (answerSetRoute source route s).2.hlk.queue = s.hlk.queue ∧
      (answerSetRoute source route s).2.hlk.resetPending = s.hlk.resetPending ∧
      (answerSetRoute source route s).2.hlk.rx = s.hlk.rx ∧
      (answerSetRoute source route s).2.hlk.series = s.hlk.series ∧
      (answerSetRoute source route s).2.hlk.held = s.hlk.held := by
  simp only [answerSetRoute]
  repeat' split
  all_goals simp

@[simp] theorem loadSettings_frame (s : State) :
    (loadSettings s).time = s.time ∧ (loadSettings s).hsi = s.hsi ∧ (loadSettings s).hlk = s.hlk ∧
      (loadSettings s).sts = s.sts ∧ (loadSettings s).pending = s.pending ∧
      (loadSettings s).pth.path = s.pth.path ∧ (loadSettings s).pth.swAdp = s.pth.swAdp ∧
      (loadSettings s).pth.swPa = s.pth.swPa ∧ (loadSettings s).pth.swPb = s.pth.swPb ∧
      (loadSettings s).pth.packA = s.pth.packA ∧ (loadSettings s).pth.packB = s.pth.packB ∧
      (loadSettings s).pth.ejectOk = s.pth.ejectOk ∧ (loadSettings s).pth.ejectWindow = s.pth.ejectWindow ∧
      (loadSettings s).plc.pass = s.plc.pass ∧ (loadSettings s).plc.caught = s.plc.caught ∧
      (loadSettings s).plc.result = s.plc.result ∧ (loadSettings s).plc.asked = s.plc.asked ∧
      (loadSettings s).psm.lid = s.psm.lid ∧ (loadSettings s).psm.tablet = s.psm.tablet ∧
      (loadSettings s).psm.conflict = s.psm.conflict ∧ (loadSettings s).psm.evaluated = s.psm.evaluated ∧
      (loadSettings s).kbs.queue = s.kbs.queue ∧ (loadSettings s).swc.presses = s.swc.presses ∧
      (loadSettings s).swc.wakeTimer = s.swc.wakeTimer ∧ (loadSettings s).evr.listS = s.evr.listS ∧
      (loadSettings s).evr.listP = s.evr.listP ∧ (loadSettings s).evr.button = s.evr.button ∧
      (loadSettings s).evr.keys = s.evr.keys ∧ (loadSettings s).evr.capture = s.evr.capture ∧
      (loadSettings s).evr.fault = s.evr.fault := by
  simp only [loadSettings]
  repeat' split
  all_goals simp

@[simp] theorem reportRow_frame (row : Nat) (valid : Bool) (s : State) :
    (reportRow row valid s).time = s.time ∧ (reportRow row valid s).pth = s.pth ∧
      (reportRow row valid s).chc = s.chc ∧ (reportRow row valid s).bga = s.bga ∧
      (reportRow row valid s).plc = s.plc ∧ (reportRow row valid s).hsi = s.hsi ∧
      (reportRow row valid s).psm = s.psm ∧ (reportRow row valid s).kbs = s.kbs ∧
      (reportRow row valid s).thc = s.thc ∧ (reportRow row valid s).swc = s.swc ∧
      (reportRow row valid s).fsu = s.fsu ∧ (reportRow row valid s).sts = s.sts ∧
      (reportRow row valid s).pending = s.pending ∧ (reportRow row valid s).evr.routes = s.evr.routes ∧
      (reportRow row valid s).evr.button = s.evr.button ∧ (reportRow row valid s).evr.keys = s.evr.keys ∧
      (reportRow row valid s).evr.capture = s.evr.capture ∧ (reportRow row valid s).evr.fault = s.evr.fault ∧
      (reportRow row valid s).hlk.queue = s.hlk.queue ∧
      (reportRow row valid s).hlk.resetPending = s.hlk.resetPending ∧
      (reportRow row valid s).hlk.rx = s.hlk.rx ∧ (reportRow row valid s).hlk.series = s.hlk.series ∧
      (reportRow row valid s).hlk.held = s.hlk.held := by
  simp only [reportRow]
  repeat' split
  all_goals simp

@[simp] theorem reportRows_frame (s : State) :
    (reportRows s).time = s.time ∧ (reportRows s).pth = s.pth ∧ (reportRows s).chc = s.chc ∧
      (reportRows s).bga = s.bga ∧ (reportRows s).plc = s.plc ∧ (reportRows s).hsi = s.hsi ∧
      (reportRows s).psm = s.psm ∧ (reportRows s).kbs = s.kbs ∧ (reportRows s).thc = s.thc ∧
      (reportRows s).swc = s.swc ∧ (reportRows s).fsu = s.fsu ∧ (reportRows s).sts = s.sts ∧
      (reportRows s).pending = s.pending ∧ (reportRows s).evr.routes = s.evr.routes ∧
      (reportRows s).evr.button = s.evr.button ∧ (reportRows s).evr.keys = s.evr.keys ∧
      (reportRows s).evr.capture = s.evr.capture ∧ (reportRows s).evr.fault = s.evr.fault ∧
      (reportRows s).hlk.queue = s.hlk.queue ∧ (reportRows s).hlk.resetPending = s.hlk.resetPending ∧
      (reportRows s).hlk.rx = s.hlk.rx ∧ (reportRows s).hlk.series = s.hlk.series ∧
      (reportRows s).hlk.held = s.hlk.held := by
  simp only [reportRows]
  repeat' split
  all_goals simp

@[simp] theorem readLines_frame (l : Lines) (s : State) :
    (readLines l s).time = s.time ∧ (readLines l s).chc = s.chc ∧ (readLines l s).bga = s.bga ∧
      (readLines l s).hsi = s.hsi ∧ (readLines l s).kbs = s.kbs ∧ (readLines l s).thc = s.thc ∧
      (readLines l s).fsu = s.fsu ∧ (readLines l s).evr = s.evr ∧ (readLines l s).hlk = s.hlk ∧
      (readLines l s).sts = s.sts ∧ (readLines l s).pending = s.pending ∧
      (readLines l s).pth.path = s.pth.path ∧ (readLines l s).pth.swAdp = s.pth.swAdp ∧
      (readLines l s).pth.swPa = s.pth.swPa ∧ (readLines l s).pth.swPb = s.pth.swPb ∧
      (readLines l s).pth.preference = s.pth.preference ∧ (readLines l s).pth.ejectOk = s.pth.ejectOk ∧
      (readLines l s).pth.ejectWindow = s.pth.ejectWindow ∧ (readLines l s).plc.devices = s.plc.devices ∧
      (readLines l s).plc.pass = s.plc.pass ∧ (readLines l s).plc.caught = s.plc.caught ∧
      (readLines l s).plc.result = s.plc.result ∧ (readLines l s).plc.asked = s.plc.asked ∧
      (readLines l s).psm.conflict = s.psm.conflict ∧ (readLines l s).psm.settings = s.psm.settings ∧
      (readLines l s).psm.evaluated = s.psm.evaluated ∧ (readLines l s).swc.presses = s.swc.presses ∧
      (readLines l s).swc.settings = s.swc.settings ∧ (readLines l s).swc.wakeTimer = s.swc.wakeTimer := by
  simp only [readLines]
  repeat' split
  all_goals simp

@[simp] theorem shareHinge_frame (s : State) :
    (shareHinge s).time = s.time ∧ (shareHinge s).pth = s.pth ∧ (shareHinge s).chc = s.chc ∧
      (shareHinge s).bga = s.bga ∧ (shareHinge s).plc = s.plc ∧ (shareHinge s).hsi = s.hsi ∧
      (shareHinge s).kbs = s.kbs ∧ (shareHinge s).thc = s.thc ∧ (shareHinge s).swc = s.swc ∧
      (shareHinge s).fsu = s.fsu ∧ (shareHinge s).evr = s.evr ∧ (shareHinge s).hlk = s.hlk ∧
      (shareHinge s).sts = s.sts ∧ (shareHinge s).pending = s.pending ∧ (shareHinge s).psm.lid = s.psm.lid ∧
      (shareHinge s).psm.tablet = s.psm.tablet ∧ (shareHinge s).psm.conflict = s.psm.conflict ∧
      (shareHinge s).psm.settings = s.psm.settings ∧ (shareHinge s).psm.evaluated = s.psm.evaluated := by
  simp only [shareHinge]
  repeat' split
  all_goals simp

@[simp] theorem resetBlocks_frame (s : State) :
    (resetBlocks s).time = s.time ∧ (resetBlocks s).sts = s.sts ∧ (resetBlocks s).pending = s.pending := by
  simp only [resetBlocks]
  repeat' split
  all_goals simp

@[simp] theorem rederive_frame (s : State) :
    (rederive s).time = s.time ∧ (rederive s).pth = s.pth ∧ (rederive s).chc = s.chc ∧
      (rederive s).bga = s.bga ∧ (rederive s).fsu = s.fsu ∧ (rederive s).sts = s.sts ∧
      (rederive s).pending = s.pending ∧ (rederive s).plc.devices = s.plc.devices ∧
      (rederive s).plc.pass = s.plc.pass ∧ (rederive s).plc.caught = s.plc.caught ∧
      (rederive s).plc.result = s.plc.result ∧ (rederive s).hsi.monitors = s.hsi.monitors ∧
      (rederive s).hsi.validity = s.hsi.validity ∧ (rederive s).hsi.raw = s.hsi.raw ∧
      (rederive s).hsi.reported = s.hsi.reported ∧ (rederive s).hsi.rejected = s.hsi.rejected ∧
      (rederive s).hsi.hysteresis = s.hsi.hysteresis ∧ (rederive s).hsi.nominal = s.hsi.nominal ∧
      (rederive s).hsi.closedRef = s.hsi.closedRef ∧ (rederive s).psm.lid = s.psm.lid ∧
      (rederive s).psm.tablet = s.psm.tablet ∧ (rederive s).psm.conflict = s.psm.conflict ∧
      (rederive s).psm.settings = s.psm.settings ∧ (rederive s).psm.evaluated = s.psm.evaluated ∧
      (rederive s).kbs.settings = s.kbs.settings ∧ (rederive s).thc.holds = s.thc.holds ∧
      (rederive s).thc.inputs = s.thc.inputs ∧ (rederive s).thc.floor = s.thc.floor ∧
      (rederive s).thc.trip = s.thc.trip ∧ (rederive s).thc.curves = s.thc.curves ∧
      (rederive s).swc.presses = s.swc.presses ∧ (rederive s).swc.settings = s.swc.settings ∧
      (rederive s).swc.wakeTimer = s.swc.wakeTimer ∧ (rederive s).evr.routes = s.evr.routes ∧
      (rederive s).hlk.queue = s.hlk.queue ∧ (rederive s).hlk.resetPending = s.hlk.resetPending ∧
      (rederive s).hlk.rx = s.hlk.rx ∧ (rederive s).hlk.series = s.hlk.series ∧
      (rederive s).hlk.held = s.hlk.held := by
  simp only [rederive]
  repeat' split
  all_goals simp

@[simp] theorem resumeWork_frame (s : State) :
    (resumeWork s).time = s.time ∧ (resumeWork s).hsi = s.hsi ∧ (resumeWork s).psm = s.psm ∧
      (resumeWork s).fsu = s.fsu ∧ (resumeWork s).sts = s.sts ∧ (resumeWork s).pending = s.pending ∧
      (resumeWork s).pth.adapter = s.pth.adapter ∧ (resumeWork s).pth.preference = s.pth.preference ∧
      (resumeWork s).chc.order = s.chc.order ∧ (resumeWork s).chc.threshold = s.chc.threshold ∧
      (resumeWork s).chc.openRow = s.chc.openRow ∧ (resumeWork s).chc.latches = s.chc.latches ∧
      (resumeWork s).chc.table = s.chc.table ∧ (resumeWork s).plc.devices = s.plc.devices ∧
      (resumeWork s).plc.pass = s.plc.pass ∧ (resumeWork s).plc.caught = s.plc.caught ∧
      (resumeWork s).plc.result = s.plc.result ∧ (resumeWork s).kbs.settings = s.kbs.settings ∧
      (resumeWork s).thc.holds = s.thc.holds ∧ (resumeWork s).thc.inputs = s.thc.inputs ∧
      (resumeWork s).thc.floor = s.thc.floor ∧ (resumeWork s).thc.trip = s.thc.trip ∧
      (resumeWork s).thc.curves = s.thc.curves ∧ (resumeWork s).swc.presses = s.swc.presses ∧
      (resumeWork s).swc.settings = s.swc.settings ∧ (resumeWork s).swc.wakeTimer = s.swc.wakeTimer ∧
      (resumeWork s).evr.routes = s.evr.routes ∧ (resumeWork s).hlk.queue = s.hlk.queue ∧
      (resumeWork s).hlk.resetPending = s.hlk.resetPending ∧ (resumeWork s).hlk.rx = s.hlk.rx ∧
      (resumeWork s).hlk.series = s.hlk.series ∧ (resumeWork s).hlk.held = s.hlk.held := by
  simp only [resumeWork]
  repeat' split
  all_goals simp

@[simp] theorem softReset_frame (s : State) :
    (softReset s).time = s.time ∧ (softReset s).sts = s.sts ∧ (softReset s).pending = s.pending := by
  simp only [softReset]
  repeat' split
  all_goals simp

@[simp] theorem answerIdentify_frame (s : State) :
    (answerIdentify s).2.time = s.time ∧ (answerIdentify s).2.pth = s.pth ∧ (answerIdentify s).2.chc = s.chc ∧
      (answerIdentify s).2.bga = s.bga ∧ (answerIdentify s).2.plc = s.plc ∧ (answerIdentify s).2.hsi = s.hsi ∧
      (answerIdentify s).2.psm = s.psm ∧ (answerIdentify s).2.kbs = s.kbs ∧ (answerIdentify s).2.thc = s.thc ∧
      (answerIdentify s).2.swc = s.swc ∧ (answerIdentify s).2.fsu = s.fsu ∧ (answerIdentify s).2.evr = s.evr ∧
      (answerIdentify s).2.hlk = s.hlk ∧ (answerIdentify s).2.sts = s.sts ∧
      (answerIdentify s).2.pending = s.pending := by
  simp only [answerIdentify]
  repeat' split
  all_goals simp

@[simp] theorem answerResetPart_frame (s : State) :
    (answerResetPart s).2.time = s.time ∧ (answerResetPart s).2.pth = s.pth ∧
      (answerResetPart s).2.chc = s.chc ∧ (answerResetPart s).2.bga = s.bga ∧
      (answerResetPart s).2.plc = s.plc ∧ (answerResetPart s).2.hsi = s.hsi ∧
      (answerResetPart s).2.psm = s.psm ∧ (answerResetPart s).2.kbs = s.kbs ∧
      (answerResetPart s).2.thc = s.thc ∧ (answerResetPart s).2.swc = s.swc ∧
      (answerResetPart s).2.fsu = s.fsu ∧ (answerResetPart s).2.evr = s.evr ∧
      (answerResetPart s).2.sts = s.sts ∧ (answerResetPart s).2.pending = s.pending ∧
      (answerResetPart s).2.hlk.queue = s.hlk.queue ∧ (answerResetPart s).2.hlk.rx = s.hlk.rx ∧
      (answerResetPart s).2.hlk.series = s.hlk.series ∧ (answerResetPart s).2.hlk.held = s.hlk.held := by
  simp only [answerResetPart]
  repeat' split
  all_goals simp

@[simp] theorem answerReadStoreStatus_frame (s : State) :
    (answerReadStoreStatus s).2.time = s.time ∧ (answerReadStoreStatus s).2.pth = s.pth ∧
      (answerReadStoreStatus s).2.chc = s.chc ∧ (answerReadStoreStatus s).2.bga = s.bga ∧
      (answerReadStoreStatus s).2.plc = s.plc ∧ (answerReadStoreStatus s).2.hsi = s.hsi ∧
      (answerReadStoreStatus s).2.psm = s.psm ∧ (answerReadStoreStatus s).2.kbs = s.kbs ∧
      (answerReadStoreStatus s).2.thc = s.thc ∧ (answerReadStoreStatus s).2.swc = s.swc ∧
      (answerReadStoreStatus s).2.fsu = s.fsu ∧ (answerReadStoreStatus s).2.evr = s.evr ∧
      (answerReadStoreStatus s).2.hlk = s.hlk ∧ (answerReadStoreStatus s).2.sts = s.sts ∧
      (answerReadStoreStatus s).2.pending = s.pending := by
  simp only [answerReadStoreStatus]
  repeat' split
  all_goals simp

@[simp] theorem answerSaveSettings_frame (s : State) :
    (answerSaveSettings s).2.time = s.time ∧ (answerSaveSettings s).2.pth = s.pth ∧
      (answerSaveSettings s).2.chc = s.chc ∧ (answerSaveSettings s).2.bga = s.bga ∧
      (answerSaveSettings s).2.plc = s.plc ∧ (answerSaveSettings s).2.hsi = s.hsi ∧
      (answerSaveSettings s).2.psm = s.psm ∧ (answerSaveSettings s).2.kbs = s.kbs ∧
      (answerSaveSettings s).2.thc = s.thc ∧ (answerSaveSettings s).2.swc = s.swc ∧
      (answerSaveSettings s).2.fsu = s.fsu ∧ (answerSaveSettings s).2.evr = s.evr ∧
      (answerSaveSettings s).2.hlk = s.hlk ∧ (answerSaveSettings s).2.pending = s.pending := by
  simp only [answerSaveSettings]
  repeat' split
  all_goals simp

@[simp] theorem abandonSeries_frame (s : State) :
    (abandonSeries s).time = s.time ∧ (abandonSeries s).pth = s.pth ∧ (abandonSeries s).chc = s.chc ∧
      (abandonSeries s).bga = s.bga ∧ (abandonSeries s).plc = s.plc ∧ (abandonSeries s).hsi = s.hsi ∧
      (abandonSeries s).psm = s.psm ∧ (abandonSeries s).kbs = s.kbs ∧ (abandonSeries s).thc = s.thc ∧
      (abandonSeries s).swc = s.swc ∧ (abandonSeries s).fsu = s.fsu ∧ (abandonSeries s).evr = s.evr ∧
      (abandonSeries s).sts = s.sts ∧ (abandonSeries s).pending = s.pending ∧
      (abandonSeries s).hlk.queue = s.hlk.queue ∧ (abandonSeries s).hlk.resetPending = s.hlk.resetPending ∧
      (abandonSeries s).hlk.rx = s.hlk.rx ∧ (abandonSeries s).hlk.held = s.hlk.held := by
  simp only [abandonSeries]
  repeat' split
  all_goals simp

@[simp] theorem setRx_frame (r : RxState) (s : State) :
    (setRx r s).time = s.time ∧ (setRx r s).pth = s.pth ∧ (setRx r s).chc = s.chc ∧ (setRx r s).bga = s.bga ∧
      (setRx r s).plc = s.plc ∧ (setRx r s).hsi = s.hsi ∧ (setRx r s).psm = s.psm ∧ (setRx r s).kbs = s.kbs ∧
      (setRx r s).thc = s.thc ∧ (setRx r s).swc = s.swc ∧ (setRx r s).fsu = s.fsu ∧ (setRx r s).evr = s.evr ∧
      (setRx r s).sts = s.sts ∧ (setRx r s).pending = s.pending ∧ (setRx r s).hlk.queue = s.hlk.queue ∧
      (setRx r s).hlk.resetPending = s.hlk.resetPending ∧ (setRx r s).hlk.series = s.hlk.series ∧
      (setRx r s).hlk.held = s.hlk.held := by
  simp only [setRx]
  repeat' split
  all_goals simp

@[simp] theorem replySent_frame (q : Queued) (rest : List Queued) (s : State) :
    (replySent q rest s).time = s.time ∧ (replySent q rest s).sts = s.sts ∧
      (replySent q rest s).pending = s.pending := by
  simp only [replySent]
  repeat' split
  all_goals simp

@[simp] theorem partSent_frame (part : Nat) (parts : Nat) (s : State) :
    (partSent part parts s).time = s.time ∧ (partSent part parts s).sts = s.sts ∧
      (partSent part parts s).pending = s.pending := by
  simp only [partSent]
  repeat' split
  all_goals simp

end Sys2Proof.Machine
end

