-- ==== Sys2Proof/Laws/PerInstr.lean ====
section
/-! SUPPORT. For every command: a request has a kind of section 12.5, and its fields fit the four parts a
request may have. -/

namespace Sys2Proof.Laws.RequestHead

/-- A command that is a request has a kind of 1 to 52 (12 section 12.5), and when it is well formed its fields
fit in four parts of 47 bytes (R190). -/
def Statement (c : Instr) : Prop :=
  ∀ kind h, c.request = some (kind, h) → 1 ≤ kind ∧ kind ≤ 52 ∧ (c.wellFormed = true → c.fields.length ≤ 4 * 47)

end Sys2Proof.Laws.RequestHead

namespace Sys2Proof.Laws

/-- A command that is no request. -/
theorem requestHead_of_none {c : Instr} (hc : c.request = none) : RequestHead.Statement c := by
  intro kind h hr
  rw [hc] at hr
  cases hr

/-- A request of a known kind whose fields are few whatever they are. -/
theorem requestHead_of_some {c : Instr} {kind : Nat} {h : ReqHead} (hc : c.request = some (kind, h))
    (hk : 1 ≤ kind ∧ kind ≤ 52)
    (hf : c.wellFormed = true → c.fields.length ≤ 4 * 47) : RequestHead.Statement c := by
  intro kind' h' hr
  rw [hc] at hr
  cases hr
  exact ⟨hk.1, hk.2, hf⟩

end Sys2Proof.Laws

namespace Sys2Proof.Laws.RequestHead

theorem powerOn (lines : Lines) : Statement (.powerOn lines) :=
  requestHead_of_none rfl

theorem hostFrameReceived (bytes : List RxByte) : Statement (.hostFrameReceived bytes) :=
  requestHead_of_none rfl

theorem frameGapTimeout : Statement .frameGapTimeout :=
  requestHead_of_none rfl

theorem frameSent : Statement .frameSent :=
  requestHead_of_none rfl

theorem readPack (h : ReqHead) (pack : Byte) : Statement (.readPack h pack) :=
  requestHead_of_some rfl (by decide) fun _ => of_decide_eq_true rfl

theorem readPath (h : ReqHead) : Statement (.readPath h) :=
  requestHead_of_some rfl (by decide) fun _ => of_decide_eq_true rfl

theorem setSourcePreference (h : ReqHead) (pref : Byte) : Statement (.setSourcePreference h pref) :=
  requestHead_of_some rfl (by decide) fun _ => of_decide_eq_true rfl

theorem setAdapterLimit (h : ReqHead) (limit : BitVec 32) : Statement (.setAdapterLimit h limit) :=
  requestHead_of_some rfl (by decide) fun _ => of_decide_eq_true rfl

theorem prepareEject (h : ReqHead) (pack : Byte) : Statement (.prepareEject h pack) :=
  requestHead_of_some rfl (by decide) fun _ => of_decide_eq_true rfl

theorem cancelEject (h : ReqHead) : Statement (.cancelEject h) :=
  requestHead_of_some rfl (by decide) fun _ => of_decide_eq_true rfl

theorem readCharge (h : ReqHead) : Statement (.readCharge h) :=
  requestHead_of_some rfl (by decide) fun _ => of_decide_eq_true rfl

theorem setCharge (h : ReqHead) (inhibitA inhibitB order threshold : Byte) :
    Statement (.setCharge h inhibitA inhibitB order threshold) :=
  requestHead_of_some rfl (by decide) fun _ => of_decide_eq_true rfl

theorem openProfileRow (h : ReqHead) (row : Byte) : Statement (.openProfileRow h row) :=
  requestHead_of_some rfl (by decide) fun _ => of_decide_eq_true rfl

theorem stageProfileEntry (h : ReqHead) (slot : Byte) (entry : RawEntry) :
    Statement (.stageProfileEntry h slot entry) :=
  requestHead_of_some rfl (by decide) fun _ => of_decide_eq_true rfl

theorem commitProfile (h : ReqHead) : Statement (.commitProfile h) :=
  requestHead_of_some rfl (by decide) fun _ => of_decide_eq_true rfl

theorem cancelProfile (h : ReqHead) : Statement (.cancelProfile h) :=
  requestHead_of_some rfl (by decide) fun _ => of_decide_eq_true rfl

theorem readProfileEntry (h : ReqHead) (entry : Byte) : Statement (.readProfileEntry h entry) :=
  requestHead_of_some rfl (by decide) fun _ => of_decide_eq_true rfl

theorem readBudget (h : ReqHead) : Statement (.readBudget h) :=
  requestHead_of_some rfl (by decide) fun _ => of_decide_eq_true rfl

theorem setDischargeLimit (h : ReqHead) (pack : Byte) (limit : BitVec 32) :
    Statement (.setDischargeLimit h pack limit) :=
  requestHead_of_some rfl (by decide) fun _ => of_decide_eq_true rfl

theorem setLinkDevice (h : ReqHead) (entry segLen abort retry hold : Byte) (definable : Option RawDefinable) :
    Statement (.setLinkDevice h entry segLen abort retry hold definable) :=
  requestHead_of_some rfl (by decide) fun _ => by cases definable <;> exact of_decide_eq_true rfl

theorem linkTransfer (h : ReqHead) (entry dir cmd len : Byte) (data : List Byte) :
    Statement (.linkTransfer h entry dir cmd len data) :=
  requestHead_of_some rfl (by decide) fun hw => by
    simp only [Instr.wellFormed, decide_eq_true_eq] at hw
    simp only [Instr.fields, List.length_append, List.length_cons, List.length_nil]
    omega

theorem linkResult (h : ReqHead) : Statement (.linkResult h) :=
  requestHead_of_some rfl (by decide) fun _ => of_decide_eq_true rfl

theorem readLinkStatus (h : ReqHead) (clear : Byte) : Statement (.readLinkStatus h clear) :=
  requestHead_of_some rfl (by decide) fun _ => of_decide_eq_true rfl

theorem readAngle (h : ReqHead) : Statement (.readAngle h) :=
  requestHead_of_some rfl (by decide) fun _ => of_decide_eq_true rfl

theorem captureAngle (h : ReqHead) : Statement (.captureAngle h) :=
  requestHead_of_some rfl (by decide) fun _ => of_decide_eq_true rfl

theorem readCapture (h : ReqHead) : Statement (.readCapture h) :=
  requestHead_of_some rfl (by decide) fun _ => of_decide_eq_true rfl

theorem setHingeMonitor (h : ReqHead) (vl cl sp ci gl ol : RawEnable) (hyst : Byte) (nominal : BitVec 16) :
    Statement (.setHingeMonitor h vl cl sp ci gl ol hyst nominal) :=
  requestHead_of_some rfl (by decide) fun _ => of_decide_eq_true rfl

theorem clearHingeErrors (h : ReqHead) : Statement (.clearHingeErrors h) :=
  requestHead_of_some rfl (by decide) fun _ => of_decide_eq_true rfl

theorem saveCalibration (h : ReqHead) : Statement (.saveCalibration h) :=
  requestHead_of_some rfl (by decide) fun _ => of_decide_eq_true rfl

theorem readPosture (h : ReqHead) : Statement (.readPosture h) :=
  requestHead_of_some rfl (by decide) fun _ => of_decide_eq_true rfl

theorem setPostureThresholds (h : ReqHead) (standEnter standLeave tabletEnter tabletLeave dwell : BitVec 16) :
    Statement (.setPostureThresholds h standEnter standLeave tabletEnter tabletLeave dwell) :=
  requestHead_of_some rfl (by decide) fun _ => of_decide_eq_true rfl

theorem fetchKeys (h : ReqHead) (max : Byte) : Statement (.fetchKeys h max) :=
  requestHead_of_some rfl (by decide) fun _ => of_decide_eq_true rfl

theorem readKeyMap (h : ReqHead) (choice : Byte) : Statement (.readKeyMap h choice) :=
  requestHead_of_some rfl (by decide) fun _ => of_decide_eq_true rfl

theorem setKeyboard (h : ReqHead) (press release : Byte) (delay period : BitVec 16) (wake : Byte) (map : Option (List Byte)) :
    Statement (.setKeyboard h press release delay period wake map) :=
  requestHead_of_some rfl (by decide) fun hw => by
    cases map with
    | none => exact (by decide : 7 ≤ 4 * 47)
    | some m =>
      simp only [Instr.wellFormed, Option.all_some, decide_eq_true_eq] at hw
      simp only [Instr.fields, wire16, List.length_append, List.length_cons, List.length_nil, Option.getD_some]
      omega

theorem readThermal (h : ReqHead) (choice : Byte) : Statement (.readThermal h choice) :=
  requestHead_of_some rfl (by decide) fun _ => of_decide_eq_true rfl

theorem reportTemperature (h : ReqHead) (temp : BitVec 16) : Statement (.reportTemperature h temp) :=
  requestHead_of_some rfl (by decide) fun _ => of_decide_eq_true rfl

theorem setFanCurvePoint (h : ReqHead) (what : RawCurve) : Statement (.setFanCurvePoint h what) :=
  requestHead_of_some rfl (by decide) fun _ => by cases what <;> simp [Instr.fields, RawCurve.wire, wire16]

theorem pushHold (h : ReqHead) (fan0 fan1 : Byte) (expiry : BitVec 16) :
    Statement (.pushHold h fan0 fan1 expiry) :=
  requestHead_of_some rfl (by decide) fun _ => of_decide_eq_true rfl

theorem popHold (h : ReqHead) : Statement (.popHold h) :=
  requestHead_of_some rfl (by decide) fun _ => of_decide_eq_true rfl

theorem readHolds (h : ReqHead) : Statement (.readHolds h) :=
  requestHead_of_some rfl (by decide) fun _ => of_decide_eq_true rfl

theorem enterState (h : ReqHead) (target : Byte) : Statement (.enterState h target) :=
  requestHead_of_some rfl (by decide) fun _ => of_decide_eq_true rfl

theorem setWake (h : ReqHead) (sleepMask offMask low critical shutdown autoOn : Byte) :
    Statement (.setWake h sleepMask offMask low critical shutdown autoOn) :=
  requestHead_of_some rfl (by decide) fun _ => of_decide_eq_true rfl

theorem setWakeTimer (h : ReqHead) (seconds : BitVec 32) : Statement (.setWakeTimer h seconds) :=
  requestHead_of_some rfl (by decide) fun _ => of_decide_eq_true rfl

theorem readWake (h : ReqHead) : Statement (.readWake h) :=
  requestHead_of_some rfl (by decide) fun _ => of_decide_eq_true rfl

theorem takePress (h : ReqHead) : Statement (.takePress h) :=
  requestHead_of_some rfl (by decide) fun _ => of_decide_eq_true rfl

theorem fetchFault (h : ReqHead) : Statement (.fetchFault h) :=
  requestHead_of_some rfl (by decide) fun _ => of_decide_eq_true rfl

theorem clearFault (h : ReqHead) (code : Byte) : Statement (.clearFault h code) :=
  requestHead_of_some rfl (by decide) fun _ => of_decide_eq_true rfl

theorem restartJob (h : ReqHead) (job : Byte) : Statement (.restartJob h job) :=
  requestHead_of_some rfl (by decide) fun _ => of_decide_eq_true rfl

theorem haltJob (h : ReqHead) (job dest : Byte) : Statement (.haltJob h job dest) :=
  requestHead_of_some rfl (by decide) fun _ => of_decide_eq_true rfl

theorem setRecovery (h : ReqHead) (power link hinge keys thermal : Byte) :
    Statement (.setRecovery h power link hinge keys thermal) :=
  requestHead_of_some rfl (by decide) fun _ => of_decide_eq_true rfl

theorem fetchEvents (h : ReqHead) (max : Byte) : Statement (.fetchEvents h max) :=
  requestHead_of_some rfl (by decide) fun _ => of_decide_eq_true rfl

theorem setRoute (h : ReqHead) (source route : Byte) : Statement (.setRoute h source route) :=
  requestHead_of_some rfl (by decide) fun _ => of_decide_eq_true rfl

theorem identify (h : ReqHead) : Statement (.identify h) :=
  requestHead_of_some rfl (by decide) fun _ => of_decide_eq_true rfl

theorem resetPart (h : ReqHead) : Statement (.resetPart h) :=
  requestHead_of_some rfl (by decide) fun _ => of_decide_eq_true rfl

theorem readStoreStatus (h : ReqHead) : Statement (.readStoreStatus h) :=
  requestHead_of_some rfl (by decide) fun _ => of_decide_eq_true rfl

theorem saveSettings (h : ReqHead) : Statement (.saveSettings h) :=
  requestHead_of_some rfl (by decide) fun _ => of_decide_eq_true rfl

theorem profileCommitComplete : Statement .profileCommitComplete :=
  requestHead_of_none rfl

theorem calibrationSaveComplete : Statement .calibrationSaveComplete :=
  requestHead_of_none rfl

theorem settingsSaveComplete : Statement .settingsSaveComplete :=
  requestHead_of_none rfl

theorem adapterPresence (mv idMv : BitVec 16) : Statement (.adapterPresence mv idMv) :=
  requestHead_of_none rfl

theorem adapterQualified : Statement .adapterQualified :=
  requestHead_of_none rfl

theorem adapterRangeReturn (mv : BitVec 16) : Statement (.adapterRangeReturn mv) :=
  requestHead_of_none rfl

theorem adapterOutOfRange (mv : BitVec 16) : Statement (.adapterOutOfRange mv) :=
  requestHead_of_none rfl

theorem adapterRemoval (mv : BitVec 16) : Statement (.adapterRemoval mv) :=
  requestHead_of_none rfl

theorem adapterOvervolt (mv : BitVec 16) : Statement (.adapterOvervolt mv) :=
  requestHead_of_none rfl

theorem unusableHoldEnd (src : Source) : Statement (.unusableHoldEnd src) :=
  requestHead_of_none rfl

theorem presenceAsserted (pack : PackId) : Statement (.presenceAsserted pack) :=
  requestHead_of_none rfl

theorem insertionDebounceEnd (pack : PackId) : Statement (.insertionDebounceEnd pack) :=
  requestHead_of_none rfl

theorem presenceDeasserted (pack : PackId) : Statement (.presenceDeasserted pack) :=
  requestHead_of_none rfl

theorem identityRetryDelay (pack : PackId) : Statement (.identityRetryDelay pack) :=
  requestHead_of_none rfl

theorem pathRailConfirmed (railMv : BitVec 16) : Statement (.pathRailConfirmed railMv) :=
  requestHead_of_none rfl

theorem switchFailure : Statement .switchFailure :=
  requestHead_of_none rfl

theorem ejectWindowExpired : Statement .ejectWindowExpired :=
  requestHead_of_none rfl

theorem snapshotStale (pack : PackId) : Statement (.snapshotStale pack) :=
  requestHead_of_none rfl

theorem prechargeTimeout (pack : PackId) : Statement (.prechargeTimeout pack) :=
  requestHead_of_none rfl

theorem chargeTimeout (pack : PackId) : Statement (.chargeTimeout pack) :=
  requestHead_of_none rfl

theorem reductionDeadlineExpired : Statement .reductionDeadlineExpired :=
  requestHead_of_none rfl

theorem inputMeasurement (mv : BitVec 16) (ma : Int) : Statement (.inputMeasurement mv ma) :=
  requestHead_of_none rfl

theorem throttleRelease : Statement .throttleRelease :=
  requestHead_of_none rfl

theorem transactionEnd (bus : BusEnd) : Statement (.transactionEnd bus) :=
  requestHead_of_none rfl

theorem holdTimeout : Statement .holdTimeout :=
  requestHead_of_none rfl

theorem linkRecoveryEnd (sclHigh sdaHigh : Bool) : Statement (.linkRecoveryEnd sclHigh sdaHigh) :=
  requestHead_of_none rfl

theorem snapshotDue (pack : PackId) : Statement (.snapshotDue pack) :=
  requestHead_of_none rfl

theorem sensorReadDue (sensor : Sensor) : Statement (.sensorReadDue sensor) :=
  requestHead_of_none rfl

theorem samplePair (sin cos : BitVec 12) : Statement (.samplePair sin cos) :=
  requestHead_of_none rfl

theorem persistenceTimerExpired (src : HingeSource) : Statement (.persistenceTimerExpired src) :=
  requestHead_of_none rfl

theorem switchLineChange (line : HingeSwitch) (asserted : Bool) :
    Statement (.switchLineChange line asserted) :=
  requestHead_of_none rfl

theorem switchDebouncedEdge (line : HingeSwitch) : Statement (.switchDebouncedEdge line) :=
  requestHead_of_none rfl

theorem dwellExpired : Statement .dwellExpired :=
  requestHead_of_none rfl

theorem firstEvaluation : Statement .firstEvaluation :=
  requestHead_of_none rfl

theorem scanEnd (sensed : List Key) : Statement (.scanEnd sensed) :=
  requestHead_of_none rfl

theorem idleTimerExpired : Statement .idleTimerExpired :=
  requestHead_of_none rfl

theorem rowDetected : Statement .rowDetected :=
  requestHead_of_none rfl

theorem typematicExpiry : Statement .typematicExpiry :=
  requestHead_of_none rfl

theorem dieConversion (tenths : Int) : Statement (.dieConversion tenths) :=
  requestHead_of_none rfl

theorem inputAgeExpired (input : ThermalInput) : Statement (.inputAgeExpired input) :=
  requestHead_of_none rfl

theorem holdExpired : Statement .holdExpired :=
  requestHead_of_none rfl

theorem tachPulse (fan : Fan) (intervalUs : Nat) : Statement (.tachPulse fan intervalUs) :=
  requestHead_of_none rfl

theorem tachTimeout (fan : Fan) : Statement (.tachTimeout fan) :=
  requestHead_of_none rfl

theorem stallTimerExpired (fan : Fan) : Statement (.stallTimerExpired fan) :=
  requestHead_of_none rfl

theorem settleTimerExpired : Statement .settleTimerExpired :=
  requestHead_of_none rfl

theorem mainRailDelayExpired : Statement .mainRailDelayExpired :=
  requestHead_of_none rfl

theorem mainPgAsserted : Statement .mainPgAsserted :=
  requestHead_of_none rfl

theorem powerGoodTimeout : Statement .powerGoodTimeout :=
  requestHead_of_none rfl

theorem mainPgLost : Statement .mainPgLost :=
  requestHead_of_none rfl

theorem powerButtonChange (asserted : Bool) : Statement (.powerButtonChange asserted) :=
  requestHead_of_none rfl

theorem powerButtonDebounced : Statement .powerButtonDebounced :=
  requestHead_of_none rfl

theorem longPress : Statement .longPress :=
  requestHead_of_none rfl

theorem graceTimerExpired : Statement .graceTimerExpired :=
  requestHead_of_none rfl

theorem wakeTimerExpired : Statement .wakeTimerExpired :=
  requestHead_of_none rfl

end Sys2Proof.Laws.RequestHead
end

