-- ==== Sys2Proof/Laws/Steps.lean ====
section
/-! SUPPORT. What the operations that every command goes through do, said once: a request and its place
in the queue, an event and its list, a LEVEL source, the end of a transaction, a fault occurrence and its job. -/

namespace Sys2Proof.Machine

/-! ## Commands -/

/-- Every command answers a next state. -/
theorem exec_next (c : Instr) (s : State) : ∃ t, exec c s = .next t := by
  cases c <;> exact ⟨_, rfl⟩

/-- Every step answers a next state. -/
theorem step_next (s : State) : ∃ t, step s = .next t := by
  unfold step
  cases s.pending with
  | nil => exact ⟨_, rfl⟩
  | cons c rest => exact exec_next c _

/-! ## Requests (R191) -/

/-- While a reset is pending a request is held. -/
theorem serve_held {s : State} (kind : Nat) (h : ReqHead) (o : State → Reply × State)
    (hp : s.hlk.resetPending = true) :
    serve kind h o s = s.setHlk { s.hlk with held := s.hlk.held ++ [⟨kind, h⟩] } := by
  simp only [serve, hp, if_true]

/-- A request that finds four in the queue gets QFULL. -/
theorem serve_full {s : State} (kind : Nat) (h : ReqHead) (o : State → Reply × State)
    (hp : s.hlk.resetPending = false) (hq : 4 ≤ s.hlk.queue.length) : serve kind h o s = requestQfull kind h s := by
  simp only [serve, hp, hq, if_true, Bool.false_eq_true, if_false]

/-- A privileged request on channel S is DENIED. -/
theorem serve_denied {s : State} {kind : Nat} {h : ReqHead} (o : State → Reply × State) (ht : s.takes)
    (hk : privileged kind = true) (hc : h.chan = .S) : serve kind h o s = enqueue kind h (⟨.denied, []⟩, s) := by
  have hq : ¬4 ≤ s.hlk.queue.length := Nat.not_le.mpr ht.2
  simp [serve, ht.1, hq, hk, hc, refuse]

/-- Any other request with a place in the queue is its owner's to answer. -/
theorem serve_answered {s : State} {kind : Nat} {h : ReqHead} (o : State → Reply × State) (ht : s.takes)
    (hk : privileged kind = false ∨ h.chan = .P) : serve kind h o s = enqueue kind h (o s) := by
  have hq : ¬4 ≤ s.hlk.queue.length := Nat.not_le.mpr ht.2
  rcases hk with hk | hc
  · simp [serve, ht.1, hq, hk]
  · simp [serve, ht.1, hq, hc]

/-- A request that is taken: its reply stands in the queue, and every block but HLK is as its owner left it. -/
theorem enqueue_frame (kind : Nat) (h : ReqHead) (a : Reply × State) :
    (enqueue kind h a).hlk.queue = a.2.hlk.queue ++ [{ kind := kind, head := h, reply := a.1 }] ∧
      (enqueue kind h a).time = a.2.time ∧ (enqueue kind h a).pth = a.2.pth ∧ (enqueue kind h a).chc = a.2.chc ∧
      (enqueue kind h a).bga = a.2.bga ∧ (enqueue kind h a).plc = a.2.plc ∧ (enqueue kind h a).hsi = a.2.hsi ∧
      (enqueue kind h a).psm = a.2.psm ∧ (enqueue kind h a).kbs = a.2.kbs ∧ (enqueue kind h a).thc = a.2.thc ∧
      (enqueue kind h a).swc = a.2.swc ∧ (enqueue kind h a).fsu = a.2.fsu ∧ (enqueue kind h a).evr = a.2.evr ∧
      (enqueue kind h a).sts = a.2.sts ∧ (enqueue kind h a).pending = a.2.pending ∧
      (enqueue kind h a).hlk.resetPending = a.2.hlk.resetPending ∧ (enqueue kind h a).hlk.rx = a.2.hlk.rx ∧
      (enqueue kind h a).hlk.series = a.2.hlk.series ∧ (enqueue kind h a).hlk.held = a.2.hlk.held := by
  simp [enqueue]

/-- A request that gets QFULL changes nothing but HLK, and not its queue. -/
theorem requestQfull_same (kind : Nat) (h : ReqHead) (s : State) :
    SameButHlk s (requestQfull kind h s) ∧ (requestQfull kind h s).hlk.queue = s.hlk.queue := by
  simp only [requestQfull, SameButHlk, txChoose]
  repeat' split
  all_goals simp [State.setHlk]

/-! ## Pending lists (R182 to R184) -/

/-- A list put in place stands there. -/
@[simp] theorem putList_list (c : Channel) (l : List Pending) (s : State) : (putList c l s).list c = l := by
  cases c <;> simp only [putList] <;> split <;> simp [State.list, State.setList]

/-- A list put in place leaves the other channel's. -/
theorem putList_other {c d : Channel} (l : List Pending) (s : State) (hd : d ≠ c) :
    (putList c l s).list d = s.list d := by
  cases c <;> cases d <;> first
    | exact absurd rfl hd
    | (simp only [putList] <;> split <;> simp [State.list, State.setList])

/-- The route of a source is that of the table. -/
theorem putList_route (c : Channel) (l : List Pending) (s : State) (e : EvSource) :
    (putList c l s).route e = s.route e := by
  simp [State.route]

/-- An occurrence leaves the routes. -/
@[simp] theorem raise_route (e : EvSource) (d : Detail) (s : State) (f : EvSource) :
    (raise e d s).route f = s.route f := by
  simp [State.route]

/-- A source in a list after an occurrence. -/
theorem mem_bump {e : EvSource} {d : Detail} {l : List Pending} {x : EvSource} :
    (∃ p ∈ bump e d l, p.src = x) ↔ (∃ p ∈ l, p.src = x) ∨ x = e := by
  unfold bump
  split
  · rename_i he
    simp only [List.any_eq_true, decide_eq_true_eq] at he
    constructor
    · rintro ⟨p, hp, rfl⟩
      simp only [List.mem_map] at hp
      obtain ⟨q, hq, rfl⟩ := hp
      refine Or.inl ⟨q, hq, ?_⟩
      split <;> rfl
    · rintro (⟨q, hq, rfl⟩ | rfl)
      · refine ⟨_, List.mem_map_of_mem hq, ?_⟩
        split <;> rfl
      · obtain ⟨q, hq, hs⟩ := he
        refine ⟨_, List.mem_map_of_mem hq, ?_⟩
        rw [if_pos hs]
        exact hs
  · constructor
    · rintro ⟨p, hp, rfl⟩
      rcases List.mem_append.mp hp with hp | hp
      · exact Or.inl ⟨p, hp, rfl⟩
      · rw [List.mem_singleton.mp hp]
        exact Or.inr rfl
    · rintro (⟨q, hq, rfl⟩ | rfl)
      · exact ⟨q, List.mem_append_left _ hq, rfl⟩
      · exact ⟨_, List.mem_append_right _ (List.mem_singleton.mpr rfl), rfl⟩

/-- What an occurrence on one channel does to the lists. -/
theorem raiseOn_list (c : Channel) (e : EvSource) (d : Detail) (s : State) (x : Channel) :
    (raiseOn c e d s).list x = if x = c ∧ (s.route e).names c = true then bump e d (s.list c) else s.list x := by
  unfold raiseOn
  split
  · by_cases hx : x = c
    · subst hx
      simp_all
    · simp [putList_other _ _ hx, hx]
  · simp_all

/-- What an occurrence does to the lists (R183). -/
theorem raise_list (e : EvSource) (d : Detail) (s : State) (c : Channel) :
    (raise e d s).list c = if (s.route e).names c = true then bump e d (s.list c) else s.list c := by
  have hr : (raiseOn .S e d s).route e = s.route e := by simp [State.route]
  unfold raise
  rw [raiseOn_list, hr, raiseOn_list, raiseOn_list]
  cases c <;> simp

/-- A list without a source does not have it and keeps every other. -/
theorem mem_without {e : EvSource} {l : List Pending} {p : Pending} : p ∈ without e l ↔ p ∈ l ∧ p.src ≠ e := by
  simp [without]

/-! ## Transactions (R70, R76) -/

/-- An outcome is handed over only from a BUSY link, and is the one of the transaction on the wire. -/
theorem handed_some {s : State} {bus : BusEnd} {c : Client} {o : TxOutcome} (h : s.handed bus = some (c, o)) :
    s.plc.link = .busy ∧ s.plc.discard = false ∧ s.plc.gone = false ∧
      ∃ w, s.plc.wire = some w ∧ w.client = c ∧ w.outcome bus = o := by
  unfold State.handed at h
  split at h
  · rename_i w hl hw
    split at h
    · cases h
    · rename_i hd
      simp only [Bool.or_eq_true, not_or, Bool.not_eq_true] at hd
      cases h
      exact ⟨hl, hd.1, hd.2, w, hw, rfl, rfl⟩
  · cases h

/-- A snapshot is published when its last item has been read. -/
theorem published_some {s : State} {bus : BusEnd} {p : PackId} {x : Snapshot} (h : s.published bus = some (p, x)) :
    s.running .link = true ∧
      ∃ i got b, s.plc.work = some (.snapshot p [i] got) ∧ s.handed bus = some (.packPoll, .done b) ∧
        x = { got.put i b with time := s.time } := by
  unfold State.published at h
  split at h
  · rename_i b q i got hr hh hw
    cases h
    exact ⟨hr, i, got, b, hw, hh, rfl⟩
  · cases h

/-- What PLC sends for a write item ends in the check byte where the entry's flag is set. -/
theorem sends_write {p : LinkPolicy} {t : Txn} (h : t.write = true) :
    p.sends t =
      ([p.addressByte, BitVec.ofNat 8 t.cmd] ++ t.data) ++
        (if p.check then [crc8 ([p.addressByte, BitVec.ofNat 8 t.cmd] ++ t.data)] else []) := by
  simp [LinkPolicy.sends, h]

/-- What PLC sends for a read item. -/
theorem sends_read {p : LinkPolicy} {t : Txn} (h : t.write = false) :
    p.sends t = [p.addressByte, BitVec.ofNat 8 t.cmd, p.readByte] := by
  simp [LinkPolicy.sends, h]

/-! ## The setpoint and the reduction deadline (R40, R42, R43) -/

/-- The slots take a desired setpoint and leave the setpoint in force, the desired one and the deadline. -/
theorem handleDesired_keeps (d : Setpoint) (s : State) :
    (handleDesired d s).chc.inForce = s.chc.inForce ∧ (handleDesired d s).chc.deadline = s.chc.deadline ∧
      (handleDesired d s).chc.desired = s.chc.desired := by
  unfold handleDesired slotIdle slotBusy startWrite
  repeat' split
  all_goals simp [placeStage]

/-- The desired setpoint formed afresh, and what becomes of the deadline and of CHG_EN. -/
theorem renewDesired_chc (s : State) :
    (renewDesired s).chc.inForce = s.chc.inForce ∧ (renewDesired s).chc.desired = s.formDesired ∧
      (renewDesired s).chc.deadline =
        deadlineEnd s.chc.inForce s.formDesired (deadlineAt s.chc.inForce s.chc.desired s.formDesired s.chc.deadline) := by
  have h := fun (d : Setpoint) (x : State) => handleDesired_keeps d x
  simp only [renewDesired, driveEnable, State.setChc, h, and_self]

/-! ## The receiver (R189) -/

/-- A byte that comes more than 2 ms after the last of its frame meets a HUNTING receiver. -/
theorem receiveByte_late {s : State} {bytes : List Byte} {gap : Nat} (b : RxByte) (hr : s.hlk.rx = .inFrame bytes gap)
    (hg : 2 < gap) : receiveByte s b = receiveByte (setRx .hunting s) b := by
  simp [receiveByte, hr, hg, setRx]

/-! ## Faults and jobs (R170 to R172) -/

/-- The codes that take a job out of RUN. -/
theorem FaultCode.halting_iff (c : FaultCode) :
    c.halting = true ↔ c = .chargerSilent ∨ c = .linkStuck ∨ c = .hingeSensor ∨ c = .matrixShort := by
  cases c <;> decide

/-- Recording a fault leaves every job. -/
@[simp] theorem recordFault_job (c : FaultCode) (d : Detail) (s : State) (j : Job) :
    (recordFault c d s).job j = s.job j := by
  cases j <;> simp [recordFault, State.job, State.setFaultRec]

/-- A code that does not halt leaves a job that runs. -/
theorem occur_of_running {c : FaultCode} (d : Detail) {s : State} (hr : (s.job c.job).state = .run)
    (hc : c.halting = false) : occur c d s = recordFault c d s := by
  simp [occur, actOnJob, hr, hc]

/-- A job that FSU has told to quiesce. -/
theorem enterQuiescing_job (j : Job) (d : Destination) (c : Cause) (s : State) :
    (enterQuiescing j d c s).job j =
      { s.job j with
        state := .quiescing, dest := some d, cause := some c, waiting := jobMembers j, since := s.time } := by
  cases j <;> rfl

/-- Whether a job runs after an occurrence. -/
theorem running_eq (s : State) (j : Job) : s.running j = decide ((s.job j).state = .run) := (rfl)

end Sys2Proof.Machine
end

