-- ==== Sys2Proof/Tests/Slice0.lean ====
section
/-! SUPPORT. Tests: what the check on commands refuses, the numbers and bytes of section 12.6, one step or two
of every family, and for every statement the states and operands that meet the hypotheses of its clauses. -/

namespace Sys2Proof.Tests

open Sys2Proof Sys2Proof.Machine

/-! ## Small states: the part after reset with one block changed -/

def s0 : State := State.reset
def hS : ReqHead := ⟨.S, 1⟩
def hP : ReqHead := ⟨.P, 2⟩

def withPth (f : Pth → Pth) : State := s0.setPth (f s0.pth)
def withAdapter (f : Adapter → Adapter) : State := s0.setAdapter (f s0.adapter)
def withPack (p : PackId) (f : Pack → Pack) : State := s0.setPack p (f (s0.pack p))
def withChc (f : Chc → Chc) : State := s0.setChc (f s0.chc)
def withCharge (p : PackId) (f : Charge → Charge) : State := s0.setCharge p (f (s0.charge p))
def withBga (f : Bga → Bga) : State := s0.setBga (f s0.bga)
def withPlc (f : Plc → Plc) : State := s0.setPlc (f s0.plc)
def withHsi (f : Hsi → Hsi) : State := s0.setHsi (f s0.hsi)
def withPsm (f : Psm → Psm) : State := s0.setPsm (f s0.psm)
def withKbs (f : Kbs → Kbs) : State := s0.setKbs (f s0.kbs)
def withThc (f : Thc → Thc) : State := s0.setThc (f s0.thc)
def withSwc (f : Swc → Swc) : State := s0.setSwc (f s0.swc)
def withEvr (f : Evr → Evr) : State := s0.setEvr (f s0.evr)
def withHlk (f : Hlk → Hlk) : State := s0.setHlk (f s0.hlk)
def withSts (f : Sts → Sts) : State := s0.setSts (f s0.sts)
def withJob (j : Job) (st : JobState) : State := s0.setJob j { s0.job j with state := st }
def withFault (c : FaultCode) (st : FaultState) : State := s0.setFaultRec c { s0.faultRec c with state := st }

/-- The platform in a state. -/
def inPlatform (p : Platform) : State := withSwc fun w => { w with platform := p }

/-- A state meets a condition. -/
abbrev Meets (s : State) (p : State → Prop) : Prop := p s

/-- What a command leaves. -/
def after (c : Instr) (s : State) : State :=
  match exec c s with
  | .next t => t
  | _ => s

/-! ## The check on commands: an ill-formed term for each of its clauses is refused -/

theorem test_illFormed_linkDevice_without_definition :
    (Instr.setLinkDevice hP 5 8 0 2 25 none).wellFormed = false := by decide

theorem test_illFormed_linkDevice_with_definition_of_fixed_entry :
    (Instr.setLinkDevice hP 4 8 0 2 25 (some ⟨0, 0x10, 1⟩)).wellFormed = false := by decide

set_option maxRecDepth 100000 in
theorem test_illFormed_keyboard_map_of_143 :
    (Instr.setKeyboard hS 3 3 500 50 0 (some (List.replicate 143 0))).wellFormed = false := by decide

set_option maxRecDepth 100000 in
theorem test_illFormed_transfer_of_185_bytes :
    (Instr.linkTransfer hS 5 1 0 48 (List.replicate 185 0)).wellFormed = false := by decide

theorem test_illFormed_position_sensed_twice : (Instr.scanEnd [3, 3]).wellFormed = false := by decide

theorem test_illFormed_persistence_of_warning_source :
    (Instr.persistenceTimerExpired .gainLimit).wellFormed = false := by decide

theorem test_illFormed_read_of_49_bytes :
    (Instr.transactionEnd ⟨true, List.replicate 49 0, 0, true, true⟩).wellFormed = false := by decide

set_option maxRecDepth 100000 in
theorem test_wellFormed_at_the_limits :
    (Instr.setLinkDevice hP 7 8 0 2 25 (some ⟨0, 0x10, 1⟩)).wellFormed = true ∧
      (Instr.setLinkDevice hP 4 8 0 2 25 none).wellFormed = true ∧
      (Instr.setKeyboard hS 3 3 500 50 0 (some (List.replicate 144 0))).wellFormed = true ∧
      (Instr.linkTransfer hS 5 1 0 48 (List.replicate 184 0)).wellFormed = true ∧
      (Instr.scanEnd [3, 4]).wellFormed = true ∧ (Instr.persistenceTimerExpired .calInvalid).wellFormed = true ∧
      (Instr.transactionEnd ⟨true, List.replicate 48 0, 0, true, true⟩).wellFormed = true := by decide

/-! ## Bytes, numbers and frames (12 section 12.6) -/

theorem test_crc8_of_one_byte : crc8 [0x01] = 0x07 ∧ crc8 [0x80] = 0x89 ∧ crc8 [] = 0 := by decide

theorem test_detail_of_one_two_three_parts :
    Detail.bytes (det [513]) = [1, 2, 0, 0] ∧ Detail.bytes [some 2, some (-3)] = [2, 0xFD, 0xFF, 0xFF] ∧
      Detail.bytes [some 1, some 3, none] = [1, 3, 0xFF, 0xFF] ∧ Detail.bytes [] = [0xFF, 0xFF, 0xFF, 0xFF] := by
  decide

set_option maxRecDepth 100000 in
/-- READ PATH on channel P with tag 7: start, length 0, 0x82, 7, CRC. -/
theorem test_request_frame_of_readPath :
    requestFrame 2 ⟨.P, 7⟩ [] = [0xA5, 0, 0x82, 7, crc8 [0, 0x82, 7]] := by decide

set_option maxRecDepth 100000 in
theorem test_request_frame_is_answered :
    ((after (.hostFrameReceived (onLine (requestFrame 49 ⟨.S, 9⟩ []))) s0).hlk.queue.map fun q => q.reply.content) =
      [[0xE5, 0x72, 0x10, 1, 3, 0, 0xFF, 0xFF, 0xFF]] := by decide

theorem test_byte_after_a_gap_of_2_ms_is_data :
    (after (.hostFrameReceived [⟨5, true⟩]) (withHlk fun k => { k with rx := .inFrame [0, 2] 2 })).hlk.rx =
      .inFrame [0, 2, 5] 0 := by decide

theorem test_start_byte_after_a_longer_gap_begins_a_frame :
    (after (.hostFrameReceived [⟨0xA5, true⟩]) (withHlk fun k => { k with rx := .inFrame [0, 2] 3 })).hlk.rx =
      .inFrame [] 0 := by decide

set_option maxRecDepth 100000 in
theorem test_unknown_kind_is_answered :
    ((after (.hostFrameReceived (onLine (requestFrame 53 ⟨.S, 9⟩ []))) s0).hlk.queue.map fun q => q.reply.status) =
      [.unknownKind] := by decide

theorem test_direction_of_the_four_axes :
    direction 1000000 0 = 0 ∧ direction 0 1000000 = 1024 ∧ direction (-1000000) 0 = 2048 ∧
      direction 0 (-1000000) = 3072 ∧ direction 1000000 1000000 = 512 := by decide

/-! ## One step or two of each family -/

/-- 01: an adapter of 65 W is found and qualifies after 20 ms; the path, with no other source, moves to it. -/
def adapterIn : State :=
  after .adapterQualified
    (let s := after (.adapterPresence 20000 900) s0
     s.setAdapter { s.adapter with count := some 20 })

theorem test_adapter_rating_from_its_id : adapterIn.adapter.rating = 65000 ∧ adapterIn.adapter.ratingSource = .id := by
  decide

theorem test_adapter_qualifies_and_path_switches :
    adapterIn.adapter.qualified = true ∧ adapterIn.pth.path = .switching .adapter ∧ adapterIn.pth.swAdp = true ∧
      adapterIn.bga.mode = .none := by decide

theorem test_path_settles_at_90_percent :
    (after (.pathRailConfirmed 17999) adapterIn).pth.path = .switching .adapter ∧
      (after (.pathRailConfirmed 18000) adapterIn).pth.path = .onAdapter ∧
      (after (.pathRailConfirmed 18000) adapterIn).bga.mode = .adapter := by decide

theorem test_pack_inserted_after_500_ms :
    ((after (.insertionDebounceEnd .A) (withPack .A fun r => { r with line := true, debounce := some 500 })).pack
        .A).presence = .detected := by decide

/-- 02: SET CHARGE inhibits pack A. -/
theorem test_set_charge_inhibits :
    (after (.setCharge hS 0 2 3 0xFF) s0).chc.a.state = .inhibitedHost ∧
      (after (.setCharge hS 0 2 3 0xFF) s0).chc.threshold = 95 := by decide

theorem test_profile_commit_reaches_the_table :
    let s := withSts fun t => { t with busy := some (.profile 1 (List.replicate 8 ProfileEntry.builtin), 0) }
    (after .profileCommitComplete s).entry 8 = ProfileEntry.builtin ∧
      (after .profileCommitComplete s).sts.busy = none := by decide

/-- 03: a grant with pack A charging at 12 V: 30,000 mW allowance, 2,240 mA. -/
theorem test_grant_of_an_allowance : grantFrom 30000 12000 = 2240 ∧ grantFrom (-5) 12000 = 0 := by decide

theorem test_throttle_asserted_above_the_limit :
    (evaluateThrottle .adapter 50001 50000 s0).bga.throttle = .asserted ∧
      (evaluateThrottle .adapter 50000 50000 s0).bga.throttle = .released := by decide

/-- The link with a transaction of a client, the clock held for so many milliseconds. -/
def linkAt (l : LinkState) (c : Client) (x : Txn) (held : Nat) : State :=
  withPlc fun k => { k with link := l, wire := some (s0.onWire c x), holdTime := held }

def readTxn : Txn := { entry := 0, write := false, cmd := 0, len := 1, data := [] }
def writeTxn : Txn := { readTxn with write := true }

/-- 04: LINK TRANSFER to a sensor is accepted; its segment stands in the PASS slot or is on the wire. -/
theorem test_link_transfer_accepted :
    ((after (.linkTransfer hS 3 0 0 2 []) s0).hlk.queue.map fun q => q.reply.status) = [.accepted] ∧
      (after (.linkTransfer hS 3 0 0 2 []) s0).plc.pass.isSome = true := by decide

theorem test_hold_timeout_starts_the_recovery :
    (after .holdTimeout (linkAt .busy .pass readTxn 26)).plc.link = .recovery true ∧
      (after .holdTimeout (linkAt .busy .pass readTxn 25)).plc.link = .busy := by decide

/-- R71: a hold within the limit lengthens a recovery, and one beyond it ends it STUCK. -/
theorem test_recovery_that_meets_a_long_hold_ends_stuck :
    (after (.linkRecoveryEnd false true) (linkAt (.recovery true) .pass readTxn 25)).plc.link = .recovery true ∧
      (after (.linkRecoveryEnd false true) (linkAt (.recovery true) .pass readTxn 26)).running .link = false := by
  decide

/-- R80: a poll of a pack that a pass-through is outstanding to goes back to its slot after the recovery. -/
theorem test_recovery_puts_a_deferred_poll_back :
    let s := linkAt (.recovery false) .packPoll readTxn 0
    let p : Pass :=
      { entry := 0, write := false, cmd := 0, len := 1, segLen := 8, buf := [255], seg := 0, done := 0, reps := 0,
        failed := false }
    let t := after (.linkRecoveryEnd true true) (s.setPlc { s.plc with pass := some p, work := some (.identity .A) })
    t.plc.packSlot = some readTxn ∧ t.plc.wire.map (·.client) = some .sensorPoll := by decide

set_option maxRecDepth 100000 in
/-- R68: a write item to a device with check bytes carries one. -/
theorem test_write_item_carries_its_check_byte :
    (s0.onWire .pass { readTxn with write := true, data := [5] }).sent =
        [0x54, 0, 5] ++ [crc8 [0x54, 0, 5]] ∧
      ((s0.device 0).policy.check = true) := by decide

/-- R40: a desired setpoint equal to the one in flight waits in the pending slot. -/
theorem test_equal_setpoint_waits_while_a_write_is_in_flight :
    let f : Setpoint := ⟨12600, 512, true⟩
    (slotBusy f (withChc fun c => { c with inFlight := some f })).chc.next = some f := by decide

/-- 05: a pair of readings of amplitude 1,200 at 45 degrees gives the raw angle 512. -/
theorem test_sample_pair_gives_512 :
    (after (.samplePair 848 848) s0).hsi.raw = 512 ∧ (after (.samplePair 848 848) s0).hsi.reported = 512 := by decide

theorem test_weak_sample_is_rejected : (after (.samplePair 10 10) s0).hsi.rejected = true := by decide

/-- 06: the lid goes asserted; after the first evaluation the posture is CLOSED at once. -/
theorem test_lid_closes :
    (after (.switchDebouncedEdge .lid)
        (withPsm fun p => { p with lid := ⟨true, false, some 20⟩, evaluated := true })).psm.current = .closed := by
  decide

/-- 07: a press at debounce 1 is queued and becomes the typematic key. -/
def typing : State :=
  (withKbs fun k => { k with mode := .active, settings := { k.settings with pressDebounce := 1 } }).setSwc
    { s0.swc with platform := .on }

set_option maxRecDepth 100000 in
theorem test_key_press_is_queued :
    ((after (.scanEnd [5]) typing).kbs.queue.map fun e => (e.key, e.kind)) = [(some 5, .press)] ∧
      (after (.scanEnd [5]) typing).evr.keys = true := by decide

theorem test_fourth_key_of_a_rectangle_is_blocked :
    let held : KeyEntry := { state := .down, count := 0, pressedAs := .normal }
    ghost (((allUp.set 0 held).set 1 held).set 8 held) 9 = true ∧ ghost ((allUp.set 0 held).set 1 held) 9 = false := by
  decide

/-- 08: a second DIE reading at the trip temperature turns the machine off. -/
theorem test_second_trip_reading_turns_off :
    let s := after (.dieConversion 980) (inPlatform .on)
    s.swc.platform = .on ∧ (after (.dieConversion 980) s).swc.platform = .off ∧
      (after (.dieConversion 980) s).swc.lastOff = .thermalTrip := by decide

theorem test_curve_between_two_points :
    curveAt 450 [⟨400, 20⟩, ⟨500, 40⟩] = 30 ∧ curveAt 399 [⟨400, 20⟩, ⟨500, 40⟩] = 20 ∧
      curveAt 500 [⟨400, 20⟩, ⟨500, 40⟩] = 40 := by decide

/-- 09: ENTER STATE OFF and the end of the settle. -/
theorem test_enter_state_off :
    (after (.enterState hS 1) (inPlatform .on)).swc.platform = .shuttingDown ∧
      (after .settleTimerExpired (withSwc fun w => { w with platform := .shuttingDown, settle := some 0 })).swc.platform =
        .off := by decide

theorem test_press_is_counted_in_on :
    (after .powerButtonDebounced
        (withSwc fun w => { w with platform := .on, button := true, count := some 30 })).swc.presses = 1 := by decide

/-- 10: HALT JOB THERMAL to OFF, and its restart. -/
theorem test_halt_and_restart_thermal :
    let s := after (.haltJob hP 4 1) s0
    (s.job .thermal).state = .off ∧ s.thc.fan0.duty = 100 ∧
      ((after (.restartJob hP 4) s).job .thermal).state = .run := by decide

theorem test_privileged_request_on_S_is_denied :
    ((after (.haltJob hS 4 1) s0).hlk.queue.map fun q => q.reply.status) = [.denied] := by decide

/-- 11: SET ROUTE of an exclusive source to BOTH. -/
theorem test_exclusive_source_is_not_routed_both :
    ((after (.setRoute hS 4 3) s0).hlk.queue.map fun q => q.reply.status) = [.exclusive] ∧
      ((after (.setRoute hS 3 3) s0).route .postureChanged) = .both := by decide

/-- 12: SAVE SETTINGS programs row 2, and RESET PART is BUSY meanwhile. -/
theorem test_save_settings :
    let s := after (.saveSettings hP) s0
    s.sts.busy.isSome = true ∧ ((after (.resetPart hP) s).hlk.queue.map fun q => q.reply.status) = [.accepted, .busy] := by
  decide

/-- The entry a source has in the list of channel P, as its count and the bytes of its detail. -/
def onP (e : EvSource) (s : State) : List (Nat × List Byte) :=
  (s.evr.listP.filter fun p => p.src = e).map fun p => (p.count, p.detail.bytes)

/-- R195: at the end of a programming STORE_DONE has the row alone; R194: a row invalid at a load has ROW_INVALID and
then the row. -/
theorem test_store_done_names_the_row_or_that_it_is_invalid :
    let routed := (withSts fun t => { t with busy := some (.settings .factory, 0) }).setEvr
      { s0.evr with routes := List.replicate 29 .P }
    onP .storeDone (after .settingsSaveComplete routed) = [(1, [2, 0, 0, 0])] ∧
      onP .storeDone (reportRow 3 false routed) = [(1, [0, 3, 0, 0])] := by decide

theorem test_power_loss_while_programming_loses_the_row :
    let s := after (.saveSettings hP) s0
    (after (.powerOn ⟨0, 0, false, false, false, false, false, false, true, true⟩) s).sts.valid2 = false := by decide

/-- With no command waiting, 1 ms passes. -/
theorem test_idle_step_counts : (match step s0 with
    | .next t => t.time
    | _ => 0) = 1 := by decide

theorem test_step_runs_the_front_command : (match step (s0.setPending [.powerButtonChange true, .frameSent]) with
    | .next t => (t.swc.button, t.pending)
    | _ => (false, [])) = (true, [.frameSent]) := by decide

/-! ## States and operands that meet the hypotheses of the statements, clause by clause

Each theorem carries the name of its statement; its clauses stand in the statement's order, at the edges of
the ranges the statement names. -/

def q1 : Queued := ⟨1, hS, ⟨.ok, [0]⟩⟩
def q50 : Queued := ⟨50, hP, ⟨.ok, []⟩⟩
def onWire (k : TxKind) : TxFrame := ⟨k, [0xA5]⟩

/-- A snapshot of a pack of half charge. -/
def snapA : Snapshot :=
  { voltage := 11000, current := 0, temp := 250, remaining := 2500, full := 5000, overTemp := false,
    overCharge := false, terminate := false, fullyCharged := false, fullyDischarged := false,
    reqVoltage := none, reqCurrent := none, cycles := none, time := 0 }

/-- A pack in place with an identity and a snapshot. -/
def packIn (p : Presence) (usable : Bool) : Pack :=
  { Pack.empty true with
    presence := p, usable := usable, relCharge := some 50,
    identity := some ⟨7, 1, 3, 5000, false, false, false⟩,
    snapshot := some snapA }

/-- The tables of a state with no open row and no programming under way are whole if their sizes are. -/
theorem tablesWhole_of_sizes (s : State)
    (h : s.fsu.table.length = 13 ∧ s.evr.routes.length = 29 ∧ s.plc.devices.length = 8 ∧ s.chc.table.length = 16 ∧
      s.chc.latches.length = 8 ∧ s.kbs.keys.length = 144 ∧ s.kbs.shortRuns.length = 18 ∧ s.sts.row0.length = 8 ∧
      s.sts.row1.length = 8 ∧ s.sts.row2.routes.length = 29 ∧ s.sts.row2.link.length = 8)
    (ho : s.chc.openRow = none) (hb : s.sts.busy = none) : TablesWhole s := by
  obtain ⟨h1, h2, h3, h4, h5, h6, h7, h8, h9, h10, h11⟩ := h
  refine ⟨h1, h2, h3, h4, h5, h6, h7, ?_, h8, h9, h10, h11, ?_, ?_⟩
  · intro r hr
    rw [ho] at hr
    cases hr
  · intro row es n hn
    rw [hb] at hn
    cases hn
  · intro r n hn
    rw [hb] at hn
    cases hn

set_option maxRecDepth 100000 in
theorem witness_tables_whole : TablesWhole s0 := tablesWhole_of_sizes s0 (by decide) rfl rfl

/-! ### The queue of commands, the host link and the store -/

theorem witness_StepRunsFrontCommand : (s0.setPending [.frameSent, .dwellExpired]).pending = .frameSent :: [.dwellExpired] := rfl

theorem witness_IdleStepPassesOneMillisecond : s0.pending = [] := rfl

theorem witness_RequestsTurnedAway :
    (Instr.saveSettings hS).request = some (52, hS) ∧
      Meets (withHlk fun k => { k with resetPending := true }) (fun s => s.hlk.resetPending = true) ∧
      Meets (withHlk fun k => { k with queue := [q1, q1, q1, q1], qfull := some ⟨1, hS⟩ }) (fun s =>
        s.hlk.resetPending = false ∧ 4 ≤ s.hlk.queue.length ∧ s.hlk.qfull.isSome) ∧
      Meets (withHlk fun k => { k with queue := [q1, q1, q1, q1], wire := some (onWire .qfull) }) (fun s =>
        s.hlk.resetPending = false ∧ 4 ≤ s.hlk.queue.length ∧ s.hlk.qfull = none ∧ s.hlk.wire.isSome) ∧
      Meets (withHlk fun k => { k with queue := [q1, q1, q1, q1] }) (fun s =>
        s.hlk.resetPending = false ∧ 4 ≤ s.hlk.queue.length ∧ s.hlk.qfull = none ∧ s.hlk.wire = none) ∧
      Meets (withHlk fun k => { k with queue := [q1, q1, q1] }) (fun s =>
        s.takes ∧ privileged 52 = true ∧ hS.chan = .S) := by decide

theorem witness_TakenRequestGetsOneReply :
    (Instr.readPath hS).request = some (2, hS) ∧ s0.takes ∧
      Meets (withHlk fun k => { k with queue := [q1, q1, q1] }) (fun s => s.takes) := by decide

theorem witness_OnePartFrameIsTheRequest :
    (Instr.readPath hS).request = some (2, hS) ∧ (Instr.readPath hS).wellFormed = true ∧ s0.hlk.rx = .hunting ∧
      (Instr.linkTransfer hS 5 1 0 43 (List.replicate 43 0)).request = some (17, hS) ∧
      (Instr.linkTransfer hS 5 1 0 43 (List.replicate 43 0)).wellFormed = true ∧
      (Instr.linkTransfer hS 5 1 0 43 (List.replicate 43 0)).fields.length = 47 := by decide

set_option maxRecDepth 100000 in
theorem witness_BrokenFramesAreDropped :
    Meets s0 (fun s => s.hlk.rx = .hunting ∧ (0#8) ≠ 0xA5#8) ∧
      Meets (withHlk fun k => { k with rx := .inFrame [0] 3 }) (fun s => s.hlk.rx = .inFrame [0] 3 ∧ 2 < 3) ∧
      Meets (withHlk fun k => { k with rx := .inFrame [] 2 }) (fun s =>
        s.hlk.rx = .inFrame [] 2 ∧ 2 ≤ 2 ∧ 48 < (49#8).toNat) ∧
      Meets (withHlk fun k => { k with rx := .inFrame [0, 1, 2] 2 }) (fun s =>
        s.hlk.rx = .inFrame (0 :: [1, 2]) 2 ∧ (0#8).toNat ≤ 48 ∧ [1#8, 2].length = (0#8).toNat + 2 ∧
          (0#8) ≠ crc8 (0 :: [1, 2])) := by decide

theorem witness_SeriesFollowsItsParts :
    let c : Instr := .linkTransfer hS 5 1 0 48 (List.replicate 48 0)
    let x : Series := { ck := ckByte .S 17, tag := 1, count := 2, last := 0, fields := c.fields.take 47 }
    let y : Series := { ck := ckByte .S 17, tag := 1, count := 4, last := 1, fields := [] }
    Meets s0 (fun s =>
        127 ≤ 127 ∧ 1 ≤ 16 ∧ 15 ≤ 15 ∧ (List.replicate 47 (0#8)).length ≤ 47 ∧ s.hlk.rx = .hunting ∧
          s.hlk.resetPending = false ∧ 2 ≤ 4 ∧ 4 < 16 ∧ 15 ≤ 15 ∧ 1 ≤ 1 ∧ s.hlk.series = none) ∧
      Meets (withHlk fun k => { k with series := some y }) (fun s =>
        s.hlk.rx = .hunting ∧ s.hlk.resetPending = false ∧ s.hlk.series = some y ∧ y.ck = ckByte hS.chan 17 ∧
          y.tag = hS.tag ∧ y.count = 4 ∧ y.last + 1 = 2 ∧ 2 < 4 ∧ 4 ≤ 4 ∧ 2 + 1 < 4 ∧ y.last + 1 ≠ 3) ∧
      Meets (withHlk fun k => { k with series := some x }) (fun s =>
        s.hlk.rx = .hunting ∧ s.hlk.resetPending = false ∧ s.hlk.series = some x ∧ x.ck = ckByte hS.chan 17 ∧
          x.tag = hS.tag ∧ x.count = 2 ∧ x.last + 1 = 1 ∧ 1 + 1 = 2 ∧ c.request = some (17, hS) ∧
          c.wellFormed = true ∧ c.fields = x.fields ++ c.fields.drop 47 ∧
          47 * (2 - 1) < (x.fields ++ c.fields.drop 47).length ∧ s.hlk.queue.length < 4 ∧
          ¬(privileged 17 = true ∧ hS.chan = .S) ∧ (x.fields ++ []).length ≤ 47 * (2 - 1)) ∧
      Meets s0 (fun s =>
        s.hlk.queue.length < 4 ∧ 52 < 53 ∧ 53 ≤ 127 ∧ 52 ≤ 52 ∧ ¬(privileged 52 = true ∧ hP.chan = .S) ∧
          takesBytes 52 [0#8].length = false) ∧
      Meets (withHlk fun k => { k with series := some { x with fields := [] } }) (fun s =>
        s.hlk.series = some { x with fields := [] } ∧ s.hlk.queue.length < 4 ∧ 1 + 1 = 2 ∧ 2 ≤ 4 ∧
          takesBytes 17 ([] ++ [0#8, 0, 0]).length = false) := by decide

theorem witness_TransmitterSendsInOrder :
    s0.hlk.wire = none ∧
      Meets (withHlk fun k => { k with wire := some (onWire (.reply 0 2)), queue := [q1] }) (fun s =>
        s.hlk.wire = some (onWire (.reply 0 2)) ∧ s.hlk.queue = q1 :: [] ∧ 0 + 1 < 2) ∧
      Meets (withHlk fun k => { k with wire := some (onWire (.reply 1 2)), queue := [q1] }) (fun s =>
        s.hlk.wire = some (onWire (.reply 1 2)) ∧ s.hlk.queue = q1 :: [] ∧ 2 ≤ 1 + 1 ∧
          ¬(q1.resets = true ∧ s.hlk.resetPending = true)) ∧
      (withHlk fun k => { k with wire := some (onWire .qfull) }).hlk.wire = some (onWire .qfull) ∧
      (withHlk fun k => { k with wire := some (onWire (.notice .P)) }).hlk.wire = some (onWire (.notice .P)) := by
  decide

theorem witness_ResetReplyBringsTheSoftReset :
    Meets (withHlk fun k => { k with wire := some (onWire (.reply 0 1)), queue := [q50, q1], resetPending := true })
      (fun s =>
        s.hlk.wire = some (onWire (.reply 0 1)) ∧ 1 ≤ 0 + 1 ∧ s.hlk.queue = q50 :: [q1] ∧ q50.resets = true ∧
          s.hlk.resetPending = true ∧ Settings.factory.routes[EvSource.num .woke]? = some .S ∧
          Settings.factory.link[7]? = some (factoryPolicy 7)) ∧
      (withPth fun k => { k with path := .switching .packB }).pth.path = .switching .packB ∧
      Meets ((withPth fun k => { k with path := .onAdapter }).setAdapter
          { s0.adapter with present := true, qualified := true }) (fun s =>
        s.pth.path = .onAdapter ∧ s.adapterEligible = true) ∧
      Meets (withPth fun k => { k with packB := packIn .ejectPending true }) (fun s =>
        s.pth.path ≠ .onAdapter ∧ s.pth.packB.presence = .ejectPending) ∧
      (withPth fun k => { k with packB := packIn .ejectReady false }).pth.packB.presence = .ejectReady := by decide

theorem witness_StoreRequestsAndCompletions :
    s0.takes ∧ hP.chan = .P ∧ s0.sts.busy = none ∧
      (withSts fun t => { t with busy := some (.settings .factory, 6) }).sts.busy.isSome ∧
      Meets (withSts fun t => { t with busy := some (.settings .factory, 0) }) (fun s =>
        s.sts.busy = some (.settings .factory, 0)) ∧
      Meets (withSts fun t => { t with busy := some (.calibration .default, 0) }) (fun s =>
        s.sts.busy = some (.calibration .default, 0)) ∧
      Meets (withSts fun t => { t with busy := some (.profile 1 (defaultRow 0), 0) }) (fun s =>
        s.sts.busy = some (.profile 1 (defaultRow 0), 0)) ∧
      (withSts fun t => { t with busy := some (.profile 0 (defaultRow 0), 0) }).sts.busy ≠ none := by decide

theorem witness_idle_store :
    (∀ r, s0.sts.busy ≠ some (.settings r, 0)) ∧ (∀ c, s0.sts.busy ≠ some (.calibration c, 0)) ∧
      ∀ row es, s0.sts.busy ≠ some (.profile row es, 0) := by
  have h : s0.sts.busy = none := rfl
  simp [h]

theorem witness_ReadsReturnRecordsAndChangeNothing :
    s0.takes ∧ readPackId 0 = some .A ∧ readPackId 1 = some .B ∧ readPackId 2 = none ∧ 15 < (16#8).toNat ∧
      Meets (withChc fun c => { c with openRow := some 1, committing := some (defaultRow 0) }) (fun s =>
        s.takes ∧ (15#8).toNat ≤ 15 ∧ s.chc.committingRow ((15#8).toNat / 8) = true ∧
          s.chc.committingRow ((7#8).toNat / 8) = false) ∧
      1 < (2#8).toNat := by decide

/-! ### The path, the adapter and the packs -/

/-- The POWER job stopped. -/
def powerHalted (path : PathState) : State := (withPth fun k => { k with path := path }).setJob .power
  { s0.job .power with state := .halted }

theorem witness_PathSettingsRequests :
    s0.takes ∧ 2 < (3#8).toNat ∧ readEnum [Preference.auto, .preferA, .preferB] 2 = some .preferB ∧
      (withPth fun k => { k with path := .switching .packA }).pth.path = .switching .packA ∧
      Meets (powerHalted .onPackA) (fun s => s.running .power = false ∧ s.pth.path ≠ .noSource) ∧
      Meets (withPth fun k => { k with path := .onPackA, packA := packIn .present true, packB := packIn .present true })
        (fun s =>
          s.running .power = true ∧ (∀ x ∈ [Source.adapter, .packA, .packB], s.pth.path ≠ .switching x) ∧
            s.pth.path = settledOn .packA ∧
            (s.setPth { s.pth with preference := .preferA }).target s.pth.postponed = some .packA ∧
            (s.setPth { s.pth with preference := .preferB }).target s.pth.postponed = some .packB ∧
            (s.adapterEligible = true ∨ s.eligible .A = true)) ∧
      Meets ((powerHalted .onPackB).setPack .B (packIn .ejectPending true)) (fun s =>
        s.pth.path = settledOn .packB ∧ s.running .power = false ∧ s.adapterEligible = false ∧ s.eligible .A = false ∧
          s.pth.packB.presence = .ejectPending ∧ s.pth.packB.usable = true) ∧
      s0.target false = none ∧
      Meets (withPth fun k => { k with packB := packIn .ejectPending true }) (fun s =>
        s.target false = none ∧ s.pth.packB.presence = .ejectPending ∧ s.pth.packB.usable = true) ∧
      (10000 ≤ (10000#32).toNat ∧ (130000#32).toNat ≤ 130000 ∧ (9999#32) ≠ 0 ∧ (9999#32).toNat < 10000 ∧
        130000 < (130001#32).toNat ∧ 120000 < (120001#32).toNat) := by decide

theorem witness_EjectRequestsByState :
    s0.takes ∧ readPackId 0 ≠ some .B ∧ (powerHalted .onAdapter).running .power = false ∧
      (s0.running .power = true ∧ s0.pth.packB.presence = .absent) ∧
      Meets (withPth fun k => { k with packB := packIn .detected false }) (fun s =>
        s.running .power = true ∧ s.pth.packB.presence ≠ .absent ∧ s.pth.packB.presence ≠ .present ∧
          s.pth.packB.presence ≠ .ejectPending ∧ s.pth.packB.presence ≠ .ejectReady) ∧
      Meets (withPth fun k => { k with path := .onPackB, packB := packIn .present true }) (fun s =>
        s.running .power = true ∧ s.pth.packB.presence = .present ∧ s.uses .packB = true ∧
          s.adapterEligible = false ∧ s.eligible .A = false) ∧
      Meets (withPth fun k =>
          { k with path := .onPackB, packA := packIn .present true, packB := packIn .present true }) (fun s =>
        s.pth.packB.presence = .present ∧ s.uses .packB = true ∧ s.eligible .A = true ∧ s.pth.path = .onPackB) ∧
      Meets (withPth fun k =>
          { k with path := .switching .packB, packA := packIn .present true, packB := packIn .present true })
        (fun s => s.pth.packB.presence = .present ∧ s.uses .packB = true ∧ s.pth.path ≠ .onPackB) ∧
      Meets (withPth fun k => { k with packB := packIn .present true }) (fun s =>
        s.pth.packB.presence = .present ∧ s.uses .packB = false) ∧
      (withPth fun k => { k with packB := packIn .ejectPending true }).pth.packB.presence = .ejectPending ∧
      (withPth fun k => { k with packB := packIn .ejectReady false }).pth.packB.presence = .ejectReady := by decide

theorem witness_AdapterPresenceReadsTheRating :
    s0.adapter.present = false ∧ 11500 ≤ (11500#16).toNat ∧ (21000#16).toNat ≤ 21000 ∧ 21000 < (21001#16).toNat ∧
      200 ≤ (200#16).toNat ∧ (600#16).toNat ≤ 600 ∧ 700 ≤ (700#16).toNat ∧ (1100#16).toNat ≤ 1100 ∧
      1200 ≤ (1200#16).toNat ∧ (1600#16).toNat ≤ 1600 ∧ 1700 ≤ (1700#16).toNat ∧ (2100#16).toNat ≤ 2100 ∧
      ((199#16).toNat < 200 ∧ (600 < (601#16).toNat ∧ (699#16).toNat < 700) ∧
        (1100 < (1101#16).toNat ∧ (1199#16).toNat < 1200) ∧ (1600 < (1601#16).toNat ∧ (1699#16).toNat < 1700) ∧
        2100 < (2101#16).toNat) ∧
      (withAdapter fun a => { a with present := true }).adapter.present = true ∧ (11499#16).toNat < 11500 ∧
      s0.adapter.hostLimit = none ∧ { s0.adapter with hostLimit := some 10000 }.hostLimit = some 10000 := by decide

theorem witness_AdapterQualificationFollowsTheInput :
    Meets (withAdapter fun a => { a with present := true, count := some 20 }) (fun s =>
        s.adapter.present = true ∧ s.adapter.qualified = false ∧ s.adapter.overvolt = false ∧
          s.adapter.count = some 20 ∧ s.adapter.hold = none ∧ s.running .power = true ∧ s.pth.path = .noSource ∧
          (s.setPth { s.pth with path := .switching .packA }).adapter.count = some 20 ∧
          (s.setPth { s.pth with path := .switching .adapter }).pth.path = .switching .adapter) ∧
      Meets ((powerHalted .onPackA).setAdapter { s0.adapter with present := true, count := some 20 }) (fun s =>
        s.adapter.count = some 20 ∧ s.running .power = false ∧ s.pth.path ≠ .noSource) ∧
      Meets (withAdapter fun a => { a with present := true, count := some 19 }) (fun s => s.adapter.count ≠ some 20) ∧
      Meets (withAdapter fun a => { a with present := true }) (fun s =>
        s.adapter.present = true ∧ s.adapter.qualified = false ∧ s.adapter.count = none ∧
          s.adapter.overvolt = false ∧ 11500 ≤ (11500#16).toNat ∧ (21000#16).toNat ≤ 21000 ∧
          21000 < (21001#16).toNat ∧ (11499#16).toNat < 11500 ∧ 22000 < (22001#16).toNat ∧
          (22000#16).toNat ≤ 22000) ∧
      Meets (withAdapter fun a => { a with present := true, qualified := true }) (fun s =>
        s.adapter.present = true ∧ s.adapter.qualified = true ∧ s.adapter.overvolt = false) ∧
      Meets (withAdapter fun a => { a with present := true, overvolt := true }) (fun s =>
        s.adapter.present = true ∧ s.adapter.overvolt = true) ∧
      s0.adapter.present = false := by decide

theorem witness_PackPresenceFollowsTheLine :
    (s0.pack .A).line = false ∧
      Meets (withPack .A fun r => { r with line := true, debounce := some 500 }) (fun s =>
        (s.pack .A).line = true ∧ (s.pack .A).presence = .absent ∧ (s.pack .A).debounce = some 500) ∧
      (s0.pack .A).debounce ≠ some 500 ∧
      Meets (withPack .B fun _ => packIn .ejectReady false) (fun s =>
        (s.pack .B).line = true ∧ (s.pack .B).presence ≠ .absent) ∧
      Meets (withPack .B fun _ => { packIn .detected false with retryWait := some 0 }) (fun s =>
        (s.pack .B).presence = .detected ∧ (s.pack .B).retryWait = some 0) ∧
      (s0.pack .B).presence ≠ .detected ∧
      (packIn .detected false).retryWait ≠ some 0 := by decide

theorem witness_PathEventsMoveThePath :
    Meets (withPth fun k =>
        { k with path := .switching .packA, settled := .onPackB, knownMv := 10000, packB := packIn .ejectPending true })
      (fun s =>
        s.pth.path = .switching .packA ∧ s.pth.knownMv * 90 / 100 ≤ (9000#16).toNat ∧
          (8999#16).toNat < s.pth.knownMv * 90 / 100 ∧ s.pth.settled ≠ settledOn .packA ∧ Source.packA ≠ .packB ∧
          s.running .power = true ∧ s.pth.packB.presence = .ejectPending ∧ s.adapterEligible = false ∧
          s.eligible .A = false ∧ s.pth.packB.usable = true) ∧
      Meets (withPth fun k =>
        { k with path := .switching .packA, packA := packIn .present true, packB := packIn .ejectPending true })
      (fun s =>
        s.pth.path = .switching .packA ∧ s.running .power = true ∧ s.pth.packB.presence = .ejectPending ∧
          s.eligible .A = true) ∧
      Meets (withPth fun k => { k with path := .switching .packB, packB := packIn .ejectPending true }) (fun s =>
        s.running .power = true ∧ (s.pth.packB.presence = .ejectPending → Source.packB = .packB)) ∧
      Meets (powerHalted (.switching .packA)) (fun s =>
        s.pth.path = .switching .packA ∧ s.running .power = false) ∧
      (withPth fun k => { k with path := .switching .adapter }).pth.path = .switching .adapter ∧
      (withPth fun k => { k with path := .switching .packB }).pth.path = .switching .packB ∧
      Meets (withAdapter fun a => { a with present := true, qualified := true, hold := some 0 }) (fun s =>
        s.adapter.hold = some 0 ∧ s.running .power = true ∧ s.pth.path = .noSource ∧
          (s.setAdapter { s.adapter with hold := none }).target false = some .adapter ∧
          (s.setPth { s.pth with path := .switching .packA }).adapter.hold = some 0) ∧
      Meets ((powerHalted .onPackA).setAdapter { s0.adapter with hold := some 0 }) (fun s =>
        s.adapter.hold = some 0 ∧ s.running .power = false ∧ s.pth.path ≠ .noSource) ∧
      ((withPack .A fun r => { r with hold := some 0 }).pack .A).hold = some 0 ∧
      Meets ((powerHalted .onAdapter).setPack .A { s0.pack .A with hold := some 0 }) (fun s =>
        (s.pack .A).hold = some 0 ∧ s.running .power = false ∧ s.pth.path ≠ .noSource) ∧
      s0.adapter.hold ≠ some 0 ∧ (s0.pack .B).hold ≠ some 0 ∧
      Meets (withPth fun k => { k with packB := packIn .ejectReady false, ejectWindow := some 0 }) (fun s =>
        s.pth.packB.presence = .ejectReady ∧ s.pth.ejectWindow = some 0 ∧ s.pth.path = .noSource) ∧
      Meets (withPth fun k =>
          { k with path := .switching .packA, packB := packIn .ejectReady false, ejectWindow := some 0 }) (fun s =>
        s.pth.packB.presence = .ejectReady ∧ s.pth.ejectWindow = some 0 ∧ s.pth.path = .switching .packA) ∧
      s0.pth.packB.presence ≠ .ejectReady ∧ s0.pth.ejectWindow ≠ some 0 := by decide

theorem witness_no_switching : ∀ x : Source, s0.pth.path ≠ .switching x := nofun

theorem witness_PathAndAdapterLawsKept : SwitchesFollowPath s0 ∧ QualifiedAdapterSound s0 :=
  ⟨⟨by decide, by decide, by decide⟩, nofun⟩

theorem witness_ChargingNeedsTheAdapter :
    ChargeNeedsAdapter s0 ∧ GrantNeedsAdapter s0 ∧ OneSession s0 ∧ DesiredObeysGrant s0 ∧ EnableFollowsSetpoint s0 ∧
      NewestSetpointOnItsWay s0 ∧ LinkServesItsSlots s0 :=
  ⟨fun _ => ⟨rfl, rfl, nofun⟩, ⟨rfl, fun _ => ⟨rfl, rfl⟩⟩, ⟨nofun, fun p => by cases p <;> nofun⟩,
    ⟨fun _ => ⟨rfl, rfl⟩, fun p => by cases p <;> nofun⟩, ⟨nofun, fun p f _ h => by cases h⟩,
    ⟨fun _ => rfl, fun _ _ => rfl, nofun⟩,
    ⟨⟨fun _ => rfl, fun _ => rfl⟩, fun h => absurd rfl h, fun _ _ => ⟨rfl, rfl, rfl⟩, rfl, nofun, nofun⟩⟩

/-! ### Charging and the budget -/

theorem witness_SetChargeAppliesItsFields :
    s0.takes ∧ readKeep [true, false] 0 = some (some true) ∧ readKeep [true, false] 2 = some none ∧
      readKeep [ChargeOrder.auto, .firstA, .firstB] 3 = some none ∧ readRange 50 100 (50#8) = some (some 50) ∧
      readRange 50 100 (100#8) = some (some 100) ∧ readRange 50 100 (255#8) = some none ∧
      readRange 50 100 (49#8) = none ∧ readRange 50 100 (101#8) = none ∧ readKeep [true, false] 3 = none ∧
      readKeep [ChargeOrder.auto, .firstA, .firstB] 4 = none := by decide

/-- An entry as STAGE PROFILE ENTRY carries it, with every field in its range. -/
def rawEntry : RawEntry := ⟨0, 1, 0, 450, 4200, 2000, 0, 3000, 256, 128, 30, 240⟩

theorem witness_ProfileCommitIsStaged :
    s0.takes ∧ hP.chan = .P ∧ 1 < (2#8).toNat ∧ (1#8).toNat ≤ 1 ∧ s0.sts.busy = none ∧ s0.chc.openRow = none ∧
      (withSts fun t => { t with busy := some (.settings .factory, 6) }).sts.busy.isSome ∧
      Meets (withChc fun c => { c with openRow := some 1, committing := some (defaultRow 0) }) (fun s =>
        s.chc.openRow.isSome ∧ s.chc.committing.isSome) ∧
      Meets (withChc fun c => { c with openRow := some 1 }) (fun s =>
        s.chc.openRow = some 1 ∧ s.chc.committing = none ∧ (∀ l ∈ s.chc.latches, l = none)) ∧
      7 < (8#8).toNat ∧ (7#8).toNat ≤ 7 ∧ (readEntry rawEntry).isSome = true ∧
      readEntry { rawEntry with valid := 2 } = none ∧ { rawEntry with valid := 1 }.valid = 1 ∧
      1 < { rawEntry with valid := 2 }.valid.toNat ∧ rawEntry.valid = 0 ∧
      readEntry { rawEntry with bandHigh := 800, maxMa := 6000, taperMa := 2000, preMin := 255, fastMin := 1440 } =
        some ⟨true, 1, 0, 800, 4200, 6000, true, 3000, 256, 2000, 255, 1440⟩ ∧
      readEntry { rawEntry with bandHigh := 801 } = none ∧ readEntry { rawEntry with useRequest := 2 } = none ∧
      Meets (withChc fun c => { c with openRow := some 1, latches := [none, some .builtin] }) (fun s =>
        s.chc.openRow = some 1 ∧ (∃ l ∈ s.chc.latches, l ≠ none) ∧ s.sts.busy = none) ∧
      Meets ((withChc fun c => { c with openRow := some 1, latches := [none, some .builtin] }).setSts
          { s0.sts with busy := some (.settings .factory, 6) }) (fun s =>
        s.chc.openRow = some 1 ∧ (∃ l ∈ s.chc.latches, l ≠ none) ∧ s.sts.busy.isSome) := by decide

/-- Pack A in a charge state, governed by entry 0, at a time. -/
def charging (st : ChargeState) (pre fast : Nat) (now : Time) : State :=
  { (withPack .A fun _ => packIn .present true).setCharge .A
      { s0.chc.a with state := st, entry := some 0, preTime := pre, fastTime := fast } with time := now }

theorem witness_ChargeTimersEndTheirPhase :
    Meets (charging .qualify 0 0 5000) (fun s => s.stale .A = true ∧ (s.charge .A).state = .qualify) ∧
      Meets (charging .fast 0 0 5000) (fun s => s.stale .A = true ∧ (s.charge .A).state.phase.isSome = true) ∧
      (charging .fast 0 0 4999).stale .A = false ∧
      Meets (charging .idle 0 0 5000) (fun s =>
        (s.charge .A).state ≠ .qualify ∧ (s.charge .A).state.phase = none) ∧
      Meets (charging .precharge 1800000 0 0) (fun s =>
        (s.charge .A).state = .precharge ∧ s.preLimit .A ≤ (s.charge .A).preTime) ∧
      Meets (charging .precharge 1799999 0 0) (fun s => (s.charge .A).preTime < s.preLimit .A) ∧
      Meets (charging .topoff 0 14400000 0) (fun s =>
        (s.charge .A).state = .topoff ∧ s.fastLimit .A ≤ (s.charge .A).fastTime) ∧
      Meets (charging .fast 0 14400000 0) (fun s =>
        (s.charge .A).state = .fast ∧ s.fastLimit .A ≤ (s.charge .A).fastTime) ∧
      Meets (charging .fast 0 14399999 0) (fun s => (s.charge .A).fastTime < s.fastLimit .A) ∧
      Meets (withChc fun c =>
          { c with deadline := some 0, desired := ⟨12600, 0, false⟩, inForce := some ⟨12600, 64, true⟩ }) (fun s =>
        s.chc.deadline = some 0 ∧ (⟨12600, 64, true⟩ : Setpoint).exceeds s.chc.desired = true) ∧
      s0.chc.deadline ≠ some 0 := by decide

theorem witness_deadline_of_a_fall :
    (∀ d : Setpoint, d = ⟨12600, 64, true⟩ ∨ d = ⟨12600, 0, false⟩ →
      Meets (withChc fun c => { c with desired := d, inForce := some ⟨12600, 64, true⟩ }) (fun s =>
        s.chc.inForce = some ⟨12600, 64, true⟩ ∧ s.chc.deadline = none ∧
          (⟨12600, 64, true⟩ : Setpoint).exceeds (regrant s).chc.desired = true)) ∧
      (⟨12600, 64, true⟩ : Setpoint).exceeds ⟨12600, 64, true⟩ = false ∧
      (⟨12600, 64, true⟩ : Setpoint).exceeds ⟨12600, 0, false⟩ = true := by
  refine ⟨?_, by decide, by decide⟩
  rintro d (rfl | rfl) <;> decide

/-- Pack A, which asks for a charging current, with a latest snapshot and a suspended phase of FAST, under a grant
and a derate. -/
def regranted (st : ChargeState) (x : Snapshot) (grant : Nat) (d : Derate) : State :=
  let s := charging st 0 0 0
  let pack := { s.pack .A with identity := some ⟨7, 1, 3, 5000, false, true, false⟩, snapshot := some x }
  let s1 := (s.setPack .A pack).setCharge .A { s.charge .A with phase := some .fast }
  (s1.setBga { s1.bga with applied := grant }).setThc { s1.thc with derate := d }

/-- A snapshot that asks for 100 mA. -/
def asks100 : Snapshot := { snapA with reqCurrent := some 100 }

theorem witness_regrant_of_a_phase :
    ∀ st ∈ [ChargeState.precharge, .fast, .topoff, .suspended .budget, .suspended .packAlarm],
      Meets (regranted st snapA 128 .none) (fun s =>
        (st.phase.isSome = true ∨ (s.charge .A).phase = some .fast) ∧ (s.charge .A).entry = some 0 ∧
          (s.pack .A).identity.isSome = true ∧ (s.pack .A).snapshot = some snapA ∧ s.activePack = some .A) := by
  decide

theorem witness_regrant_of_128_mA :
    let i : Identity := ⟨7, 1, 3, 5000, false, true, false⟩
    Meets (regranted .fast snapA 128 .none) (fun s =>
        128 ≤ (phaseCurrent .fast (s.entry 0) i snapA s.bga.applied s.thc.derate).1 ∧
          (regrant s).chc.desired = ⟨12600, 128, true⟩) ∧
      Meets (regranted .fast asks100 128 .none) (fun s =>
        (phaseCurrent .fast (s.entry 0) i asks100 s.bga.applied s.thc.derate).1 < 128) := by decide

/-- A write in flight above the applied grant, with a deadline and a time left after the last reduction. -/
def writingAbove (applied : Nat) (deadline cut : Option Nat) : State :=
  let s := regranted .fast snapA applied .none
  (s.setChc
      { s.chc with
        desired := ⟨12600, 512, true⟩, inForce := some ⟨12601, 512, true⟩, inFlight := some ⟨12600, 1024, true⟩,
        deadline := deadline, chgEn := true }).setBga { s.bga with cutLeft := cut }

/-- R42, R43: a write that takes the current in force above the grant leaves a deadline as it runs; CHG_EN stays asserted
while the 50 ms after the reduction of the grant run too, falls at their end, and is no longer barred within the grant. -/
theorem test_write_above_the_grant :
    let inTime := writeComplete (writingAbove 768 (some 30) (some 20))
    let barred := writeComplete (writingAbove 768 (some 30) none)
    (inTime.chc.deadline, inTime.chc.chgEn) = (some 30, true) ∧
      (let t := after .reductionDeadlineExpired (inTime.setBga { inTime.bga with cutLeft := some 0 })
       (t.chc.deadline, t.chc.chgEn, t.bga.cutLeft) = (some 30, false, none)) ∧
      (barred.chc.deadline, barred.chc.chgEn) = (some 30, false) ∧
      (driveEnable (barred.setBga (barred.bga.grant 1024))).chc.chgEn = true ∧
      (writeComplete (barred.setChc { barred.chc with inFlight := some ⟨12601, 512, true⟩ })).chc.chgEn = true ∧
      (s0.bga.grant 0).cutLeft = none ∧ ({ s0.bga with applied := 64 }.grant 0).cutLeft = some 50 := by decide

theorem witness_write_that_completes :
    Meets (writingAbove 768 (some 30) (some 20)) (fun s =>
        s.chc.flightVoid = false ∧ s.activePack = some .A ∧ s.inPhase .A = true ∧
          s.chc.inFlight = some ⟨12600, 1024, true⟩ ∧
          (⟨12600, 1024, true⟩ : Setpoint).exceeds s.chc.desired = true ∧ s.chc.deadline = some (29 + 1) ∧
          s.bga.applied < 1024 ∧ s.bga.cutLeft = some (19 + 1)) ∧
      (⟨12600, 512, true⟩ : Setpoint).exceeds ⟨12600, 512, true⟩ = false ∧
      Meets (writingAbove 768 (some 30) (some 0)) (fun s =>
        s.bga.cutLeft = some 0 ∧ s.chc.inForce = some ⟨12601, 512, true⟩ ∧
          (⟨12601, 512, true⟩ : Setpoint).exceeds s.chc.desired = true) ∧
      s0.chc.deadline ≠ some 0 ∧ s0.bga.cutLeft ≠ some 0 := by decide

theorem test_regrant_suspends_below_128_mA :
    ((regrant (regranted .fast snapA 128 .none)).charge .A).state = .fast ∧
      ((regrant (regranted .fast snapA 64 .none)).charge .A).state = .suspended .budget ∧
      ((regrant (regranted .fast snapA 128 .zero)).charge .A).state = .suspended .thermal ∧
      ((regrant (regranted .fast asks100 128 .none)).charge .A).state = .suspended .packAlarm := by decide

theorem test_regrant_clears_a_suspension_of_R30 :
    ((regrant (regranted (.suspended .packAlarm) snapA 128 .none)).charge .A).state = .qualify ∧
      ((regrant (regranted (.suspended .packAlarm) snapA 64 .none)).charge .A).state = .suspended .packAlarm ∧
      ((regrant (regranted (.suspended .packAlarm) asks100 128 .none)).charge .A).state = .suspended .packAlarm ∧
      ((regrant (regranted (.suspended .packAlarm) { snapA with overTemp := true } 128 .none)).charge .A).state =
        .suspended .packAlarm ∧
      ((regrant (regranted (.suspended .thermal) snapA 128 .none)).charge .A).state = .qualify ∧
      ((regrant (regranted (.suspended .temp) snapA 128 .none)).charge .A).state = .suspended .temp := by decide

/-- Pack A in a charge state on the adapter, a transaction of a client on the wire that takes no check byte. -/
def onBus (st : ChargeState) (c : Client) (x : Txn) (w : Option PollWork) : State :=
  let s := charging st 0 0 0
  (s.setPth
      { s.pth with path := .onAdapter, adapter := { s.pth.adapter with present := true, qualified := true } }).setPlc
    { s.plc with
      link := .busy, work := w,
      wire := some { client := c, item := x, policy := { factoryPolicy x.entry with check := false }, sent := [] } }

/-- The last item of a snapshot of pack A, its cycle count, on the wire. -/
def publishing (st : ChargeState) (got : Snapshot) : State :=
  onBus st .packPoll (readItem 0 0x17 2) (some (.snapshot .A [.cycles] got))

/-- A transaction that ends with two bytes. -/
def twoBytes : BusEnd := ⟨true, [9, 0], 0, true, true⟩

/-- The snapshot `publishing` publishes. -/
def snapWith (got : Snapshot) : Snapshot := { got with cycles := some 9 }

/-- A phase R31 enters with less than 128 mA is entered, and R30 suspends it at the same snapshot. -/
theorem test_low_successor_is_entered_and_suspended :
    let t := after (.transactionEnd twoBytes) (publishing .precharge snapA)
    (t.charge .A).state = .suspended .budget ∧ (t.charge .A).phase = some .fast ∧
      ∃ c ∈ [Channel.P, .S], ∃ l ∈ t.list c, l.src = .chargePhase ∧ l.count = 2 := by decide

theorem witness_published_snapshot :
    Meets (publishing .qualify snapA) (fun s =>
      s.published twoBytes = some (.A, snapWith snapA) ∧ s.pth.path = .onAdapter ∧ s.adapterEligible = true ∧
        s.running .power = true) := by decide

theorem witness_published_in_qualify :
    Meets (publishing .qualify { snapA with temp := 451 }) (fun s =>
        s.published twoBytes = some (.A, snapWith { snapA with temp := 451 }) ∧ s.supported .A = true ∧
          s.matchEntry .A 451 = none ∧ s.matchEntry .A 250 = some 0 ∧ (s.pack .A).identity.isSome = true) ∧
      Meets ((publishing .qualify snapA).setPack .A
          { packIn .present true with identity := some ⟨7, 2, 3, 5000, false, false, false⟩ }) (fun s =>
        s.published twoBytes = some (.A, snapWith snapA) ∧ s.supported .A = false) ∧
      { snapA with overTemp := true }.overTemp = true ∧ { snapA with terminate := true }.terminate = true ∧
      8999 < 3 * ProfileEntry.builtin.preCellMv ∧ 3 * ProfileEntry.builtin.preCellMv ≤ 9000 := by decide

theorem witness_published_in_a_phase :
    let e := ProfileEntry.builtin
    let i : Identity := ⟨7, 1, 3, 5000, false, false, false⟩
    Meets (publishing .precharge snapA) (fun s =>
        s.published twoBytes = some (.A, snapWith snapA) ∧ (s.charge .A).state.phase.isSome = true ∧
          (s.charge .A).entry = some 0 ∧ (s.pack .A).identity = some i ∧ s.entry 0 = e ∧
          e.bandLow ≤ snapA.temp ∧ snapA.temp ≤ e.bandHigh ∧ i.cells * e.preCellMv ≤ snapA.voltage ∧
          8999 < i.cells * e.preCellMv ∧ ¬(e.bandLow ≤ -1 ∧ -1 ≤ e.bandHigh)) ∧
      Meets (publishing .fast snapA) (fun s =>
        s.published twoBytes = some (.A, snapWith snapA) ∧ (s.charge .A).state = .fast ∧
          12551 + 16 * i.cells < phaseVoltage e i snapA ∧ phaseVoltage e i snapA ≤ 12552 + 16 * i.cells) ∧
      Meets ((publishing .topoff snapA).setChc
          { (publishing .topoff snapA).chc with inForce := some ⟨12600, 129, true⟩ }) (fun s =>
        s.published twoBytes = some (.A, snapWith snapA) ∧ (s.charge .A).state = .topoff ∧
          snapA.current ≤ Int.ofNat e.taperMa ∧ e.taperMa < (s.chc.inForce.map (·.ma)).getD 0 ∧
          (s.charge .A).taperRun < 2) ∧
      2 ≤ { s0.chc.a with taperRun := 2 }.taperRun ∧
      Meets (publishing .topoff snapA) (fun s =>
        (s.charge .A).state = .topoff ∧ ¬(e.taperMa < (s.chc.inForce.map (·.ma)).getD 0)) := by decide

theorem witness_published_outside_a_phase :
    Meets (publishing (.suspended .packAlarm) snapA) (fun s =>
        s.published twoBytes = some (.A, snapWith snapA) ∧ (s.charge .A).state = .suspended .packAlarm ∧
          (s.charge .A).phase = none) ∧
      Meets ((publishing (.suspended .budget) snapA).setCharge .A
          { (charging (.suspended .budget) 0 0 0).chc.a with phase := some .fast }) (fun s =>
        s.published twoBytes = some (.A, snapWith snapA) ∧ (s.charge .A).state = .suspended .budget ∧
          (s.charge .A).phase = some .fast ∧ (s.charge .A).entry = some 0 ∧ (s.pack .A).identity.isSome = true) ∧
      Meets ((publishing .done snapA).setCharge .A
          { (charging .done 0 0 0).chc.a with relAtDone := some 95 }) (fun s =>
        s.published twoBytes = some (.A, snapWith snapA) ∧ (s.charge .A).state = .done ∧
          (s.charge .A).relAtDone = some 95) ∧
      (publishing (.suspended .temp) snapA).chc.a.state = .suspended .temp ∧
      (publishing (.suspended .stale) snapA).chc.a.state = .suspended .stale ∧
      (publishing (.suspended .thermal) snapA).chc.a.state = .suspended .thermal ∧
      (publishing (.fault .chargeTimeout) snapA).chc.a.state = .fault .chargeTimeout ∧
      (publishing .inhibitedHost snapA).chc.a.state = .inhibitedHost := by decide

/-- On the adapter, with a grant applied and one computed. -/
def granted (applied computed : Nat) : State :=
  withBga fun b => { b with mode := .adapter, applied := applied, computed := computed }

/-- Packs A and B in place, neither charging, of these voltages. -/
def twoPacks (a b : Nat) : State :=
  withPth fun k =>
    { k with
      packA := { packIn .present true with snapshot := some { snapA with voltage := a } },
      packB := { packIn .present true with snapshot := some { snapA with voltage := b } } }

theorem witness_InputMeasurementComputesTheBudget :
    let f : Setpoint := ⟨12600, 512, true⟩
    (granted 0 0).bga.mode = .adapter ∧ (granted 0 0).running .power = true ∧ s0.bga.mode ≠ .adapter ∧
      Meets (withChc fun c => { c with chgEn := true, inForce := some f }) (fun s =>
        s.chc.chgEn = true ∧ s.chc.inForce = some f) ∧
      s0.chc.chgEn = false ∧ s0.chc.inForce = none ∧
      Meets (charging .fast 0 0 0) (fun s =>
        s.charging .A = true ∧ s.charging .B = false ∧ (s.pack .A).snapshot.map (·.voltage) = some 11000) ∧
      Meets (twoPacks 11000 11000) (fun s =>
        s.charging .A = false ∧ s.charging .B = false ∧ s.chargeable .A = true ∧ s.chargeable .B = true ∧
          s.packMv .B = 11000 ∧ s.packMv .A = 11000) ∧
      Meets (twoPacks 10999 11000) (fun s => s.packMv .A < s.packMv .B) ∧
      Meets s0 (fun s => s.chargeable .A = false ∧ s.chargeable .B = false) ∧
      Meets ((powerHalted .onAdapter).setBga { s0.bga with mode := .adapter }) (fun s =>
        s.bga.mode = .adapter ∧ s.running .power = false) := by decide

/-- On the adapter with pack A in place, of 50 %, and pack B of `rel` %, both IDLE. -/
def candidates (rel : Nat) : State :=
  let s := publishing .idle snapA
  (s.setPack .B { packIn .present true with relCharge := some rel }).setChc { s.chc with threshold := 95 }

theorem witness_candidates :
    Meets (candidates 50) (fun s => s.candidate .A = true ∧ s.candidate .B = true ∧ s.rel .A = s.rel .B) ∧
      Meets (candidates 49) (fun s => s.candidate .B = true ∧ s.rel .B < s.rel .A) ∧
      (candidates 50).chc.order = .auto ∧ s0.candidate .A = false ∧ s0.candidate .B = false := by decide

theorem witness_session_may_start :
    MayStartSession (candidates 50) ∧ SessionGoesTo .A (candidates 50) ∧ SessionGoesTo .B (candidates 49) ∧
      ¬MayStartSession s0 :=
  ⟨⟨fun q => by cases q <;> decide, by decide, by decide, by decide⟩,
    ⟨by decide, fun q _ _ => ⟨by decide, by decide, fun _ => .inr ⟨by cases q <;> decide, rfl⟩⟩⟩,
    ⟨by decide, fun q h _ => ⟨by decide, by decide, fun _ => .inl (by cases q <;> first | decide | exact absurd rfl h)⟩⟩,
    fun h => nomatch h.2.1⟩

theorem witness_SessionsStartAndCommitsTakeEffect :
    let e := ProfileEntry.builtin
    let i : Identity := ⟨7, 1, 3, 5000, true, true, false⟩
    i.reqVoltage = true ∧ 4000 ≤ 4000 ∧ 12600 ≤ i.cells * e.cellMv ∧ 3999 < 4000 ∧ i.cells * e.cellMv < 12601 ∧
      { i with reqVoltage := false }.reqVoltage = false ∧
      Meets (charging .fast 0 0 0) (fun s =>
        s.activePack = some .A ∧ (s.charge .A).state.phase = some .fast ∧ (s.charge .A).entry = some 0 ∧
          (s.pack .A).identity.isSome = true ∧ (s.pack .A).snapshot = some snapA) ∧
      s0.inPhase .A = false ∧ s0.inPhase .B = false ∧
      Meets ((candidates 50).setPth { (candidates 50).pth with path := .switching .adapter }) (fun s =>
        s.pth.path = .switching .adapter ∧ s.pth.knownMv * 90 / 100 ≤ (0#16).toNat ∧ s.adapterEligible = true ∧
          s.running .power = true ∧ s.charging .A = false ∧ s.charging .B = false) ∧
      s0.takes ∧ readKeep [ChargeOrder.auto, .firstA, .firstB] 1 = some (some .firstA) ∧
      readRange 50 100 (255#8) = some none ∧
      Meets ((charging (.suspended .temp) 0 0 5000).setSts
          { s0.sts with busy := some (.profile 0 (defaultRow 0), 0) }) (fun s =>
        s.sts.busy = some (.profile 0 (defaultRow 0), 0) ∧ s.charging .A = true ∧
          ((s.charge .A).entry.any fun k => decide (k / 8 = 0)) = true ∧ (s.charge .A).state = .suspended .temp ∧
          s.stale .A = true) ∧
      (charging .inhibitedUnsupported 0 0 0).chc.a.state = .inhibitedUnsupported := by decide

theorem witness_GrantFallsPromptlyRisesReluctantly :
    Meets (granted 64 0) (fun s => s.running .power = true ∧ s.bga.computed + 64 ≤ s.bga.applied) ∧
      Meets (granted 0 128) (fun s => s.bga.applied + 128 ≤ s.bga.computed) ∧
      Meets (granted 64 128) (fun s =>
        s.bga.computed < s.bga.applied + 128 ∧ s.bga.applied < s.bga.computed + 64) ∧
      Meets (charging .fast 0 0 0) (fun s =>
        (s.charge .A).entry = some 0 ∧ (s.pack .A).identity.isSome = true ∧ (s.pack .A).snapshot.isSome = true) ∧
      grantFrom 79000 12000 < 6000 ∧ 0 % 64 = 0 ∧ 64 % 64 = 0 ∧ 0 < 64 := by decide

theorem witness_ThrottleFollowsTheDemand :
    (granted 0 0).bga.mode = .adapter ∧ s0.bga.mode ≠ .adapter ∧
      (s0.bga.throttle = .released ∧ 100 < 101 ∧ 100 ≤ 100) ∧
      Meets (withBga fun b => { b with throttle := .asserted }) (fun s =>
        s.bga.throttle = .asserted ∧ 96 < 100 * 97 / 100 ∧ 100 * 97 / 100 ≤ 97) ∧
      Meets ((publishing .idle snapA).setPth { (publishing .idle snapA).pth with path := .onPackA }) (fun s =>
        s.published twoBytes = some (.A, snapWith snapA) ∧ s.pth.path = settledOn PackId.A.source ∧
          (after (.transactionEnd twoBytes) s).pth.path ≠ .noSource) ∧
      Meets (publishing .idle snapA) (fun s =>
        s.published twoBytes = some (.A, snapWith snapA) ∧ s.pth.path ≠ settledOn PackId.A.source ∧
          (after (.transactionEnd twoBytes) s).pth.path ≠ .noSource) ∧
      Meets ((powerHalted (.switching .packA)).setPack .A (packIn .present true)) (fun s =>
        s.pth.path = .switching PackId.A.source ∧ s.pth.knownMv * 90 / 100 ≤ (0#16).toNat ∧
          (s.pack .A).snapshot = some snapA ∧ (after (.pathRailConfirmed 0) s).pth.path ≠ .noSource) ∧
      Meets (withBga fun b => { b with throttle := .asserted, episodeOwner := some .packA }) (fun s =>
        s.bga.throttle ≠ .released ∧ s.bga.episodeOwner ≠ none ∧ s.bga.episodeOwner ≠ some .adapter) ∧
      (withBga fun b => { b with throttle := .asserted, episodeOwner := some .adapter }).bga.episodeOwner =
        some .adapter ∧
      Meets (withBga fun b => { b with throttle := .releasing, release := some 0 }) (fun s =>
        s.bga.throttle = .releasing ∧ s.bga.release = some 0) ∧
      s0.bga.throttle ≠ .releasing ∧ s0.bga.release ≠ some 0 := by decide
/-! ### The pack link -/

/-- A pass-through to entry 7. -/
def pass7 : Pass :=
  { entry := 7, write := false, cmd := 0, len := 48, segLen := 8, buf := [], seg := 0, done := 0, reps := 0,
    failed := false }

theorem witness_LinkTableRequests :
    s0.takes ∧ hP.chan = .P ∧ 7 < (8#8).toNat ∧ (3#8).toNat ∉ segLens ∧ (32#8).toNat ∈ segLens ∧
      1 < (2#8).toNat ∧ (0#8).toNat < 1 ∧ 50 < (51#8).toNat ∧ 1 ≤ (1#8).toNat ∧ (50#8).toNat ≤ 50 ∧
      (7#8).toNat ≤ 7 ∧ readEnum [Abort.discard, .retry] 1 = some .retry ∧
      s0.definition 7 (some ⟨0, 0x77, 1⟩) = some (true, some 0x77, false) ∧
      s0.definition 4 none = some (true, some 0x4D, false) ∧ s0.definition 5 none = none ∧
      (withPlc fun k => { k with pass := some pass7 }).passTo 7 = true ∧ s0.passTo 7 = false ∧
      (0x07#8).toNat < 0x08 ∧ 0x77 < (0x78#8).toNat ∧ s0.addressTaken 7 (some 0x4D) = true ∧
      s0.addressTaken 7 (some 0x08) = false ∧ s0.definition 5 (some ⟨0, 0x08, 0⟩) = some (true, some 0x08, true) ∧
      s0.definition 6 (some ⟨1, 0x78, 0⟩) = some (false, none, true) ∧
      s0.definition 6 (some ⟨2, 0x20, 0⟩) = none ∧ s0.definition 4 (some ⟨0, 0x20, 0⟩) = none := by decide

theorem witness_PassThroughRequests :
    s0.takes ∧ 7 < (8#8).toNat ∧ 1 < (2#8).toNat ∧ (0#8).toNat < 1 ∧ 48 < (49#8).toNat ∧
      256 < (209#8).toNat + (48#8).toNat ∧ (208#8).toNat + (48#8).toNat ≤ 256 ∧ (48#8).toNat ≤ 48 ∧
      (s0.setJob .link { s0.job .link with state := .off }).running .link = false ∧
      Meets (withPlc fun k => { k with pass := some pass7 }) (fun s =>
        s.running .link = true ∧ s.plc.pass.isSome ∧ s.plc.outstanding = some pass7) ∧
      Meets (withPlc fun k => { k with caught := some pass7 }) (fun s => s.plc.caught.isSome) ∧
      Meets s0 (fun s =>
        s.running .link = true ∧ s.plc.pass = none ∧ s.plc.caught = none ∧ s.named 0 = false ∧ s.named 4 = true ∧
          s.plc.outstanding = none ∧ s.plc.result = none) ∧
      Meets (withPlc fun k => { k with result := some ⟨.done, 3, false, 0, 1, 1, [5], 9⟩ }) (fun s =>
        s.plc.outstanding = none ∧ s.plc.result.isSome) := by decide

set_option maxRecDepth 100000 in
theorem witness_TransactionsEndWithTheirOutcome :
    Meets (linkAt .busy .pass readTxn 26) (fun s =>
        s.plc.link = .busy ∧ s.plc.wire = some (s0.onWire .pass readTxn) ∧ readTxn.entry < s.plc.devices.length ∧
          s.plc.discard = false ∧ s.plc.gone = false ∧ readTxn.write = false ∧
          (s0.onWire .pass readTxn).policy.check = true ∧ (s0.onWire .pass readTxn).policy.holdLimit = 25 ∧
          25 < s.plc.holdTime) ∧
      writeTxn.write = true ∧ s0.plc.link ≠ .busy ∧ s0.plc.wire = none ∧
      (withPlc fun k => { k with link := .busy, gone := true }).plc.gone = true ∧
      (withPlc fun k => { k with link := .busy, discard := true }).plc.discard = true ∧
      Meets (linkAt (.recovery true) .pass readTxn 25) (fun s =>
        s.plc.link = .recovery true ∧ s.plc.wire = some (s0.onWire .pass readTxn) ∧ s.plc.discard = false ∧
          s.plc.gone = false ∧ readTxn.entry < s.plc.devices.length) ∧
      Meets (linkAt (.recovery false) .pass readTxn 26) (fun s =>
        s.plc.link = .recovery false ∧ s.plc.gone = false ∧ s.running .link = true ∧
          (s.device readTxn.entry).policy.holdLimit = 25) ∧
      Meets ((linkAt (.recovery false) .packPoll readTxn 0).setPlc
          { (linkAt (.recovery false) .packPoll readTxn 0).plc with
            pass := some { pass7 with entry := 0 }, work := some (.identity .A), reading := some .ts0 }) (fun s =>
        s.plc.discard = false ∧ s.plc.gone = false ∧ s.running .link = true ∧ s.plc.work.isSome = true ∧
          s.plc.reading.isSome = true ∧ s.deferred readTxn.entry = true) ∧
      (withPth fun k => { k with path := .switching .packA }).pth.path = .switching .packA := by decide

/-- A transaction that its device does not acknowledge. -/
def noAck : BusEnd := ⟨false, [], 0, true, true⟩

theorem witness_outcomes_of_the_pack_poller :
    Meets (onBus .idle .packPoll (readItem 0 9 2) (some (.snapshot .A [.voltage, .current] snapA))) (fun s =>
        s.handed twoBytes = some (.packPoll, .done [9, 0]) ∧ s.handed noAck = some (.packPoll, .noack) ∧
          s.plc.work = some (.snapshot .A (.voltage :: .current :: []) snapA) ∧ s.running .link = true ∧
          (s.pack .A).failRun < 2 ∧ s.polled .A = true) ∧
      2 ≤ { packIn .present true with failRun := 2 }.failRun ∧
      Meets ((onBus .idle .packPoll (readItem 0 0x40 8) (some (.identity .A))).setPack .A (packIn .detected false))
        (fun s =>
          s.handed ⟨true, [7, 0, 1, 3, 0x88, 0x13, 0, 0], 0, true, true⟩ =
              some (.packPoll, .done [7, 0, 1, 3, 0x88, 0x13, 0, 0]) ∧
            2 ≤ (parseIdentity [7, 0, 1, 3, 0x88, 0x13, 0, 0]).cells ∧
            (parseIdentity [7, 0, 1, 3, 0x88, 0x13, 0, 0]).cells ≤ 4 ∧
            (parseIdentity [7, 0, 1, 3, 0x88, 0x13, 0, 0]).capacity ≠ 0 ∧
            4 < (parseIdentity [7, 0, 1, 5, 0x88, 0x13, 0, 0]).cells ∧ s.plc.work = some (.identity .A) ∧
            (s.pack .A).presence = .detected ∧ (s.pack .A).attempts < 2) ∧
      (onBus .idle .packPoll (readItem 0 0x40 8) (some (.identity .A))).pth.packA.presence ≠ .detected ∧
      2 ≤ { packIn .detected false with attempts := 2 }.attempts := by decide

theorem witness_outcomes_of_the_sensor_poller :
    let s := onBus .idle .sensorPoll (readItem 3 0 2) none
    Meets (s.setPlc { s.plc with reading := some .ts0 }) (fun s =>
        s.handed twoBytes = some (.sensorPoll, .done [9, 0]) ∧ s.handed noAck = some (.sensorPoll, .noack) ∧
          s.plc.reading = some .ts0 ∧ s.running .link = true ∧ s.sensorRun .ts0 ≠ 2) ∧
      (s.setPlc { s.plc with reading := some .ts1, runTs1 := 2 }).sensorRun .ts1 = 2 := by decide

theorem witness_outcomes_of_a_segment :
    let q := { pass7 with buf := List.replicate 48 0 }
    let s := onBus .idle .pass (readItem 7 0 8) none
    Meets (s.setPlc { s.plc with pass := some q }) (fun s =>
        s.handed ⟨true, [1, 2, 3, 4, 5, 6, 7, 8], 0, true, true⟩ = some (.pass, .done [1, 2, 3, 4, 5, 6, 7, 8]) ∧
          s.handed noAck = some (.pass, .noack) ∧ s.plc.wire.isSome = true ∧ s.plc.pass = some q ∧
          s.running .link = true ∧ q.buf.length = q.len ∧ q.seg * q.segLen + q.segLen < q.len) ∧
      { q with seg := 5 }.len ≤ 5 * q.segLen + q.segLen ∧ (factoryPolicy 7).abort = .discard ∧
      (factoryPolicy 0).abort = .retry ∧ q.reps < (factoryPolicy 0).retryLimit ∧ (factoryPolicy 0).retryLimit ≤ 2 := by
  decide

theorem witness_outcomes_of_a_setpoint_write :
    let f : Setpoint := ⟨12600, 512, true⟩
    let s := onBus .idle .charger (writeItem 2 0x60 [0, 0]) none
    Meets ((s.setPlc { s.plc with write := some ⟨f, 0, 0⟩ }).setChc { s.chc with inFlight := some f }) (fun s =>
        s.handed twoBytes = some (.charger, .done []) ∧ s.handed noAck = some (.charger, .noack) ∧
          s.plc.wire.map (·.policy.abort) = some .retry ∧ s.plc.write = some ⟨f, 0, 0⟩ ∧ s.running .link = true ∧
          0 < (s.device 2).policy.retryLimit ∧ s.chc.flightVoid = false) ∧
      2 ≤ (⟨f, 2, 2⟩ : WriteWork).stage ∧ (s.device 2).policy.retryLimit ≤ (⟨f, 2, 2⟩ : WriteWork).reps := by decide

theorem witness_DueReadsAreStarted :
    Meets { (withPth fun k => { k with packA := packIn .present true }).setPoll .A ⟨some 0, false, false, 0⟩ with
        time := 30000 }
      (fun s =>
        s.polled .A = true ∧ (s.poll .A).started = some 0 ∧ (s.poll .A).due = false ∧
          s.period .A ≤ s.time.age 0 ∧ s.running .link = true ∧ s.plc.work = none ∧ s.plc.asked = [] ∧
          s.plc.pass = none ∧ (s.poll .B).due = false) ∧
      Meets { s0.setPlc { s0.plc with pollTs0 := ⟨some 0, false, false, 0⟩, pollTs1 := ⟨some 0, false, false, 0⟩ } with
          time := 5000 }
        (fun s =>
          (s.sensorPoll .ts0).started = some 0 ∧ (s.sensorPoll .ts0).due = false ∧
            s.sensorPeriod ≤ s.time.age 0 ∧ s.running .link = true ∧ s.plc.reading = none ∧ s.plc.pass = none ∧
            (s.sensorPoll .ts1).due = false) ∧
      (s0.setJob .link { s0.job .link with state := .off }).running .link = false ∧
      Meets { (withPth fun k => { k with packA := packIn .present true }).setPoll .A ⟨some 0, true, true, 1000⟩ with
          time := 29999 }
        (fun s =>
          s.polled .A = true ∧ (s.poll .A).due = true ∧ (s.poll .A).byPeriod = true ∧
            (s.poll .A).dueAt ≠ 0 + BitVec.ofNat 32 (s.period .A) ∧ s.time.age 0 < s.period .A) ∧
      Meets { (withPth fun k => { k with packA := packIn .present true }).setPoll .A ⟨some 0, true, true, 1000⟩ with
          time := 30000 }
        (fun s =>
          s.polled .A = true ∧ (s.poll .A).due = true ∧ (s.poll .A).byPeriod = true ∧
            s.period .A ≤ s.time.age 0) ∧
      (⟨some 0, true, false, 0⟩ : Poll).byPeriod = false ∧ s0.swc.platform = .off ∧
      (inPlatform .on).swc.platform ≠ .off := by decide

/-! ### The hinge and the posture -/

theorem witness_CapturesAreQueuedAndRead :
    let c : Capture := ⟨0, .request, .referenced, 0⟩
    s0.takes ∧ s0.running .hinge = true ∧ s0.hsi.captures = [] ∧
      (s0.setJob .hinge { s0.job .hinge with state := .halted }).running .hinge = false ∧
      Meets (withHsi fun x => { x with captures := [c] }) (fun s =>
        s.hsi.captures.length < 2 ∧ s.hsi.captures = c :: []) ∧
      Meets (withHsi fun x => { x with captures := [c, c] }) (fun s => 2 ≤ s.hsi.captures.length) := by decide

theorem witness_HingeMonitorRequests :
    s0.takes ∧ hP.chan = .P ∧ readEnable ⟨0, 1⟩ = some (some true, some false) ∧
      readEnable ⟨2, 2⟩ = some (none, none) ∧ readEnable ⟨3, 0⟩ = none ∧ readRange 0 15 (15#8) = some (some 15) ∧
      readRange 0 15 (16#8) = none ∧ readRange 200 1800 (200#16) = some (some 200) ∧
      readRange 200 1800 (1801#16) = none ∧
      Meets s0 (fun s =>
        s.running .hinge = true ∧ s.hsi.validity = .referenced ∧ s.sts.busy = none) ∧
      (withHsi fun x => { x with validity := .failed }).hsi.validity ≠ .referenced ∧
      (withSts fun t => { t with busy := some (.settings .factory, 6) }).sts.busy.isSome := by decide

set_option maxRecDepth 100000 in
theorem witness_SamplePairsAreAcceptedOrRejected :
    let square := fun (a b : BitVec 12) =>
      ((a.toInt - s0.hsi.sin.offset) * Int.ofNat s0.hsi.sin.gain) ^ 2 +
        ((b.toInt - s0.hsi.cos.offset) * Int.ofNat s0.hsi.cos.gain) ^ 2
    let bound := Int.ofNat (1000 * (s0.hsi.nominal * 30 / 100)) ^ 2
    (0x800#12).toInt = -2048 ∧ (0x7FF#12).toInt = 2047 ∧ square 359 0 < bound ∧
      Meets s0 (fun s =>
        s.running .hinge = true ∧ (360#12).toInt ≠ -2048 ∧ (360#12).toInt ≠ 2047 ∧ (0#12).toInt ≠ -2048 ∧
          (0#12).toInt ≠ 2047 ∧ bound ≤ square 360 0 ∧ s.hsi.awaitFirst = true) ∧
      (withHsi fun x => { x with awaitFirst := false }).hsi.awaitFirst = false ∧
      s0.hsi.hysteresis < angleGap 5 s0.hsi.reported ∧ angleGap 4 s0.hsi.reported ≤ s0.hsi.hysteresis ∧
      Meets (withHsi fun x =>
          { x with
            monitors := { x.monitors with clip := ⟨true, true, true, false⟩ }, persistence := ⟨0, 10000, 9999, 0⟩ })
        (fun s =>
          s.running .hinge = true ∧ HingeSource.isError .clip = true ∧ (s.monitor .clip).flag = true ∧
            10000 ≤ s.persistence .clip ∧ s.persistence .spin < 10000 ∧
            ([HingeSource.vectorLow, .clip, .spin, .calInvalid].filter fun y =>
              (s.monitor y).flag = true ∧ 10000 ≤ s.persistence y) = [.clip]) ∧
      HingeSource.isError .gainLimit = false ∧
      (s0.setJob .hinge { s0.job .hinge with state := .halted }).running .hinge = false := by decide

set_option maxRecDepth 100000 in
theorem witness_persistence_keeps_tables :
    TablesWhole (withHsi fun x => { x with persistence := ⟨0, 10000, 9999, 0⟩ }) :=
  tablesWhole_of_sizes _ (by decide) rfl rfl

/-- Samples the trackers follow: the raw angle before and after, with a collection. -/
def collecting (c : Option Collection) (sin cos : Tracker) : Hsi :=
  { s0.hsi with collection := c, sin := sin, cos := cos }

theorem witness_trackers_follow :
    let sine : Collection := ⟨⟨.sine, true⟩, true, 1190⟩
    let cosine : Collection := ⟨⟨.cosine, false⟩, true, -1190⟩
    (withHsi fun x => { x with awaitFirst := false, history := List.replicate 8 (some 9) }).hsi.history[7]? =
        some (some 9) ∧
      s0.hsi.history[7]? ≠ some (some 9) ∧
      (collecting none s0.hsi.sin s0.hsi.cos).collection = none ∧
      (collecting (some sine) s0.hsi.sin s0.hsi.cos).collection = some sine ∧
      (collecting (some cosine) s0.hsi.sin s0.hsi.cos).collection = some cosine ∧
      angleGap 768 (Peak.angle ⟨.sine, true⟩) ≤ 256 ∧ ¬angleGap 767 (Peak.angle ⟨.sine, true⟩) ≤ 256 ∧
      angleGap 1280 (Peak.angle ⟨.sine, true⟩) ≤ 256 ∧ ¬angleGap 1281 (Peak.angle ⟨.sine, true⟩) ≤ 256 ∧
      (angleDiff 767 1024 < 0 ∧ sine.fromLow = true) ∧ ¬angleDiff 1281 1024 < 0 ∧ ¬angleDiff 2305 2048 < 0 ∧
      (s0.hsi.sin.learn true 1190).posPeak ≠ (s0.hsi.sin.learn true 1190).negPeak := by decide

/-- A reading at full scale sets the flag of CLIP where it is monitored. -/
theorem witness_monitor_at_a_sample :
    Meets (withHsi fun x => { x with monitors := { x.monitors with clip := ⟨false, false, true, false⟩ } }) (fun s =>
        s.running .hinge = true ∧ (s.monitor .clip).flag = false ∧
          ((after (.samplePair 0x7FF 0) s).monitor .clip).flag = true ∧
          ((after (.samplePair 0x7FF 0) s).monitor .spin).flag = false ∧
          (after (.samplePair 0x7FF 0) s).hsi.validity = .failed) ∧
      HingeSource.isError .clip = true ∧ HingeSource.isError .offsetLimit = false := by decide

theorem witness_HingeAndPostureLawsKept :
    CaptureQueueBounded s0 ∧ ValidityFollowsFlags s0 ∧ PostureHearsHinge s0 ∧ ConflictFollowsSwitches s0 ∧
      BandNeedsReference s0 :=
  ⟨Nat.zero_le 2, ⟨nofun, nofun⟩, ⟨rfl, rfl⟩, rfl, nofun⟩

theorem witness_thresholds_keep_their_order :
    s0.takes ∧ readRange 1 4095 (0#16) = none ∧ readRange 1 4095 (4096#16) = none ∧
      readRange 1 4095 (1#16) = some (some 1) ∧ readRange 1 4095 (4095#16) = some (some 4095) ∧
      readRange 1 4095 (65535#16) = some none ∧ readRange 50 1000 (50#16) = some (some 50) ∧
      readRange 50 1000 (1001#16) = none ∧ 1 < 2 ∧ 2 ≤ 2 ∧ ¬(2 < 2) ∧
      (∀ n ∈ (withPsm fun p => { p with dwell := some 100 }).psm.dwell, n = 100) := by decide

theorem witness_PostureEventsAndThresholds :
    Meets (withPsm fun p => { p with lid := ⟨true, false, some 20⟩, evaluated := true }) (fun s =>
        (s.psm.line .lid).count = some 20 ∧ s.psm.lid.level = true ∧ s.psm.tablet.debounced = false ∧
          s.psm.evaluated = true ∧ s.psm.candidate ≠ .closed) ∧
      (s0.psm.line .tablet).count ≠ some 20 ∧
      Meets (withPsm fun p => { p with dwell := some 250, current := .closed, candidate := .laptop }) (fun s =>
        s.psm.dwell = some 250 ∧ s.psm.settings.dwell ≤ 250 ∧ s.psm.current = .closed) ∧
      Meets (withPsm fun p => { p with dwell := some 250, candidate := .closed }) (fun s =>
        s.psm.candidate = .closed) ∧
      (249 < s0.psm.settings.dwell) ∧
      Meets (withPsm fun p =>
          { p with sincePower := 20, lid := ⟨true, false, some 20⟩, tablet := ⟨true, false, some 19⟩ }) (fun s =>
        s.psm.evaluated = false ∧ 20 ≤ s.psm.sincePower ∧ s.psm.lid.count = some 20 ∧ s.psm.tablet.count ≠ some 20 ∧
          s.psm.conflict = (s.psm.lid.debounced && s.psm.tablet.debounced)) ∧
      Meets (withPsm fun p => { p with sincePower := 19 }) (fun s => s.psm.sincePower < 20) ∧
      (withPsm fun p => { p with evaluated := true }).psm.evaluated = true := by decide

theorem witness_CandidateIsTheFirstCaseThatApplies :
    (withPsm fun p => { p with conflict := true }).psm.conflict = true ∧
      Meets (withPsm fun p => { p with lid := ⟨true, true, none⟩ }) (fun s =>
        s.psm.conflict = false ∧ s.psm.lid.debounced = true) ∧
      Meets (withPsm fun p => { p with tablet := ⟨true, true, none⟩ }) (fun s =>
        s.psm.conflict = false ∧ s.psm.lid.debounced = false ∧ s.psm.tablet.debounced = true) ∧
      Meets (withPsm fun p => { p with band := some .stand }) (fun s =>
        s.psm.tablet.debounced = false ∧ s.running .hinge = true ∧ s.psm.band = some .stand) ∧
      s0.psm.band = none ∧
      (s0.setJob .hinge { s0.job .hinge with state := .halted }).running .hinge = false := by decide

/-! ### The keyboard -/

/-- A queue of `n` presses. -/
def presses (n : Nat) : List KeyEvent := List.replicate n ⟨some 0, .press, false, 0⟩

set_option maxRecDepth 100000 in
theorem witness_KeyRequestsFetchAndSet :
    s0.takes ∧ (0#8).toNat < 1 ∧ 12 < (13#8).toNat ∧ 1 ≤ (1#8).toNat ∧ (12#8).toNat ≤ 12 ∧ s0.kbs.queue = [] ∧
      Meets (withKbs fun k => { k with queue := presses 32, overflow := true }) (fun s =>
        s.kbs.queue ≠ [] ∧ s.kbs.queue.length ≤ 32 ∧ s.kbs.overflow = true ∧
          (s.kbs.queue.drop 12).getLast?.map (·.kind) ≠ some .overflow) ∧
      Meets (withKbs fun k => { k with queue := [⟨none, .overflow, false, 0⟩, ⟨none, .overflow, false, 0⟩] }) (fun s =>
        (s.kbs.queue.drop 1).getLast?.map (·.kind) = some .overflow) ∧
      readRange 1 7 (8#8) = none ∧ readRange 1 7 (7#8) = some (some 7) ∧ readRange 250 1000 (249#16) = none ∧
      readRange 250 1000 (250#16) = some (some 250) ∧ readRange 33 500 (501#16) = none ∧
      readRange 33 500 (33#16) = some (some 33) ∧ readKeep [true, false] 3 = none ∧ readMap none = some none ∧
      (readMap (some (List.replicate 136 0 ++ List.replicate 8 1))).isSome = true ∧
      readMap (some (List.replicate 135 0 ++ List.replicate 9 1)) = none := by decide

theorem witness_KeyStatesFollowTheScan :
    143 < 144 ∧ ghost allUp 143 = false ∧ KeyEntry.released.state = .up ∧ 7 ≤ 7 ∧
      (let held : KeyEntry := { state := .down, count := 0, pressedAs := .normal }
       ghost (((allUp.set 0 held).set 1 held).set 8 held) 9 = true) ∧ allUp[143]? = some .released := by decide

theorem witness_KeyboardEventsRunTheScanner :
    s0.kbs.mode ≠ .active ∧
      Meets typing (fun s =>
        s.kbs.mode = .active ∧ s.suppressing = false ∧ shortColumns (nextRuns s.kbs.shortRuns [5]) = []) ∧
      Meets (withKbs fun k => { k with mode := .active, shortRuns := 2 :: List.replicate 17 0 }) (fun s =>
        s.kbs.mode = .active ∧ shortColumns (nextRuns s.kbs.shortRuns [0, 1, 2, 3, 4, 5, 6, 7]) = [0] ∧
          s.running .keys = true) ∧
      Meets (typing.setKbs { typing.kbs with idleTimer := 64 }) (fun s =>
        s.kbs.mode = .active ∧ 64 ≤ s.kbs.idleTimer ∧ s.swc.platform ≠ .sleep ∧ s.swc.platform ≠ .shuttingDown ∧
          s.swc.platform ≠ .off) ∧
      (typing.setKbs { typing.kbs with idleTimer := 63 }).kbs.idleTimer < 64 ∧
      (withKbs fun k => { k with mode := .idleDetect }).kbs.mode = .idleDetect ∧
      Meets (withKbs fun k =>
          { k with
            typematic := some ⟨5, true, 0⟩, queue := presses 23,
            keys := allUp.set 5 { state := .down, count := 0, pressedAs := .normal } }) (fun s =>
        s.kbs.typematic = some ⟨5, true, 0⟩ ∧ (s.kbs.keys.getD 5 .released).state = .down ∧
          s.kbs.queue.length < 24) ∧
      Meets (withKbs fun k => { k with typematic := some ⟨5, true, 0⟩, queue := presses 24 }) (fun s =>
        (s.kbs.keys.getD 5 .released).state ≠ .down ∧ 24 ≤ s.kbs.queue.length) := by decide

/-- The key of position 5, NORMAL, 12, MODIFIER, and 143, PLATFORM, in SLEEP or in ON. -/
def typingAs (p : Platform) (keys : List KeyEntry) : State :=
  (typing.setKbs { typing.kbs with
    keys := keys, settings := { typing.kbs.settings with map := (typing.kbs.settings.map.set 12 .modifier).set 143 .platform } }).setSwc
      { typing.swc with platform := p }

set_option maxRecDepth 100000 in
theorem witness_keys_of_a_scan :
    let held : KeyEntry := { state := .down, count := 0, pressedAs := .normal }
    let loose : KeyEntry := { state := .releasePending, count := 4, pressedAs := .normal }
    let now := nextKeys (typingAs .on allUp).kbs.settings allUp [5, 12, 143]
    let later := nextKeys (typingAs .on allUp).kbs.settings (allUp.set 7 loose) []
    heldKey allUp 5 = false ∧ heldKey now 5 = true ∧ heldKey now 12 = true ∧ heldKey now 143 = true ∧
      (typingAs .on allUp).kbs.settings.map.getD 5 .normal = .normal ∧
      (typingAs .on allUp).kbs.settings.map.getD 12 .normal = .modifier ∧
      (typingAs .on allUp).kbs.settings.map.getD 143 .normal = .platform ∧
      heldKey (allUp.set 7 loose) 7 = true ∧ heldKey later 7 = false ∧ (∀ e ∈ later, e.state = .up) ∧
      (∃ e ∈ now, e.state ≠ .up) ∧
      Meets (typingAs .sleep allUp) (fun s =>
        s.kbs.mode = .active ∧ s.suppressing = false ∧ s.swc.platform = .sleep ∧ s.kbs.settings.wakeEnable = true ∧
          s.running .keys = true ∧ s.swc.settings.sleepMask.key = true ∧ s.kbs.burst = false) ∧
      Meets (typingAs .on (allUp.set 7 held)) (fun s =>
        s.swc.platform ≠ .sleep ∧ (s.setKbs { s.kbs with burst := true }).kbs.burst = true) ∧
      { typing.kbs.settings with wakeEnable := false }.wakeEnable = false := by decide

set_option maxRecDepth 100000 in
theorem witness_scan_keeps_tables_and_queue :
    TablesWhole (typingAs .sleep allUp) ∧ KeyQueueBounded (typingAs .sleep allUp) :=
  ⟨tablesWhole_of_sizes _ (by decide) rfl rfl, Nat.zero_le 32⟩

set_option maxRecDepth 100000 in
theorem witness_short_column_keeps_tables :
    TablesWhole (withKbs fun k => { k with mode := .active, shortRuns := 2 :: List.replicate 17 0 }) :=
  tablesWhole_of_sizes _ (by decide) rfl rfl

/-! ### Temperatures and fans -/

/-- One input with a reading at time 0. -/
def readAs (v : Int) : Input := { Input.unread with value := v, valid := true, time := some 0 }

/-- A hold on both fans. -/
def hold50 : Hold := ⟨some 50, none, some 1, .S, 0⟩

theorem witness_TemperatureReportsAndCurves :
    s0.takes ∧ (32769#16).toInt = -32767 ∧ -300 ≤ (65236#16).toInt ∧ (1250#16).toInt ≤ 1250 ∧
      (65235#16).toInt < -300 ∧ 1250 < (1251#16).toInt ∧ (s0.input .hostrep).fired = false ∧
      s0.thc.trip - 50 ≤ (930#16).toInt ∧
      (withThc fun t => { t with inputs := { t.inputs with hostrep := { Input.unread with fired := true } } }).thc.inputs.hostrep.fired
        = true ∧
      1 < (2#8).toNat ∧ 5 < (6#8).toNat ∧ (5#8).toNat ≤ 5 ∧ 100 < (101#8).toNat ∧ (100#8).toNat ≤ 100 ∧
      readEnum [Fan.fan0, .fan1] 1 = some .fan1 ∧ readEnum [false, true] 1 = some true ∧
      (s0.thc.curves.of false .fan0)[5]? = some ⟨900, 100⟩ ∧ (900 : Int) < (901#16).toInt ∧
      (s0.thc.curves.of false .fan0)[6]? = none ∧
      readSigned 400 950 (399#16) = none ∧ readSigned 400 950 (950#16) = some (some 950) ∧
      readSigned 800 1050 (1051#16) = none ∧ readSigned 800 1050 (1050#16) = some (some 1050) ∧
      readSigned 400 950 (0x8000#16) = some none ∧ (980 : Int) < 881 + 100 ∧ (880 : Int) + 100 ≤ 980 := by decide

theorem witness_HoldsArePushedPoppedAndExpire :
    s0.takes ∧ readHoldValue 101 = none ∧ readHoldValue 100 = some (some 100) ∧ readHoldValue 254 = some none ∧
      s0.thc.holds = [] ∧
      Meets (withThc fun t => { t with holds := List.replicate 6 hold50 }) (fun s =>
        6 ≤ s.thc.holds.length ∧ s.thc.holds.getLast? = some hold50 ∧
          s.thc.holds = hold50 :: List.replicate 5 hold50) ∧
      Meets (withThc fun t => { t with holds := List.replicate 5 hold50 }) (fun s => s.thc.holds.length < 6) ∧
      Meets { (withThc fun t => { t with holds := [hold50] }) with time := 1000 } (fun s =>
        ∃ x ∈ s.thc.holds, x.left s.time = some 0) ∧
      Meets { (withThc fun t => { t with holds := [hold50] }) with time := 999 } (fun s =>
        ∀ x ∈ s.thc.holds, x.left s.time ≠ some 0) := by decide

theorem witness_ReadingsTripAndAge :
    (979 : Int) < s0.thc.trip ∧ s0.thc.trip ≤ (980 : Int) ∧ (s0.input .die).tripRun = 0 ∧
      Meets (withThc fun t => { t with inputs := { t.inputs with die := { Input.unread with tripRun := 1 } } }) (fun s =>
        1 ≤ (s.input .die).tripRun ∧ s.running .thermal = true) ∧
      (inPlatform .on).swc.platform ≠ .off ∧ (withJob .thermal .halted).job .thermal ≠ s0.job .thermal ∧
      ((withJob .thermal .halted).job .thermal).state = .halted ∧
      Meets { (withThc fun t => { t with inputs := ⟨readAs 0, readAs 0, readAs 0, readAs 0⟩ }) with time := 15001 }
        (fun s =>
          (s.input .ts1).valid = true ∧ s.thc.grace = 0 ∧ (s.input .ts1).time = some 0 ∧
            s.swc.platform = .off ∧ 15000 < s.time.age 0 ∧ s.running .thermal = true) ∧
      Meets { (withThc fun t => { t with inputs := ⟨readAs 0, readAs 0, readAs 0, readAs 0⟩ }) with time := 5001 }
        (fun s => (s.input .hostrep).valid = true ∧ (s.input .hostrep).time = some 0 ∧ 5000 < s.time.age 0) ∧
      Meets { (withThc fun t => { t with inputs := ⟨readAs 0, readAs 0, readAs 0, readAs 0⟩ }) with time := 5000 }
        (fun s => (s.input .hostrep).time = some 0 ∧ s.time.age 0 ≤ 5000) ∧
      (s0.input .ts0).valid = false ∧ (s0.input .ts0).time = none ∧
      (withThc fun t => { t with grace := 1 }).thc.grace ≠ 0 := by decide

/-- A reading of TS0 or TS1 on the wire, with an input's trip run and warning mark. -/
def sensing (x : Sensor) (i : Input) : State :=
  let s := onBus .idle .sensorPoll (readItem 3 0 2) none
  (s.setPlc { s.plc with reading := some x }).setThc
    { s.thc with inputs := { s.thc.inputs with ts0 := i, ts1 := i } }

theorem witness_sensor_readings :
    let hot : BusEnd := ⟨true, [0x20, 0x06], 0, true, true⟩
    let v := fun (b : List Byte) => (BitVec.ofNat 16 (ofLeBytes b)).toInt * 10 / 16
    v [0x20, 0x06] = 980 ∧ v [0x1F, 0x06] = 979 ∧
      Meets (sensing .ts0 { Input.unread with tripRun := 1 }) (fun s =>
        s.handed hot = some (.sensorPoll, .done [0x20, 0x06]) ∧ s.plc.reading = some .ts0 ∧ s.running .link = true ∧
          1 ≤ (s.input .ts0).tripRun ∧ s.thc.trip ≤ v [0x20, 0x06] ∧ v [0x1F, 0x06] < s.thc.trip ∧
          s.swc.platform = .off ∧ (s.setSwc { s.swc with platform := .on }).swc.platform ≠ .off ∧
          (s.input .ts0).fired = false ∧ s.running .thermal = true) ∧
      Meets (sensing .ts1 { Input.unread with fired := true }) (fun s =>
        s.plc.reading = some .ts1 ∧ (s.input .ts1).tripRun = 0 ∧ (s.input .ts1).fired = true ∧
          (s.input .ts1).valid = false) ∧
      (sensing .ts1 { Input.unread with valid := true }).input .ts1 = { Input.unread with valid := true } ∧
      ((sensing .ts1 Input.unread).setJob .thermal { s0.job .thermal with state := .halted }).running .thermal =
        false := by decide

set_option maxRecDepth 100000 in
theorem witness_sensing_keeps_tables : TablesWhole (sensing .ts0 { Input.unread with tripRun := 1 }) :=
  tablesWhole_of_sizes _ (by decide) rfl rfl

theorem witness_TachometerAndStall :
    (s0.fan .fan0).lastPulse = none ∧
      Meets { (withThc fun t => { t with fan0 := { t.fan0 with lastPulse := some 0 } }) with time := 200 } (fun s =>
        (s.fan .fan0).lastPulse = some 0 ∧ 200 ≤ s.time.age 0 ∧ (s.fan .fan0).lastPulse ≠ none ∧ 999 < 1000 ∧
          1000 ≤ 1000 ∧ 300 ≤ 30000000 / 100000) ∧
      Meets { (withThc fun t => { t with fan0 := { t.fan0 with lastPulse := some 0 } }) with time := 199 } (fun s =>
        s.time.age 0 < 200) ∧
      Meets (withThc fun t => { t with fan0 := { t.fan0 with duty := 20, speed := 299, stallTimer := 3000 } }) (fun s =>
        s.running .thermal = true ∧ 20 ≤ (s.fan .fan0).duty ∧ (s.fan .fan0).speed < 300 ∧
          3000 ≤ (s.fan .fan0).stallTimer ∧ (s.fan .fan0).stalled = false) ∧
      Meets (withThc fun t => { t with fan0 := { t.fan0 with duty := 19, speed := 300, stallTimer := 2999 } }) (fun s =>
        (s.fan .fan0).duty < 20 ∧ 300 ≤ (s.fan .fan0).speed ∧ (s.fan .fan0).stallTimer < 3000) ∧
      (withJob .thermal .off).running .thermal = false := by decide

/-- Fan 0 at 76 °C in ON, its curve input where it was. -/
def warm (c : Option Int) (holds : List Hold) : State :=
  (inPlatform .on).setThc
    { s0.thc with
      inputs := { s0.thc.inputs with die := readAs 760 }, fan0 := { s0.thc.fan0 with curveInput := c },
      holds := holds }

theorem witness_DutyCurveAndDerateTables :
    governing s0.thc.inputs .fan0 = none ∧ governing (warm none []).thc.inputs .fan0 = some 760 ∧
      (s0.thc.curves.of false .fan0).Pairwise (fun p q => p.temp < q.temp ∧ p.duty ≤ q.duty) ∧
      (s0.thc.curves.of false .fan0).length = 6 ∧
      (s0.fan .fan0).curveInput = none ∧ (759 : Int) < 760 ∧ (760 : Int) < 781 - 20 ∧ (780 : Int) - 20 ≤ 760 ∧
      (withJob .thermal .off).running .thermal = false ∧
      Meets (warm (some 781) [hold50]) (fun s =>
        s.running .thermal = true ∧ (s.fan .fan0).curveInput = some 781 ∧ s.swc.platform ≠ .sleep ∧
          s.swc.platform ≠ .off ∧ s.thc.holds = hold50 :: [] ∧ hold50.value .fan0 = some 50 ∧
          hold50.value .fan1 = none ∧ s.thc.floor ≤ 760 ∧ 50 < ((deriveFan .fan0 s).fan .fan0).curveDuty) ∧
      Meets (warm (some 781) [⟨some 100, none, none, .S, 0⟩]) (fun s =>
        ¬(s.thc.floor ≤ 760 ∧ 100 < ((deriveFan .fan0 s).fan .fan0).curveDuty)) ∧
      (inPlatform .sleep).swc.platform = .sleep ∧ s0.thc.inputs.ts1.valid = false ∧ (readAs 500).valid = true := by
  decide

/-! ### The platform -/

theorem witness_PlatformRequestsAreAnswered :
    s0.takes ∧ 1 < (2#8).toNat ∧ readEnum [Platform.enteringSleep, .shuttingDown] 0 = some .enteringSleep ∧
      s0.swc.platform ≠ .on ∧ (inPlatform .on).swc.platform = .on ∧ readMask 128 = none ∧ readMask 255 = some none ∧
      (readMask 127).isSome = true ∧ readRange 0 50 (50#8) = some (some 50) ∧ readRange 0 50 (51#8) = none ∧
      readKeep [true, false] 3 = none ∧ ((readMask 6).bind id).map (·.key) = some true ∧ 4 < 5 ∧ 5 ≤ 5 ∧
      1 ≤ (1#32).toNat ∧ (86400#32).toNat ≤ 86400 ∧ 86400 < (86401#32).toNat ∧ s0.swc.presses = 0 ∧
      (withSwc fun w => { w with presses := 1 }).swc.presses ≠ 0 := by decide

theorem witness_RailEventsMoveThePlatform :
    Meets (withSwc fun w => { w with platform := .enteringSleep, settle := some 0 }) (fun s =>
        s.swc.settle = some 0 ∧ s.swc.platform = .enteringSleep ∧ s.swc.grace = none) ∧
      Meets (withSwc fun w => { w with platform := .enteringSleep, settle := some 0, grace := some 1 }) (fun s =>
        s.swc.grace ≠ none) ∧
      Meets (withSwc fun w => { w with platform := .shuttingDown, settle := some 0 }) (fun s =>
        s.swc.settle = some 0 ∧ s.swc.platform = .shuttingDown) ∧
      s0.swc.settle ≠ some 0 ∧
      Meets (withSwc fun w => { w with platform := .poweringUp, mainDelay := some 0 }) (fun s =>
        s.swc.platform = .poweringUp ∧ s.swc.mainDelay = some 0 ∧ s.pth.path = .noSource) ∧
      Meets ((withSwc fun w => { w with platform := .poweringUp, mainDelay := some 0 }).setPth
          { s0.pth with path := .onAdapter }) (fun s => s.pth.path ≠ .noSource ∧ s.swc.mainPg = false) ∧
      Meets ((withSwc fun w => { w with platform := .poweringUp, mainDelay := some 0, mainPg := true }).setPth
          { s0.pth with path := .onAdapter }) (fun s => s.pth.path ≠ .noSource ∧ s.swc.mainPg = true) ∧
      s0.swc.platform ≠ .poweringUp ∧
      Meets (withSwc fun w => { w with platform := .waking, powerGood := some 0 }) (fun s =>
        s.swc.platform = .waking ∧ (0 : Int) = 0 ∧ s.swc.powerGood = some 0 ∧ s.swc.mainPg = false ∧
          s.swc.powerGood ≠ none ∧ s.running .power = true) ∧
      Meets (withSwc fun w => { w with platform := .poweringUp, powerGood := some 0 }) (fun s =>
        s.swc.platform = .poweringUp ∧ (1 : Int) = 1 ∧ s.swc.powerGood = some 0) ∧
      (withSwc fun w => { w with mainPg := true }).swc.mainPg = true ∧ s0.swc.powerGood = none ∧
      (inPlatform .on).swc.platform = .on ∧ (inPlatform .enteringSleep).swc.platform = .enteringSleep ∧
      Meets ((withSwc fun w => { w with platform := .poweringUp, mainWaits := true }).setAdapter
          { s0.adapter with present := true, count := some 20 }) (fun s =>
        s.swc.platform = .poweringUp ∧ s.swc.mainWaits = true ∧ s.pth.path = .noSource ∧ s.adapter.present = true ∧
          s.adapter.qualified = false ∧ s.adapter.overvolt = false ∧ s.adapter.count = some 20 ∧
          s.adapter.hold = none ∧ s.swc.mainPg = false ∧
          (s.setSwc { s.swc with mainPg := true }).swc.mainPg = true) ∧
      (let s := publishing .idle snapA
       Meets ((s.setPth { s.pth with path := .noSource }).setSwc
          { s.swc with platform := .poweringUp, mainWaits := true }) (fun s =>
        s.published twoBytes = some (.A, snapWith snapA) ∧ s.pth.path = .noSource ∧
          (after (.transactionEnd twoBytes) s).pth.path ≠ .noSource)) := by decide

theorem witness_ButtonAndTimersActOnThePlatform :
    Meets (withSwc fun w => { w with count := some 30, debounced := true }) (fun s =>
        s.swc.count = some 30 ∧ s.swc.button = false) ∧
      Meets (withSwc fun w => { w with count := some 30, button := true, platform := .on }) (fun s =>
        s.swc.count = some 30 ∧ s.swc.button = true ∧ s.swc.platform = .on) ∧
      Meets (withSwc fun w => { w with count := some 30, button := true }) (fun s => s.swc.platform = .off) ∧
      s0.swc.count ≠ some 30 ∧
      Meets (withSwc fun w => { w with pressTime := some 4000, platform := .sleep }) (fun s =>
        s.swc.pressTime = some 4000 ∧ s.swc.platform ≠ .off) ∧
      Meets (withSwc fun w => { w with pressTime := some 4000 }) (fun s =>
        s.swc.pressTime = some 4000 ∧ s.swc.platform = .off) ∧
      s0.swc.pressTime ≠ some 4000 ∧
      Meets (withSwc fun w => { w with grace := some 0, platform := .on }) (fun s =>
        s.swc.grace = some 0 ∧ s.swc.platform ≠ .off) ∧
      s0.swc.grace ≠ some 0 ∧
      Meets (withSwc fun w => { w with wakeTimer := some 0, platform := .shuttingDown }) (fun s =>
        s.swc.wakeTimer = some 0 ∧ s.swc.platform = .shuttingDown) ∧
      Meets (withSwc fun w => { w with wakeTimer := some 0, platform := .sleep }) (fun s =>
        s.swc.platform = .sleep ∧ s.swc.settings.sleepMask.timer = true) ∧
      Meets (withSwc fun w =>
          { w with wakeTimer := some 0, platform := .sleep, settings := { w.settings with sleepMask := .empty } })
        (fun s => s.swc.platform = .sleep ∧ s.swc.settings.sleepMask.timer = false) ∧
      s0.swc.wakeTimer ≠ some 0 := by decide

theorem witness_WakeAndForcedOffByState :
    (inPlatform .on).swc.platform = .on ∧
      Meets (inPlatform .sleep) (fun s =>
        s.swc.platform = .sleep ∧ s.swc.settings.sleepMask.has .packBInsert = false ∧
          s.swc.settings.sleepMask.has .timer = true ∧ s.swc.mainPg = false) ∧
      Meets s0 (fun s =>
        s.swc.platform = .off ∧ s.swc.settings.offMask.has .timer = false ∧
          s.swc.settings.offMask.has .powerButton = true) ∧
      Meets (inPlatform .enteringSleep) (fun s =>
        s.swc.platform = .enteringSleep ∧ s.swc.settings.sleepMask.has .key = true) ∧
      Meets (inPlatform .waking) (fun s =>
        s.swc.platform = .waking ∧ s.swc.settings.sleepMask.has .key = true) ∧
      Meets (inPlatform .poweringUp) (fun s =>
        s.swc.platform = .poweringUp ∧ s.swc.settings.offMask.has .powerButton = true) ∧
      (inPlatform .on).swc.platform ≠ .off := by decide

/-- Off the adapter with a pack of half charge, in a band. -/
def discharging (band : BatteryBand) (platform : Platform) : State :=
  (withPack .A fun _ => packIn .present true).setSwc { s0.swc with band := band, platform := platform }

theorem witness_battery_bands :
    Meets (discharging .aboveLow .on) (fun s => s.adapter.qualified = false ∧ s.combined = some 50) ∧
      s0.combined = none ∧ (withAdapter fun a => { a with qualified := true }).adapter.qualified = true ∧
      bandAfter s0.swc.settings 9 .aboveLow = .low ∧ bandAfter s0.swc.settings 10 .aboveLow = .aboveLow ∧
      bandAfter s0.swc.settings 4 .low = .critical ∧ bandAfter s0.swc.settings 2 .low = .shutdown ∧
      bandAfter s0.swc.settings 2 .shutdown = .shutdown ∧ bandAfter s0.swc.settings 50 .shutdown = .aboveLow ∧
      Meets (discharging .low .off) (fun s =>
        s.swc.platform = .off ∧ s.swc.settings.offMask.has .batteryCritical = false) ∧
      Meets (discharging .low .sleep) (fun s =>
        s.swc.platform = .sleep ∧ s.swc.settings.sleepMask.has .batteryCritical = true) ∧
      WakeSet.has .empty .batteryCritical = false ∧
      (WakeSet.mk true true true true true true true).has .batteryCritical = true := by decide

theorem witness_band_at_a_publication_and_a_removal :
    (publishing .idle snapA).published twoBytes = some (.A, snapWith snapA) ∧
      Meets (withAdapter fun a => { a with present := true, qualified := true }) (fun s =>
        s.adapter.present = true ∧ s.adapter.qualified = true ∧ (11499#16).toNat < 11500) := by decide

/-! ### Faults, jobs and events -/

theorem witness_FaultRequestsReadAndClear :
    s0.takes ∧ hP.chan = .P ∧ 12 < (13#8).toNat ∧ (12#8).toNat + 1 = FaultCode.num .matrixShort ∧
      (0#8).toNat + 1 = FaultCode.num .pathSwitchFail ∧
      ((withFault .packSilent .active).faultRec .packSilent).state = .active ∧
      ((withPack .A fun _ => packIn .faulted false).pack .A).presence = .faulted ∧ 2 < (3#8).toNat ∧
      readKeep [Recovery.halt, .stop] 1 = some (some .stop) ∧ readKeep [Recovery.halt, .stop] 2 = some none := by
  decide

theorem witness_no_fault_active : ∀ c, (s0.faultRec c).state ≠ .active := fun c => by cases c <;> decide

theorem witness_first_active_fault :
    ∀ d, FaultCode.num d < FaultCode.num .packSilent → ((withFault .packSilent .active).faultRec d).state ≠ .active :=
  fun d => by cases d <;> decide

set_option maxRecDepth 100000 in
theorem witness_active_fault_keeps_tables : TablesWhole (withFault .packSilent .active) :=
  tablesWhole_of_sizes _ (by decide) rfl rfl

/-- On pack A with POWER halted and the choice of a publication postponed. -/
def choiceWaits : State :=
  let s := powerHalted .onPackA
  s.setPth
    { s.pth with
      postponed := true, packA := packIn .present true,
      packB := { packIn .present true with relCharge := some 60 } }

/-- R12: the choice of a publication that was postponed is made at the return of POWER to RUN. -/
theorem test_postponed_choice_is_made_at_the_return_to_run :
    (select true (choiceWaits.setPth { choiceWaits.pth with postponed := false })).pth = choiceWaits.pth ∧
      (select false choiceWaits).pth.path = .onPackA ∧
      (after (.restartJob hP 0) choiceWaits).pth.path = .switching .packB := by decide

/-- R20: with pack A lost before the confirmation of the switch-over to it, the eject of pack B is withdrawn. -/
theorem test_eject_is_withdrawn_at_the_confirmation :
    let s := withPth fun k =>
      { k with path := .switching .packA, swPa := true, knownMv := 10000, packB := packIn .ejectPending true }
    let t := after (.pathRailConfirmed 9000) s
    t.pth.packB.presence = .present ∧ t.pth.ejectOk = false ∧ t.pth.path = .switching .packB := by decide

theorem witness_RestartJobIsAnsweredByState :
    s0.takes ∧ hS.chan = .S ∧ hP.chan = .P ∧ 4 < (5#8).toNat ∧ (4#8).toNat = Job.num .thermal ∧
      (0#8).toNat = Job.num .power ∧ (s0.job .thermal).state = .run ∧
      ((withJob .power .quiescing).job .power).state = .quiescing ∧
      ((withJob .thermal .off).job .thermal).state = .off ∧ ((withJob .keys .off).job .keys).state = .off ∧
      ((powerHalted .onPackA).job .power).state = .halted ∧ (powerHalted .onPackA).pth.path = settledOn .packA ∧
      ((withJob .thermal .halted).job .thermal).state = .halted ∧ FaultCode.job .fanStall = .thermal ∧
      (((withFault .fanStall .reported).setJob .thermal { s0.job .thermal with state := .halted }).faultRec
        .fanStall).state ≠ .cleared := by decide

theorem witness_restart_of_the_keyboard :
    SuppressionFollowsItsCauses (withJob .keys .off) ∧ ((withJob .keys .off).job .keys).state = .off :=
  ⟨⟨fun _ => rfl, fun _ => rfl⟩, rfl⟩

theorem witness_halt_of_the_link : LinkServesItsSlots s0 ∧ (s0.job .link).state = .run :=
  ⟨witness_ChargingNeedsTheAdapter.2.2.2.2.2.2, rfl⟩

theorem witness_restart_needs_cleared_faults :
    ∀ c : FaultCode, c.job = .thermal → ((withJob .thermal .halted).faultRec c).state = .cleared :=
  fun c => by cases c <;> decide

theorem witness_HaltJobIsAnsweredByState :
    s0.takes ∧ hS.chan = .S ∧ hP.chan = .P ∧ 4 < (5#8).toNat ∧ 1 < (2#8).toNat ∧
      (0#8).toNat = Job.num .power ∧ (1#8).toNat = Destination.num .off ∧ (s0.job .power).state = .run ∧
      ((withJob .link .quiescing).job .link).state = .quiescing ∧
      ((withJob .link .halted).job .link).state = .halted ∧ ((withJob .link .off).job .link).state = .off := by
  decide

/-- The LINK job in QUIESCING to a destination, with the transaction under way that PLC waits for. -/
def quiescing (d : Destination) (c : Client) (x : Txn) (w : Option PollWork) : State :=
  (onBus .idle c x w).setJob .link
    { s0.job .link with state := .quiescing, dest := some d, cause := some .request, waiting := [.plc] }

/-- A transfer of six segments to entry 7, its first on the wire. -/
def pass48 : Pass := { pass7 with buf := List.replicate 48 0 }

theorem witness_quiesce_of_the_link :
    let eight : BusEnd := ⟨true, [1, 2, 3, 4, 5, 6, 7, 8], 0, true, true⟩
    let f : Setpoint := ⟨12600, 512, true⟩
    let s := quiescing .halted .pass (readItem 7 0 8) (some (.identity .A))
    let c := quiescing .off .charger (writeItem 2 0x60 [0, 0]) none
    Meets (s.setPlc { s.plc with pass := some pass48 }) (fun s =>
        (s.job .link).state = .quiescing ∧ (s.job .link).dest = some .halted ∧ (s.job .link).waiting = [.plc] ∧
          s.plc.link = .busy ∧ s.plc.pass = some pass48 ∧ s.plc.work = some (.identity .A) ∧
          s.plc.wire.map (·.client) = some .pass ∧ s.plc.wire.map (·.outcome eight) = some (.done eight.data) ∧
          s.plc.discard = false ∧ s.plc.gone = false ∧ (pass48.seg + 1) * pass48.segLen < pass48.len) ∧
      (s.setPlc { s.plc with pass := some pass48, gone := true }).plc.gone = true ∧
      Meets ((c.setPlc { c.plc with write := some ⟨f, 2, 0⟩, pass := some pass48 }).setChc
          { c.chc with inFlight := some f, flightVoid := false }) (fun s =>
        (s.job .link).dest = some .off ∧ s.plc.wire.map (·.client) = some .charger ∧ s.plc.write = some ⟨f, 2, 0⟩ ∧
          s.plc.wire.map (·.outcome eight) = some (.done []) ∧ s.plc.wire.map (·.outcome noAck) = some .noack ∧
          s.chc.flightVoid = false ∧ s.mayWrite = true) := by decide

theorem witness_CatchRecordsHoldAndResume :
    let kept : ChargeCatch := ⟨.A, .fast, some 0, 5, 6⟩
    s0.takes ∧ hP.chan = .P ∧ (0#8).toNat ≤ 1 ∧ (1#8).toNat ≤ 1 ∧
      Meets (charging .fast 5 6 0) (fun s =>
        s.running .power = true ∧ s.charging .A = true ∧ s.charging .B = false) ∧
      Meets (withPlc fun k => { k with pass := some pass48 }) (fun s =>
        s.running .link = true ∧ s.plc.link = .idle ∧ s.plc.pass = some pass48) ∧
      Meets (linkAt .busy .pass readTxn 0) (fun s => s.running .link = true ∧ s.plc.link ≠ .idle) ∧
      Meets ((withPlc fun k => { k with caught := some pass48 }).setJob .link
          { s0.job .link with state := .halted }) (fun s =>
        (s.job .link).state = .halted ∧ s.plc.caught = some pass48) ∧
      Meets ((withPack .A fun _ => packIn .present true).setChc { s0.chc with caught := some kept }) (fun s =>
        (s.pack .A).line = true ∧ (s.pack .A).presence ≠ .absent ∧ s.chc.caught = some kept ∧ kept.pack = .A ∧
          (s.setPack .B (packIn .present true)).chc.caught.map (·.pack) ≠ some .B) ∧
      Meets ((withPack .A fun _ => packIn .present true).setPlc
          { s0.plc with caught := some { pass48 with entry := 0 } }) (fun s =>
        s.plc.caught = some { pass48 with entry := 0 } ∧ s.plc.pass = none) ∧
      Meets (((candidates 50).setJob .power { s0.job .power with state := .halted }).setChc
          { (candidates 50).chc with caught := some kept }) (fun s =>
        (s.job .power).state = .halted ∧ s.pth.path = .onAdapter ∧ s.adapterEligible = true ∧
          s.charging .A = false ∧ s.charging .B = false ∧ s.chc.caught = some kept ∧
          (s.charge .A).state = .idle ∧ s.chargeable .A = true ∧ (s.charge .A).inhibit = false ∧
          (s.setCharge .A { s.charge .A with inhibit := true }).chc.caught = some kept) ∧
      Meets (withJob .power .off) (fun s => (s.job .power).state = .off ∧ (s.charge .A).inhibit = false) ∧
      { s0.chc.a with inhibit := true }.inhibit = true ∧
      Meets ((withPlc fun k => { k with asked := [.A, .B] }).setJob .link { s0.job .link with state := .off })
        (fun s => (s.job .link).state = .off ∧ PackId.A ∈ s.plc.asked ∧ PackId.B ∈ s.plc.asked) := by decide

theorem witness_catch_restart_needs_cleared_faults :
    ∀ c : FaultCode, (c.job = .power ∨ c.job = .link) → (s0.faultRec c).state = .cleared :=
  fun c => by cases c <;> decide

/-- R84, R85: a transfer caught at a quiesce goes on with the segment that was next. -/
theorem test_caught_transfer_resumes :
    let s := after (.haltJob hP 1 0) (withPlc fun k => { k with pass := some pass48 })
    s.plc.caught = some pass48 ∧ (after (.restartJob hP 1) s).plc.pass = some pass48 := by decide

theorem witness_FaultOccurrenceActsOnItsJob :
    (FaultCode.halting .linkStuck = true ∧ FaultCode.severe .linkStuck = true) ∧
      (FaultCode.halting .fanStall = false ∧ FaultCode.severe .fanStall = false) ∧
      (s0.job .link).state = .run ∧ ((withJob .link .quiescing).job .link).state = .quiescing ∧
      ((withJob .link .halted).job .link).state = .halted ∧ ((withJob .link .off).job .link).state = .off ∧
      FaultCode.packSilent ≠ .linkStuck ∧ Job.keys ≠ FaultCode.job .linkStuck := by decide

theorem witness_EventRequestsFetchAndRoute :
    s0.takes ∧ (0#8).toNat < 1 ∧ 6 < (7#8).toNat ∧ 1 ≤ (1#8).toNat ∧ (6#8).toNat ≤ 6 ∧ s0.list .S = [] ∧
      (withEvr fun v => { v with listS := [⟨.woke, 1, []⟩] }).list .S ≠ [] ∧ 28 < (29#8).toNat ∧
      3 < (4#8).toNat ∧ (28#8).toNat = EvSource.num .woke ∧ (3#8).toNat = Route.num .both ∧
      EvSource.exclusive .linkDone = true ∧ EvSource.exclusive .woke = false ∧
      Meets (withEvr fun v => { v with keys := true }) (fun s =>
        (s.route .keysAvailable).names .P = false ∧ Route.names .P .P = true ∧ EvSource.level .keysAvailable = true ∧
          s.condition .keysAvailable = true ∧ s.list .P = [] ∧ (s.route .keysAvailable).names .S = true ∧
          Route.names .P .S = false) := by decide

theorem witness_EdgeOccurrencesAreCounted :
    (s0.route .woke).names .P = false ∧ (s0.route .woke).names .S = true ∧ s0.list .S = [] ∧
      Meets (withEvr fun v => { v with listS := [⟨.woke, 255, []⟩] }) (fun s =>
        (s.route .woke).names .S = true ∧ ∃ p ∈ s.list .S, p.src = .woke) ∧
      s0.swc.platform ≠ .on ∧
      (withHlk fun k => { k with wire := some (onWire .qfull) }).hlk.wire.isSome = true := by decide

theorem witness_ListAndTableLawsKept :
    ListsNameOnce s0 ∧ ExclusiveRoutesSingle s0 ∧ LevelEntriesFollowConditions s0 ∧ ConditionsFollowOwners s0 :=
  ⟨⟨List.nodup_nil, List.nodup_nil⟩, fun e => by cases e <;> decide, fun c e => by
    cases c <;> cases e <;> decide, by unfold ConditionsFollowOwners; decide⟩

theorem witness_capacities_and_table_sizes :
    KeyQueueBounded s0 ∧ MarkersStandApart s0 ∧ RequestQueueBounded s0 ∧ PressCountBounded s0 ∧ ResetAwaitsReply s0 ∧
      TablesWhole s0 :=
  ⟨Nat.zero_le 32, nofun, Nat.zero_le 4, Nat.zero_le 15, nofun, witness_tables_whole⟩

set_option maxRecDepth 100000 in
theorem witness_FanAndPlatformLawsKept :
    HoldStackBounded s0 ∧ GoverningFollowsInputs s0 ∧ MainRailNeedsSource s0 ∧ SuppressionFollowsItsCauses s0 ∧
      SuppressedKeysUp s0 ∧ s0.kbs.mode = .suppressed ∧ (s0.fan .fan0).governing = none :=
  ⟨Nat.zero_le 6, fun f => by cases f <;> decide, ⟨nofun, fun _ => .inl rfl, nofun⟩, ⟨fun _ => rfl, fun _ => rfl⟩,
    fun _ => by decide, rfl, rfl⟩

theorem witness_fan_duty_law : FanDutyLaw s0 := fun f => by
  cases f
  · exact ⟨fun _ => rfl, fun g h => by cases h⟩
  · exact ⟨fun _ => rfl, fun g h => by cases h⟩

theorem witness_CommandsLeaveOtherBlocks :
    (∃ t, exec .frameGapTimeout s0 = .next t) ∧ Block.pth ∉ reachesOf .frameGapTimeout ∧
      (Instr.frameGapTimeout).request = none :=
  ⟨⟨_, rfl⟩, by decide, rfl⟩

end Sys2Proof.Tests
end

section
/-! SUPPORT. What the operations of the other blocks leave of the HINGE job's record, and of PSM where the frame lemmas
of Laws/Frames.lean do not say it: only HINGE_SENSOR, HALT JOB, RESTART JOB and the resets move the HINGE job (R171
to R175). -/

namespace Sys2Proof.PostureProofs
open Sys2Proof.Machine

/-! ## The states of the other jobs (R170 to R175) -/

/-- HINGE_SENSOR is the one fault code of the HINGE job. -/
theorem job_ne_hinge {c : FaultCode} (h : c ≠ .hingeSensor) : c.job ≠ .hinge := by
  cases c with
  | hingeSensor => exact absurd rfl h
  | _ => decide

@[simp] theorem setJob_hinge {j : Job} (h : j ≠ .hinge) (s : State) (r : JobRec) :
    (s.setJob j r).fsu.hinge = s.fsu.hinge := by
  cases j with
  | hinge => exact absurd rfl h
  | _ => rfl

@[simp] theorem recordFault_hinge (c : FaultCode) (d : Detail) (s : State) :
    (recordFault c d s).fsu.hinge = s.fsu.hinge :=
  recordFault_job c d s .hinge

@[simp] theorem arrive_hinge {j : Job} (h : j ≠ .hinge) (d : Destination) (s : State) :
    (arrive j d s).fsu.hinge = s.fsu.hinge := by
  cases d <;> simp [arrive, h]

@[simp] theorem memberDone_hinge {j : Job} (h : j ≠ .hinge) (m : Member) (s : State) :
    (memberDone j m s).fsu.hinge = s.fsu.hinge := by
  simp only [memberDone]
  repeat' split
  all_goals simp [h]

@[simp] theorem enterQuiescing_hinge {j : Job} (h : j ≠ .hinge) (d : Destination) (c : Cause) (s : State) :
    (enterQuiescing j d c s).fsu.hinge = s.fsu.hinge := by
  simp [enterQuiescing, h]

@[simp] theorem enterRun_hinge {j : Job} (h : j ≠ .hinge) (s : State) :
    (enterRun j s).fsu.hinge = s.fsu.hinge := by
  simp [enterRun, h]

@[simp] theorem haltedToOff_hinge {j : Job} (h : j ≠ .hinge) (c : Cause) (s : State) :
    (haltedToOff j c s).fsu.hinge = s.fsu.hinge := by
  simp [haltedToOff, h]

@[simp] theorem occur_hinge {c : FaultCode} (h : c ≠ .hingeSensor) (d : Detail) (s : State) :
    (occur c d s).fsu.hinge = s.fsu.hinge := by
  have hj := job_ne_hinge h
  simp only [occur, actOnJob]
  repeat' split
  all_goals simp [hj]

@[simp] theorem occurEach_hinge {c : FaultCode} (h : c ≠ .hingeSensor) (ds : List Detail) (s : State) :
    (occurEach c ds s).fsu.hinge = s.fsu.hinge := by
  induction ds generalizing s with
  | nil => rfl
  | cons d ds ih => simp [occurEach, ih, h]

@[simp] theorem markFault_hinge (c : FaultCode) (st : FaultState) (s : State) :
    (markFault c st s).fsu.hinge = s.fsu.hinge := by
  simp [markFault, State.setFaultRec]

/-! ## The members of the other jobs at a quiesce (R172) -/

@[simp] theorem quiesceKeys_hinge (s : State) : (quiesceKeys s).fsu.hinge = s.fsu.hinge := by
  simp [quiesceKeys]

@[simp] theorem quiesceThermal_hinge (s : State) : (quiesceThermal s).fsu.hinge = s.fsu.hinge := by
  simp [quiesceThermal]

@[simp] theorem chargeAtRest_hinge (s : State) : (chargeAtRest s).fsu.hinge = s.fsu.hinge := by
  simp only [chargeAtRest]
  split <;> simp

@[simp] theorem writeComplete_hinge (s : State) : (writeComplete s).fsu.hinge = s.fsu.hinge := by
  simp [writeComplete]

@[simp] theorem writeVoid_hinge (s : State) : (writeVoid s).fsu.hinge = s.fsu.hinge := by
  simp [writeVoid]

@[simp] theorem writeFailed_hinge (s : State) : (writeFailed s).fsu.hinge = s.fsu.hinge := by
  simp only [writeFailed]
  split <;> simp

@[simp] theorem writeCutShort_hinge (s : State) : (writeCutShort s).fsu.hinge = s.fsu.hinge := by
  simp only [writeCutShort]
  split <;> simp

@[simp] theorem quiesceCharge_hinge (s : State) : (quiesceCharge s).fsu.hinge = s.fsu.hinge := by
  simp only [quiesceCharge]
  split <;> simp

@[simp] theorem quiesceBudget_hinge (s : State) : (quiesceBudget s).fsu.hinge = s.fsu.hinge := by
  simp [quiesceBudget]

@[simp] theorem pathAtRest_hinge (s : State) : (pathAtRest s).fsu.hinge = s.fsu.hinge := by
  simp only [pathAtRest]
  split <;> simp

@[simp] theorem finishLink_hinge (s : State) : (finishLink s).fsu.hinge = s.fsu.hinge := by
  simp only [finishLink, cutWrite]
  split <;> simp

@[simp] theorem quiesceLink_hinge (s : State) : (quiesceLink s).fsu.hinge = s.fsu.hinge := by
  simp only [quiesceLink]
  split <;> simp

/-- The members of another job leave PSM and the HINGE job at a quiesce. -/
theorem tellQuiesce_other {j : Job} (h : j ≠ .hinge) (s : State) :
    (tellQuiesce j s).psm = s.psm ∧ (tellQuiesce j s).fsu.hinge = s.fsu.hinge := by
  cases j with
  | hinge => exact absurd rfl h
  | _ => simp [tellQuiesce]

/-- The members of another job leave PSM and the HINGE job at a return to RUN. -/
theorem tellRun_other {j : Job} (h : j ≠ .hinge) (fromOff : Bool) (s : State) :
    (tellRun j fromOff s).psm = s.psm ∧ (tellRun j fromOff s).fsu.hinge = s.fsu.hinge := by
  cases j with
  | hinge => exact absurd rfl h
  | link => cases fromOff <;> simp [tellRun, returnLink]
  | _ => simp [tellRun]

/-- Any fault but HINGE_SENSOR leaves PSM and the HINGE job. -/
@[simp] theorem raiseEach_other {c : FaultCode} (h : c ≠ .hingeSensor) (ds : List Detail) (s : State) :
    (raiseEach c ds s).psm = s.psm ∧ (raiseEach c ds s).fsu.hinge = s.fsu.hinge := by
  simp only [raiseEach]
  split <;> simp [tellQuiesce_other (job_ne_hinge h), h]

@[simp] theorem raiseFault_other {c : FaultCode} (h : c ≠ .hingeSensor) (d : Detail) (s : State) :
    (raiseFault c d s).psm = s.psm ∧ (raiseFault c d s).fsu.hinge = s.fsu.hinge :=
  raiseEach_other h [d] s

/-! ## Packs, the path and the adapter -/

@[simp] theorem chargeTimerEnd_hinge (p : PackId) (r : ChargeFault) {c : FaultCode} (h : c ≠ .hingeSensor) (s : State) :
    (chargeTimerEnd p r c s).fsu.hinge = s.fsu.hinge := by
  simp [chargeTimerEnd, h]

@[simp] theorem publish_hinge (p : PackId) (x : Snapshot) (s : State) : (publish p x s).fsu.hinge = s.fsu.hinge := by
  simp [publish]

@[simp] theorem packFaulted_hinge (p : PackId) (s : State) : (packFaulted p s).fsu.hinge = s.fsu.hinge := by
  simp only [packFaulted]
  split <;> simp

@[simp] theorem snapshotFailed_hinge (p : PackId) (s : State) : (snapshotFailed p s).fsu.hinge = s.fsu.hinge := by
  simp only [snapshotFailed]
  split <;> simp

@[simp] theorem identityFailed_hinge (p : PackId) (s : State) : (identityFailed p s).fsu.hinge = s.fsu.hinge := by
  simp only [identityFailed]
  repeat' split
  all_goals simp

@[simp] theorem identityRead_hinge (p : PackId) (i : Identity) (s : State) :
    (identityRead p i s).fsu.hinge = s.fsu.hinge := by
  simp only [identityRead]
  repeat' split
  all_goals simp

@[simp] theorem loseSource_hinge (t : Source) (s : State) : (loseSource t s).fsu.hinge = s.fsu.hinge := by
  simp only [loseSource]
  split <;> simp

@[simp] theorem removePack_hinge (p : PackId) (s : State) : (removePack p s).fsu.hinge = s.fsu.hinge := by
  simp only [removePack]
  repeat' split
  all_goals simp

@[simp] theorem confirmPath_hinge (t : Source) (s : State) : (confirmPath t s).fsu.hinge = s.fsu.hinge := by
  simp [confirmPath]

@[simp] theorem switchFails_hinge (t : Source) (s : State) : (switchFails t s).fsu.hinge = s.fsu.hinge := by
  simp only [switchFails]
  split <;> simp

@[simp] theorem loseAdapter_hinge (c : AdapterLoss) (s : State) : (loseAdapter c s).fsu.hinge = s.fsu.hinge := by
  simp only [loseAdapter]
  split <;> simp

/-! ## Readings and transactions -/

@[simp] theorem takeReading_hinge (i : ThermalInput) (v : Int) (s : State) :
    (takeReading i v s).fsu.hinge = s.fsu.hinge := by
  simp only [takeReading, tripCheck, derateAtReading]
  repeat' split
  all_goals simp

@[simp] theorem afterOutcome_hinge (s : State) : (afterOutcome s).fsu.hinge = s.fsu.hinge := by
  simp only [afterOutcome]
  repeat' split
  all_goals simp

@[simp] theorem endStuck_hinge (entry : Nat) (s : State) : (endStuck entry s).fsu.hinge = s.fsu.hinge := by
  simp [endStuck]

@[simp] theorem pollEnd_hinge (w : PollWork) (o : TxOutcome) (s : State) : (pollEnd w o s).fsu.hinge = s.fsu.hinge := by
  simp only [pollEnd]
  repeat' split
  all_goals simp

@[simp] theorem chargerFails_other (s : State) :
    (chargerFails s).psm = s.psm ∧ (chargerFails s).fsu.hinge = s.fsu.hinge := by
  simp only [chargerFails]
  split <;> simp [tellQuiesce_other]

@[simp] theorem chargerEnd_other (w : WriteWork) (q : LinkPolicy) (o : TxOutcome) (s : State) :
    (chargerEnd w q o s).psm = s.psm ∧ (chargerEnd w q o s).fsu.hinge = s.fsu.hinge := by
  simp only [chargerEnd]
  repeat' split
  all_goals simp

@[simp] theorem sensorEnd_other (x : Sensor) (o : TxOutcome) (s : State) :
    (sensorEnd x o s).psm = s.psm ∧ (sensorEnd x o s).fsu.hinge = s.fsu.hinge := by
  simp only [sensorEnd, sensorFails]
  repeat' split
  all_goals simp

@[simp] theorem handOver_other (w : OnWire) (o : TxOutcome) (s : State) :
    (handOver w o s).psm = s.psm ∧ (handOver w o s).fsu.hinge = s.fsu.hinge := by
  simp only [handOver]
  repeat' split
  all_goals simp

@[simp] theorem endTransaction_other (w : OnWire) (o : TxOutcome) (s : State) :
    (endTransaction w o s).psm = s.psm ∧ (endTransaction w o s).fsu.hinge = s.fsu.hinge := by
  simp only [endTransaction]
  repeat' split
  all_goals simp

@[simp] theorem endRecovery_other (started : Bool) (w : OnWire) (scl sda : Bool) (s : State) :
    (endRecovery started w scl sda s).psm = s.psm ∧ (endRecovery started w scl sda s).fsu.hinge = s.fsu.hinge := by
  simp only [endRecovery, recovered]
  repeat' split
  all_goals simp

end Sys2Proof.PostureProofs
end

section
/-! SUPPORT. The record of PSM after each of its operations, and what they leave of the band, the angle and the validity
it holds (06). -/

namespace Sys2Proof.PostureProofs
open Sys2Proof.Machine

@[simp] theorem changePosture_psm (new : Posture) (s : State) :
    (changePosture new s).psm =
      { s.psm with current := new, dwell := none, lastChange := some (s.time, s.psm.current) } := by
  simp only [changePosture]
  split <;> simp

/-- The band is derived from the settings, the angle and the validity, and nothing else of PSM moves (R109). -/
theorem deriveBand_psm (fresh : Bool) (s : State) :
    (deriveBand fresh s).psm =
      { s.psm with
        band :=
          if s.running .hinge && s.psm.validity = .referenced && s.psm.evaluated then
            some (nextBand s.psm.settings (if fresh then none else s.psm.band) s.psm.angle)
          else none } := by
  simp only [deriveBand]
  split <;> simp_all

/-- What a new candidate makes of PSM's record (R112). -/
theorem actOnCandidate_psm (lidAssertion : Bool) (s : State) :
    (actOnCandidate lidAssertion s).psm =
      if s.psm.candidate = s.psm.current then { s.psm with dwell := none }
      else if s.psm.candidate = .closed ∧ lidAssertion = true then
        { s.psm with current := .closed, dwell := none, lastChange := some (s.time, s.psm.current) }
      else { s.psm with dwell := some 0 } := by
  simp only [actOnCandidate]
  repeat' split
  all_goals simp_all

@[simp] theorem actOnCandidate_rest (lidAssertion : Bool) (s : State) :
    (actOnCandidate lidAssertion s).psm.band = s.psm.band ∧
      (actOnCandidate lidAssertion s).psm.validity = s.psm.validity ∧
      (actOnCandidate lidAssertion s).psm.angle = s.psm.angle := by
  rw [actOnCandidate_psm]
  repeat' split
  all_goals simp

@[simp] theorem evaluatePosture_rest (lidAssertion : Bool) (s : State) :
    (evaluatePosture lidAssertion s).psm.band = s.psm.band ∧
      (evaluatePosture lidAssertion s).psm.validity = s.psm.validity ∧
      (evaluatePosture lidAssertion s).psm.angle = s.psm.angle := by
  simp only [evaluatePosture]
  split <;> simp

@[simp] theorem deriveConflict_psm (s : State) :
    (deriveConflict s).psm = { s.psm with conflict := s.psm.lid.debounced && s.psm.tablet.debounced } := by
  simp only [deriveConflict]
  split <;> simp

@[simp] theorem expireDwell_rest (s : State) :
    (expireDwell s).psm.band = s.psm.band ∧ (expireDwell s).psm.validity = s.psm.validity := by
  simp only [expireDwell]
  repeat' split
  all_goals simp

end Sys2Proof.PostureProofs
end

section
/-! SUPPORT. The band is none unless the HINGE job is RUN and the validity REFERENCED (R109): every step keeps it. An
operation of another block keeps it since it leaves PSM and the HINGE job; one of HSI, PSM or the HINGE job since it
derives the band last. -/

namespace Sys2Proof.PostureProofs
open Sys2Proof.Machine

theorem running_hinge (s : State) : s.running .hinge = decide (s.fsu.hinge.state = .run) := rfl

/-! ## When the law passes from one state to another -/

/-- An operation that leaves band and validity and does not take the HINGE job out of RUN keeps the law. -/
theorem band_of_run {s t : State} (hb : t.psm.band = s.psm.band) (hv : t.psm.validity = s.psm.validity)
    (hr : s.running .hinge = true → t.running .hinge = true) (h : BandNeedsReference s) : BandNeedsReference t := by
  intro hband
  rw [hb] at hband
  obtain ⟨hrun, href⟩ := h hband
  exact ⟨hr hrun, hv.trans href⟩

/-- An operation that leaves PSM and the HINGE job keeps the law. -/
theorem band_of_same {s t : State} (h : BandNeedsReference s)
    (he : t.psm = s.psm ∧ t.fsu.hinge.state = s.fsu.hinge.state) : BandNeedsReference t :=
  band_of_run (by rw [he.1]) (by rw [he.1]) (by simp only [running_hinge, he.2, imp_self]) h

/-- With the HINGE job out of RUN the law says that there is no band, so every state with PSM the same has it. -/
theorem band_of_stopped {s t : State} (hp : t.psm = s.psm) (hr : s.running .hinge = false)
    (h : BandNeedsReference s) : BandNeedsReference t :=
  band_of_run (by rw [hp]) (by rw [hp]) (by simp [hr]) h

theorem raise_band (e : EvSource) (d : Detail) {s : State} (h : BandNeedsReference s) :
    BandNeedsReference (raise e d s) :=
  band_of_same h (by simp)

/-! ## HSI and PSM (R93 to R117) -/

/-- A band just derived has the law, whatever stood before. -/
theorem deriveBand_band (fresh : Bool) (s : State) : BandNeedsReference (deriveBand fresh s) := by
  intro hband
  rw [deriveBand_psm] at hband
  split at hband
  · rename_i hc
    simp only [Bool.and_eq_true, decide_eq_true_eq] at hc
    simpa [deriveBand_psm, running_hinge] using hc.1
  · simp at hband

theorem evaluatePosture_band (lidAssertion : Bool) {s : State} (h : BandNeedsReference s) :
    BandNeedsReference (evaluatePosture lidAssertion s) :=
  band_of_run (by simp) (by simp) (by simp [running_hinge]) h

theorem receiveHinge_band {s : State} (h : BandNeedsReference s) : BandNeedsReference (receiveHinge s) := by
  simp only [receiveHinge]
  split
  · exact h
  · exact deriveBand_band _ _

theorem deriveValidity_band {s : State} (h : BandNeedsReference s) : BandNeedsReference (deriveValidity s) :=
  evaluatePosture_band _ (receiveHinge_band (band_of_same h (by simp)))

theorem evaluateAll_band (vl cl sp : Bool) {s : State} (h : BandNeedsReference s) :
    BandNeedsReference (evaluateAll vl cl sp s) :=
  deriveValidity_band (band_of_same h (by simp))

theorem takeSample_band (sin cos : Int) {s : State} (h : BandNeedsReference s) :
    BandNeedsReference (takeSample sin cos s) := by
  simp only [takeSample]
  split <;> exact evaluateAll_band _ _ _ (band_of_same h (by simp))

theorem clearErrors_band {s : State} (h : BandNeedsReference s) : BandNeedsReference (clearErrors s) :=
  deriveValidity_band (band_of_same h (by simp))

theorem calibrationSaved_band (c : Calibration) {s : State} (h : BandNeedsReference s) :
    BandNeedsReference (calibrationSaved c s) := by
  simp only [calibrationSaved, storeDone]
  apply raise_band
  split
  · exact deriveValidity_band (band_of_same h (by simp))
  · exact band_of_same h (by simp)

theorem storeReference_band {s : State} (h : BandNeedsReference s) : BandNeedsReference (storeReference s) := by
  simp only [storeReference]
  split
  · exact receiveHinge_band (band_of_same h (by simp))
  · exact h

theorem edgeToHinge_band (x : HingeSwitch) (asserted : Bool) {s : State} (h : BandNeedsReference s) :
    BandNeedsReference (edgeToHinge x asserted s) := by
  cases x with
  | tablet => exact band_of_same h (by simp [edgeToHinge])
  | lid =>
    cases asserted with
    | false => exact band_of_same h (by simp [edgeToHinge])
    | true => exact band_of_same (storeReference_band h) (by simp [edgeToHinge])

theorem dueEdge_band (x : HingeSwitch) {s : State} (h : BandNeedsReference s) : BandNeedsReference (dueEdge x s) := by
  simp only [dueEdge]
  split
  · exact evaluatePosture_band _ (edgeToHinge_band _ _ (band_of_run (by simp) (by simp) (by simp [running_hinge]) h))
  · exact h

theorem expireDwell_band {s : State} (h : BandNeedsReference s) : BandNeedsReference (expireDwell s) :=
  band_of_run (by simp) (by simp) (by simp [running_hinge]) h

theorem firstEvaluation_band (s : State) : BandNeedsReference (firstEvaluation s) := by
  simp only [firstEvaluation]
  generalize (if (s.setPsm { s.psm with evaluated := true }).psm.conflict then _ else _ : State) = u
  have h : BandNeedsReference
      ((deriveBand true u).setPsm { (deriveBand true u).psm with candidate := (deriveBand true u).candidateNow }) :=
    band_of_run (by simp) (by simp) (by simp [running_hinge]) (deriveBand_band true u)
  split
  · exact h
  · exact band_of_run (by simp) (by simp) (by simp [running_hinge]) h

/-! ## The HINGE job (R114) -/

/-- A member's report moves its job only while the job is QUIESCING. -/
theorem memberDone_running (j : Job) (m : Member) {s : State} (h : s.running .hinge = true) :
    (memberDone j m s).running .hinge = true := by
  by_cases hj : j = .hinge
  · subst hj
    have hs : (s.job .hinge).state = .run := by simpa [State.running] using h
    simpa [memberDone, hs] using h
  · simpa [running_hinge, hj] using h

theorem memberDone_band (j : Job) (m : Member) {s : State} (h : BandNeedsReference s) :
    BandNeedsReference (memberDone j m s) :=
  band_of_run (by simp) (by simp) (memberDone_running j m) h

/-- A quiesce of the HINGE job derives the band after the job has left RUN. -/
theorem quiesceHinge_band (s : State) : BandNeedsReference (quiesceHinge s) :=
  memberDone_band _ _ (evaluatePosture_band _ (deriveBand_band _ _))

/-- A return of the HINGE job derives the band after the job has entered RUN. -/
theorem returnHinge_band (fromOff : Bool) (s : State) : BandNeedsReference (returnHinge fromOff s) :=
  evaluatePosture_band _ (deriveBand_band _ _)

/-- Occurrences of a fault keep the law: where they take the HINGE job out of RUN, its quiesce derives the band. -/
theorem raiseEach_band (c : FaultCode) (ds : List Detail) {s : State} (h : BandNeedsReference s) :
    BandNeedsReference (raiseEach c ds s) := by
  by_cases hc : c = .hingeSensor
  · subst hc
    simp only [raiseEach]
    split
    · exact quiesceHinge_band _
    · rename_i hn
      exact band_of_run (by simp) (by simp) (by simpa [FaultCode.job] using hn) h
  · exact band_of_same h (by simp [hc])

theorem answerHaltJob_band (job dest : Byte) {s : State} (h : BandNeedsReference s) :
    BandNeedsReference (answerHaltJob job dest s).2 := by
  simp only [answerHaltJob]
  split
  · rename_i j d _ _
    by_cases hj : j = .hinge
    · subst hj
      split
      · exact quiesceHinge_band _
      · exact h
      · rename_i hs _
        exact band_of_stopped (by simp) (by simp [State.running, hs]) h
      · exact h
      · exact h
    · refine band_of_same h ?_
      repeat' split
      all_goals simp [tellQuiesce_other, hj]
  · exact h

theorem restart_band (j : Job) (fromOff : Bool) {s : State} (h : BandNeedsReference s) :
    BandNeedsReference (restart j fromOff s).2 := by
  by_cases hj : j = .hinge
  · subst hj
    exact band_of_same (returnHinge_band fromOff (enterRun .hinge s)) (by simp [restart, tellRun])
  · exact band_of_same h (by simp [restart, tellRun_other, hj])

theorem answerRestartJob_band (job : Byte) {s : State} (h : BandNeedsReference s) :
    BandNeedsReference (answerRestartJob job s).2 := by
  simp only [answerRestartJob]
  repeat' split
  · exact h
  · exact h
  · exact h
  · exact h
  · exact restart_band _ _ h
  · exact h
  · exact restart_band _ _ h

/-! ## Power-on and the soft reset -/

/-- At power-on there is no band (R117). -/
theorem powerOn_band (l : Lines) (s : State) : BandNeedsReference (powerOn l s) := by
  have hb : (powerOn l s).psm.band = none := by
    simp [powerOn, shareHinge, readLines, loadSettings, Psm.reset, State.reset]
  simp [BandNeedsReference, hb]

/-- At a soft reset the band is derived afresh (R118). -/
theorem rederive_band (s : State) : BandNeedsReference (rederive s) := by
  have hd := deriveBand_band true (shareHinge (setDerate (deriveFans s).derateFresh (deriveFans s)))
  exact band_of_same (evaluatePosture_band false hd) (by simp [rederive])

theorem softReset_band (s : State) : BandNeedsReference (softReset s) := by
  have hr : BandNeedsReference (rederive (reportRows (loadSettings (resetBlocks s)))) :=
    rederive_band _
  exact band_of_same hr (by simp [softReset])

/-! ## Requests (R191) -/

/-- A block that answers a request keeps the law. -/
def OwnerKeepsBand (o : Owner) : Prop := ∀ s, BandNeedsReference s → BandNeedsReference (o s).2

theorem ownerKeepsBand_of_same {o : Owner}
    (he : ∀ s, (o s).2.psm = s.psm ∧ (o s).2.fsu.hinge.state = s.fsu.hinge.state) : OwnerKeepsBand o :=
  fun s h => band_of_same h (he s)

theorem serve_band (kind : Nat) (hd : ReqHead) {o : Owner} (ho : OwnerKeepsBand o) {s : State}
    (h : BandNeedsReference s) : BandNeedsReference (serve kind hd o s) := by
  simp only [serve]
  repeat' split
  · exact band_of_same h (by simp)
  · exact band_of_same h (by simp)
  · exact band_of_same h (by simp [enqueue])
  · exact band_of_same (ho s h) (by simp [enqueue])

theorem answerSetHingeMonitor_band (vl cl sp ci gl ol : RawEnable) (hyst : Byte) (nominal : BitVec 16) {s : State}
    (h : BandNeedsReference s) :
    BandNeedsReference (answerSetHingeMonitor vl cl sp ci gl ol hyst nominal s).2 := by
  simp only [answerSetHingeMonitor]
  split
  · exact evaluateAll_band _ _ _ (band_of_same h (by simp))
  · exact h

theorem answerSetPostureThresholds_band (a b c d e : BitVec 16) {s : State} (h : BandNeedsReference s) :
    BandNeedsReference (answerSetPostureThresholds a b c d e s).2 := by
  simp only [answerSetPostureThresholds]
  repeat' split
  · exact expireDwell_band (evaluatePosture_band _ (deriveBand_band _ _))
  · exact h
  · exact h

@[simp] theorem answerSetCharge_other (inhibitA inhibitB order threshold : Byte) (s : State) :
    (answerSetCharge inhibitA inhibitB order threshold s).2.psm = s.psm ∧
      (answerSetCharge inhibitA inhibitB order threshold s).2.fsu = s.fsu := by
  have applied : ∀ (p : PackId) (v : Option Bool) (u : State),
      (applyTo (setInhibit p) v u).psm = u.psm ∧ (applyTo (setInhibit p) v u).fsu = u.fsu := fun p v u => by
    cases v <;> simp [applyTo]
  simp only [answerSetCharge]
  split <;> simp [applied]

@[simp] theorem answerReportTemperature_hinge (temp : BitVec 16) (s : State) :
    (answerReportTemperature temp s).2.fsu.hinge = s.fsu.hinge := by
  simp only [answerReportTemperature]
  repeat' split
  all_goals simp

@[simp] theorem answerFetchFault_hinge (s : State) : (answerFetchFault s).2.fsu.hinge = s.fsu.hinge := by
  simp only [answerFetchFault]
  split <;> simp

@[simp] theorem answerClearFault_hinge (code : Byte) (s : State) :
    (answerClearFault code s).2.fsu.hinge = s.fsu.hinge := by
  simp only [answerClearFault]
  split <;> simp

@[simp] theorem setRecovery_hinge_state (j : Job) (r : Option Recovery) (s : State) :
    (setRecovery j r s).fsu.hinge.state = s.fsu.hinge.state := by
  cases j <;> rfl

@[simp] theorem answerSetRecovery_hinge_state (power link hinge keys thermal : Byte) (s : State) :
    (answerSetRecovery power link hinge keys thermal s).2.fsu.hinge.state = s.fsu.hinge.state := by
  simp only [answerSetRecovery]
  split <;> simp

/-- A request given as a command of its own keeps the law. -/
theorem exec_request_band {c : Instr} {kind : Nat} {hd : ReqHead} (hc : c.request = some (kind, hd)) {s t : State}
    (h : BandNeedsReference s) (he : exec c s = .next t) : BandNeedsReference t := by
  cases c
  case setHingeMonitor => cases he; exact serve_band _ _ (fun _ => answerSetHingeMonitor_band _ _ _ _ _ _ _ _) h
  case clearHingeErrors => cases he; exact serve_band _ _ (fun _ => clearErrors_band) h
  case setPostureThresholds => cases he; exact serve_band _ _ (fun _ => answerSetPostureThresholds_band _ _ _ _ _) h
  case restartJob => cases he; exact serve_band _ _ (fun _ => answerRestartJob_band _) h
  case haltJob => cases he; exact serve_band _ _ (fun _ => answerHaltJob_band _ _) h
  all_goals cases hc
  all_goals cases he; refine serve_band _ _ (ownerKeepsBand_of_same fun u => ?_) h; simp

/-! ## Requests in frames (R189 to R191) -/

theorem badFields_band : OwnerKeepsBand badFields := fun _ h => h

theorem fields0_band {o : Owner} (ho : OwnerKeepsBand o) (f : List Byte) : OwnerKeepsBand (fields0 o f) := by
  unfold fields0
  split
  · exact ho
  · exact badFields_band

theorem fields1_band {o : Byte → Owner} (ho : ∀ a, OwnerKeepsBand (o a)) (f : List Byte) :
    OwnerKeepsBand (fields1 o f) := by
  unfold fields1
  split
  · exact ho _
  · exact badFields_band

theorem fields2_band {o : Byte → Byte → Owner} (ho : ∀ a b, OwnerKeepsBand (o a b)) (f : List Byte) :
    OwnerKeepsBand (fields2 o f) := by
  unfold fields2
  split
  · exact ho _ _
  · exact badFields_band

theorem powerOwner_band (kind : Nat) (f : List Byte) : OwnerKeepsBand (powerOwner kind f) := by
  refine ownerKeepsBand_of_same fun s => ?_
  unfold powerOwner fields0 fields1 fields4 fieldsStage fieldsDischarge fieldsDevice fieldsTransfer badFields
  repeat' split
  all_goals simp

theorem fieldsMonitor_band (f : List Byte) : OwnerKeepsBand (fieldsMonitor f) := by
  unfold fieldsMonitor
  split
  · exact fun _ => answerSetHingeMonitor_band _ _ _ _ _ _ _ _
  · exact badFields_band

theorem fieldsThresholds_band (f : List Byte) : OwnerKeepsBand (fieldsThresholds f) := by
  unfold fieldsThresholds
  split
  · exact fun _ => answerSetPostureThresholds_band _ _ _ _ _
  · exact badFields_band

theorem bodyOwner_band (kind : Nat) (c : Channel) (f : List Byte) : OwnerKeepsBand (bodyOwner kind c f) := by
  unfold bodyOwner
  split
  -- SET HINGE MONITOR, CLEAR HINGE ERRORS and SET POSTURE THRESHOLDS are the requests that reach PSM
  case h_4 => exact fieldsMonitor_band f
  case h_5 => exact fields0_band (fun _ => clearErrors_band) f
  case h_8 => exact fieldsThresholds_band f
  all_goals
    refine ownerKeepsBand_of_same fun s => ?_
    simp only [fields0, fields1, fields2, fields4, fieldsKeyboard, fieldsCurve, badFields, refuse_snd]
    repeat' split
    all_goals simp

theorem systemOwner_band (kind : Nat) (c : Channel) (f : List Byte) : OwnerKeepsBand (systemOwner kind c f) := by
  unfold systemOwner
  split
  -- RESTART JOB and HALT JOB are the requests that move a job
  case h_8 => exact fields1_band (fun _ _ => answerRestartJob_band _) f
  case h_9 => exact fields2_band (fun _ _ _ => answerHaltJob_band _ _) f
  all_goals
    refine ownerKeepsBand_of_same fun s => ?_
    simp only [fields0, fields1, fields2, fields4, fieldsWake, fieldsRecovery, badFields, refuse_snd]
    repeat' split
    all_goals simp

theorem ownerOf_band (kind : Nat) (c : Channel) (parts : Nat) (f : List Byte) :
    OwnerKeepsBand (ownerOf kind c parts f) := by
  unfold ownerOf
  repeat' split
  · exact badFields_band
  · exact powerOwner_band kind f
  · exact bodyOwner_band kind c f
  · exact systemOwner_band kind c f

theorem requestComplete_band (ck tag : Byte) (parts : Nat) (f : List Byte) {s : State} (h : BandNeedsReference s) :
    BandNeedsReference (requestComplete ck tag parts f s) :=
  serve_band _ _ (ownerOf_band _ _ _ _) (band_of_same h (by simp))

theorem addPart_band (x : Series) (data : List Byte) {s : State} (h : BandNeedsReference s) :
    BandNeedsReference (addPart x data s) := by
  simp only [addPart]
  split
  · exact requestComplete_band _ _ _ _ h
  · exact band_of_same h (by simp)

theorem takePart_band (ck tag : Byte) (count index : Nat) (data : List Byte) {s : State}
    (h : BandNeedsReference s) : BandNeedsReference (takePart ck tag count index data s) := by
  have habandon : BandNeedsReference (abandonSeries s) := band_of_same h (by simp)
  simp only [takePart]
  repeat' split
  · exact habandon
  · exact requestComplete_band _ _ _ _ h
  · exact band_of_same h (by simp)
  · exact addPart_band _ _ h
  · exact habandon
  · exact habandon

theorem frameByte_band (bytes : List Byte) (b : Byte) {s : State} (h : BandNeedsReference s) :
    BandNeedsReference (frameByte bytes b s) := by
  have hrx : BandNeedsReference (setRx .hunting s) := band_of_same h (by simp)
  simp only [frameByte, checkFrame, frameComplete]
  repeat' split
  · exact hrx
  · exact takePart_band _ _ _ _ _ hrx
  · exact takePart_band _ _ _ _ _ hrx
  · exact hrx
  · exact hrx
  · exact band_of_same h (by simp)
  · exact h

theorem huntByte_band (b : RxByte) {s : State} (h : BandNeedsReference s) : BandNeedsReference (huntByte b s) := by
  simp only [huntByte]
  split
  · exact band_of_same h (by simp)
  · exact h

theorem receiveByte_band (b : RxByte) {s : State} (h : BandNeedsReference s) :
    BandNeedsReference (receiveByte s b) := by
  simp only [receiveByte]
  repeat' split
  · exact huntByte_band b h
  · exact huntByte_band b (band_of_same h (by simp))
  · exact frameByte_band _ _ h
  · exact band_of_same h (by simp)

theorem receiveBytes_band (bytes : List RxByte) {s : State} (h : BandNeedsReference s) :
    BandNeedsReference (bytes.foldl receiveByte s) := by
  induction bytes generalizing s with
  | nil => exact h
  | cons b bs ih => exact ih (receiveByte_band b h)

/-! ## The transmitter (R192, R193) -/

theorem partSent_band (part parts : Nat) {s : State} (h : BandNeedsReference s) :
    BandNeedsReference (partSent part parts s) := by
  simp only [partSent, replySent]
  repeat' split
  · exact band_of_same h (by simp)
  · exact band_of_same h (by simp)
  · exact softReset_band _
  · exact band_of_same h (by simp)

theorem frameSent_band {s t : State} (h : BandNeedsReference s) (he : exec .frameSent s = .next t) :
    BandNeedsReference t := by
  cases he
  repeat' split
  · exact h
  · exact partSent_band _ _ h
  · exact band_of_same h (by simp)
  · exact band_of_same h (by simp)

/-! ## Commands -/

@[simp] theorem endScan_other (sensed : List Key) (s : State) :
    (endScan sensed s).psm = s.psm ∧ (endScan sensed s).fsu.hinge = s.fsu.hinge := by
  simp only [endScan, raiseShorts]
  split <;> simp

/-- A command that is no request keeps the law. -/
theorem exec_event_band {c : Instr} (hc : c.request = none) {s t : State} (h : BandNeedsReference s)
    (he : exec c s = .next t) : BandNeedsReference t := by
  cases c
  case powerOn => cases he; exact powerOn_band _ _
  case hostFrameReceived => cases he; exact receiveBytes_band _ h
  case frameSent => exact frameSent_band h he
  case calibrationSaveComplete =>
    cases he
    split
    · exact calibrationSaved_band _ h
    · exact h
  case samplePair =>
    cases he
    split
    · exact takeSample_band _ _ h
    · exact h
  case persistenceTimerExpired =>
    cases he
    split
    · exact raiseEach_band _ _ h
    · exact h
  case switchLineChange => cases he; exact band_of_run (by simp) (by simp) (by simp [running_hinge]) h
  case switchDebouncedEdge => cases he; exact dueEdge_band _ h
  case dwellExpired => cases he; exact expireDwell_band h
  case firstEvaluation =>
    cases he
    split
    · exact firstEvaluation_band _
    · exact h
  all_goals cases hc
  all_goals
    cases he
    refine band_of_same h ?_
    repeat' first | split | (dsimp only; split)
    all_goals simp

/-- Every command keeps the law. -/
theorem exec_band {c : Instr} {s t : State} (h : BandNeedsReference s) (he : exec c s = .next t) :
    BandNeedsReference t := by
  cases hc : c.request with
  | none => exact exec_event_band hc h he
  | some r => exact exec_request_band hc h he

/-- Every step keeps the band none unless HINGE is RUN and the validity REFERENCED (R109). -/
theorem bandNeedsReference_kept : KeptByStep BandNeedsReference := by
  intro s t h ht
  unfold step at ht
  split at ht
  · exact exec_band (band_of_same h (by simp)) ht
  · cases ht
    exact h

end Sys2Proof.PostureProofs
end

section
/-! SUPPORT. What a change of posture puts in the pending lists stands there after its delivery: the blocks it is handed
to list events of their own and move the entries of LEVEL sources only (R113, R183, R184). -/

namespace Sys2Proof.PostureProofs
open Sys2Proof.Machine

/-- A source stands in the pending list of a channel. -/
def Stands (e : EvSource) (c : Channel) (s : State) : Prop := ∃ p ∈ s.list c, p.src = e

section
variable {e : EvSource} {c : Channel} {s t : State}

theorem stands_of_evr (h : Stands e c s) (he : t.evr = s.evr) : Stands e c t := by
  cases c <;> simpa [Stands, State.list, he] using h

theorem stands_setSwc (v : Swc) (h : Stands e c s) : Stands e c (s.setSwc v) := stands_of_evr h rfl

theorem stands_setKbs (v : Kbs) (h : Stands e c s) : Stands e c (s.setKbs v) := stands_of_evr h rfl

theorem stands_setHsi (v : Hsi) (h : Stands e c s) : Stands e c (s.setHsi v) := stands_of_evr h rfl

theorem stands_deriveFans (h : Stands e c s) : Stands e c (deriveFans s) := stands_of_evr h (by simp)

theorem stands_noticesOnArrival (h : Stands e c s) : Stands e c (noticesOnArrival s) := stands_of_evr h (by simp)

theorem stands_raise (f : EvSource) (d : Detail) (h : Stands e c s) : Stands e c (raise f d s) := by
  unfold Stands
  rw [raise_list]
  split
  · exact mem_bump.mpr (.inl h)
  · exact h

/-- An event stands where its source was routed to. -/
theorem stands_raised (d : Detail) (h : (s.route e).names c = true) : Stands e c (raise e d s) := by
  unfold Stands
  rw [raise_list, if_pos h]
  exact mem_bump.mpr (.inr rfl)

theorem stands_setCondition (f : EvSource) (b : Bool) (h : Stands e c s) : Stands e c (s.setCondition f b) := by
  cases f <;> cases c <;> exact h

theorem stands_joinLevel (k : Channel) (f : EvSource) (h : Stands e c s) : Stands e c (joinLevel k f s) := by
  obtain ⟨p, hp, hs⟩ := h
  simp only [joinLevel]
  split
  · refine ⟨p, ?_, hs⟩
    by_cases hk : c = k
    · subst hk
      simp [hp]
    · rwa [putList_other _ _ hk]
  · exact ⟨p, hp, hs⟩

theorem stands_leaveList (k : Channel) {f : EvSource} (hf : e ≠ f) (h : Stands e c s) :
    Stands e c (leaveList k f s) := by
  obtain ⟨p, hp, hs⟩ := h
  refine ⟨p, ?_, hs⟩
  unfold leaveList
  by_cases hk : c = k
  · subst hk
    rw [putList_list]
    exact mem_without.mpr ⟨hp, hs ▸ hf⟩
  · rwa [putList_other _ _ hk]

/-- The owner of a LEVEL source moves no other source's entry. -/
theorem stands_setLevel {f : EvSource} (b : Bool) (hf : e ≠ f) (h : Stands e c s) : Stands e c (setLevel f b s) := by
  simp only [setLevel]
  repeat' split
  · exact h
  · exact stands_joinLevel _ _ (stands_joinLevel _ _ (stands_setCondition _ _ h))
  · exact stands_leaveList _ hf (stands_leaveList _ hf (stands_setCondition _ _ h))

/-- The events of a change of posture are listed (R113). -/
theorem stands_raisePosture_changed (new old : Posture) (h : (s.route .postureChanged).names c = true) :
    Stands .postureChanged c (raisePosture new old s) := by
  have hs := stands_raised (det [new.num, old.num]) h
  simp only [raisePosture]
  repeat' split
  · exact stands_raise _ _ (stands_raise _ _ hs)
  · exact stands_raise _ _ hs
  · exact stands_raise _ _ hs
  · exact hs

theorem stands_raisePosture_opened (new : Posture) (h : (s.route .lidOpened).names c = true) :
    Stands .lidOpened c (raisePosture new .closed s) := by
  have hs : Stands .lidOpened c
      (raise .lidOpened (det [new.num]) (raise .postureChanged (det [new.num, Posture.num .closed]) s)) :=
    stands_raised _ (by simpa using h)
  simp only [raisePosture, if_true]
  split
  · exact stands_raise _ _ hs
  · exact hs

theorem stands_raisePosture_closed (old : Posture) (h : (s.route .lidClosed).names c = true) :
    Stands .lidClosed c (raisePosture .closed old s) := by
  simp only [raisePosture, if_true]
  split <;> exact stands_raised _ (by simpa using h)

variable (he : e.level = false)
include he

theorem stands_queueKey (k : KeyEvent) (h : Stands e c s) : Stands e c (queueKey k s) := by
  have hk : e ≠ .keysAvailable := by rintro rfl; cases he
  simp only [queueKey]
  split
  · exact stands_setLevel _ hk (stands_setKbs _ h)
  · exact stands_setKbs _ h

theorem stands_releaseHeld (es : List KeyEntry) (n : Nat) (h : Stands e c s) : Stands e c (releaseHeld es n s) := by
  induction es generalizing n s with
  | nil => exact h
  | cons x xs ih =>
    simp only [releaseHeld]
    split
    · exact ih _ (stands_queueKey he _ h)
    · exact ih _ h

theorem stands_deriveScanMode (h : Stands e c s) : Stands e c (deriveScanMode s) := by
  simp only [deriveScanMode, enterSuppressed]
  repeat' split
  · exact h
  · exact stands_setKbs _ (stands_releaseHeld he _ _ h)
  · exact stands_setKbs _ h
  · exact stands_setKbs _ h

theorem stands_setPlatform (p : Platform) (h : Stands e c s) : Stands e c (setPlatform p s) := by
  have hm := stands_deriveScanMode he (stands_setSwc { s.swc with platform := p } h)
  simp only [setPlatform]
  split
  · exact stands_setSwc _ h
  · exact stands_of_evr hm (by simp)

theorem stands_reachOn (h : Stands e c s) : Stands e c (reachOn s) := by
  have hw : Stands e c (raise .woke [wakePart s.swc.primary] (noticesOnArrival (setPlatform .on
      (s.setSwc { s.swc with settle := none, powerGood := none, wakeTime := some s.time })))) :=
    stands_raise _ _ (stands_noticesOnArrival (stands_setPlatform he _ (stands_setSwc _ h)))
  simp only [reachOn]
  split
  · exact stands_of_evr hw (by simp)
  · exact hw

theorem stands_startPowerGood (h : Stands e c s) : Stands e c (startPowerGood s) := by
  simp only [startPowerGood]
  split
  · exact stands_reachOn he (stands_setSwc _ h)
  · exact stands_setSwc _ h

theorem stands_wake (w : WakeSource) (h : Stands e c s) : Stands e c (wake w s) := by
  have ht : Stands e c (takeWake w s) := stands_setSwc _ h
  have hadd : Stands e c (s.setSwc { s.swc with fired := s.swc.fired.add w }) := stands_setSwc _ h
  have hwake : Stands e c (wakeUp w s) := stands_startPowerGood he (stands_setPlatform he _ ht)
  have hup : Stands e c (powerUp w s) := stands_setPlatform he _ (stands_setSwc _ ht)
  simp only [wake]
  repeat' split
  · exact stands_reachOn he ht
  · exact h
  · exact hwake
  · exact h
  · exact hadd
  · exact h
  · exact hup
  · exact h
  · exact hadd
  · exact h
  · exact h
  · exact h

theorem stands_takeCapture (src : CaptureSource) (h : Stands e c s) : Stands e c (takeCapture src s) := by
  have hk : e ≠ .captureWaiting := by rintro rfl; cases he
  simp only [takeCapture]
  repeat' split
  · exact h
  · exact stands_setLevel _ hk (stands_setHsi _ h)
  · exact stands_raise _ _ (stands_setHsi _ h)

/-- What the raised events of a change of posture put in the lists stands there after its delivery. -/
theorem stands_changePosture (new : Posture)
    (h : Stands e c (raisePosture new s.psm.current
      (s.setPsm { s.psm with current := new, dwell := none, lastChange := some (s.time, s.psm.current) }))) :
    Stands e c (changePosture new s) := by
  have hd := stands_deriveFans (stands_deriveScanMode he h)
  simp only [changePosture]
  split
  · exact stands_takeCapture he _ (stands_wake he _ hd)
  · exact stands_takeCapture he _ hd

end

/-- POSTURE_CHANGED is listed at every change of posture (R113). -/
theorem changePosture_listed (new : Posture) (s : State) : Listed .postureChanged s (changePosture new s) :=
  fun _ hc => stands_changePosture rfl new (stands_raisePosture_changed new _ hc)

/-- LID_OPENED is listed at a change out of CLOSED (R113). -/
theorem changePosture_opened (new : Posture) {s : State} (ho : s.psm.current = .closed) :
    Listed .lidOpened s (changePosture new s) :=
  fun _ hc => stands_changePosture rfl new (ho ▸ stands_raisePosture_opened new hc)

/-- LID_CLOSED is listed at a change into CLOSED (R113). -/
theorem changePosture_closed (s : State) : Listed .lidClosed s (changePosture .closed s) :=
  fun _ hc => stands_changePosture rfl .closed (stands_raisePosture_closed _ hc)

end Sys2Proof.PostureProofs
end

section
/-! PROOFS. The candidate (R110) and the events and thresholds of PSM (R107, R112, R113, R116, R117). -/

namespace Sys2Proof.PostureProofs
open Sys2Proof.Machine

/-! ## The candidate (R110) -/

theorem candidateNow_conflict {s : State} (hc : s.psm.conflict = true) : s.candidateNow = .unknown := by
  simp [State.candidateNow, hc]

theorem candidateNow_lid {s : State} (hc : s.psm.conflict = false) (hl : s.psm.lid.debounced = true) :
    s.candidateNow = .closed := by
  simp [State.candidateNow, hc, hl]

theorem candidateNow_tablet {s : State} (hc : s.psm.conflict = false) (hl : s.psm.lid.debounced = false)
    (ht : s.psm.tablet.debounced = true) : s.candidateNow = .tablet := by
  simp [State.candidateNow, hc, hl, ht]

/-- With neither switch asserted a RUN HINGE job's band decides. -/
theorem candidateNow_band {s : State} {b : Band} (hc : s.psm.conflict = false) (hl : s.psm.lid.debounced = false)
    (ht : s.psm.tablet.debounced = false) (hr : s.running .hinge = true) (hb : s.psm.band = some b) :
    s.candidateNow = b.posture := by
  simp [State.candidateNow, hc, hl, ht, hr, hb]

/-- The switch fallback with neither switch asserted. -/
theorem candidateNow_fallback {s : State} (hc : s.psm.conflict = false) (hl : s.psm.lid.debounced = false)
    (ht : s.psm.tablet.debounced = false) (hn : s.running .hinge = false ∨ s.psm.band = none) :
    s.candidateNow = .unknown := by
  rcases hn with hr | hb
  · simp [State.candidateNow, hc, hl, ht, hr]
  · simp [State.candidateNow, hc, hl, ht, hb]

/-- Without the angle the switches give one of three postures. -/
theorem candidateNow_of_switches {s : State} (hn : s.running .hinge = false ∨ s.psm.band = none) :
    s.candidateNow = .closed ∨ s.candidateNow = .tablet ∨ s.candidateNow = .unknown := by
  cases hc : s.psm.conflict with
  | true => exact .inr (.inr (candidateNow_conflict hc))
  | false =>
    cases hl : s.psm.lid.debounced with
    | true => exact .inl (candidateNow_lid hc hl)
    | false =>
      cases ht : s.psm.tablet.debounced with
      | true => exact .inr (.inl (candidateNow_tablet hc hl ht))
      | false => exact .inr (.inr (candidateNow_fallback hc hl ht hn))

/-- Settles O38: the cases of R110 one by one, and the law of the band, which every command keeps. -/
theorem candidateIsTheFirstCaseThatApplies : Obligations.CandidateIsTheFirstCaseThatApplies := by
  refine ⟨fun s => ⟨candidateNow_conflict, candidateNow_lid, candidateNow_tablet,
    fun hc hl ht => ⟨fun hr => ?running, fun hr => ?stopped⟩, candidateNow_of_switches⟩, bandNeedsReference_kept⟩
  case running => exact ⟨candidateNow_band hc hl ht hr, candidateNow_band hc hl ht hr, candidateNow_band hc hl ht hr,
      fun hb => candidateNow_fallback hc hl ht (.inr hb)⟩
  case stopped => exact candidateNow_fallback hc hl ht (.inl hr)

/-! ## Debounced edges (R107) -/

/-- A debounced edge before PSM evaluates: the line has its new level, the conflict follows the debounced levels, and
HSI has been told. -/
def edgeTold (x : HingeSwitch) (s : State) : State :=
  edgeToHinge x (s.psm.line x).level
    (deriveConflict (s.setPsm (s.psm.setLine x { s.psm.line x with debounced := (s.psm.line x).level, count := none })))

theorem debouncedEdge_eq (x : HingeSwitch) (s : State) :
    debouncedEdge x s = evaluatePosture (x = .lid && (s.psm.line x).level) (edgeTold x s) := rfl

/-- What HSI hands back at an edge leaves the candidate and the current posture. -/
theorem receiveHinge_posture (s : State) :
    (receiveHinge s).psm.candidate = s.psm.candidate ∧ (receiveHinge s).psm.current = s.psm.current := by
  simp only [receiveHinge]
  split <;> simp [deriveBand_psm]

theorem edgeToHinge_posture (x : HingeSwitch) (asserted : Bool) (s : State) :
    (edgeToHinge x asserted s).psm.candidate = s.psm.candidate ∧
      (edgeToHinge x asserted s).psm.current = s.psm.current := by
  simp only [edgeToHinge, storeReference]
  repeat' split
  all_goals simp [receiveHinge_posture]

@[simp] theorem setLine_line (p : Psm) (x : HingeSwitch) (l : SwitchLine) : (p.setLine x l).line x = l := by
  cases x <;> rfl

/-- The line of an edge takes its level as the debounced one. -/
theorem debouncedEdge_line (x : HingeSwitch) (s : State) :
    (debouncedEdge x s).psm.line x = { s.psm.line x with debounced := (s.psm.line x).level, count := none } := by
  cases x <;> simp [debouncedEdge, Psm.line, Psm.setLine]

/-- A lid assertion without a conflict closes the posture at once (R112). -/
theorem debouncedEdge_closes {s : State} (hl : s.psm.lid.level = true) (ht : s.psm.tablet.debounced = false)
    (he : s.psm.evaluated = true) (hc : s.psm.candidate ≠ .closed) :
    (debouncedEdge .lid s).psm.current = .closed := by
  have hcand : (edgeTold .lid s).candidateNow = .closed :=
    candidateNow_lid (by simp [edgeTold, Psm.line, Psm.setLine, ht]) (by simp [edgeTold, Psm.line, Psm.setLine, hl])
  have hold : (edgeTold .lid s).psm.candidate = s.psm.candidate := by simp [edgeTold, edgeToHinge_posture]
  have hev : (edgeTold .lid s).psm.evaluated = true := by simp [edgeTold, he]
  have hne : ¬.closed = (edgeTold .lid s).psm.candidate := fun h => hc (hold ▸ h.symm)
  rw [debouncedEdge_eq]
  simp only [evaluatePosture, hev, hcand, hne, Bool.not_true, Bool.false_or, decide_false, Bool.false_eq_true, if_false,
    actOnCandidate_psm]
  split
  · rename_i hcur
    simpa using hcur.symm
  · simp [Psm.line, hl]

/-! ## The first evaluation (R117) -/

/-- A due edge gives its line the debounced level; with none due the line stands. -/
theorem dueEdge_line (x : HingeSwitch) (s : State) :
    ((dueEdge x s).psm.line x).debounced =
      if (s.psm.line x).count = some 20 then (s.psm.line x).level else (s.psm.line x).debounced := by
  simp only [dueEdge]
  split
  · rw [debouncedEdge_line]
  · rfl

theorem dueEdge_lid_tablet (s : State) : (dueEdge .lid s).psm.tablet = s.psm.tablet := by
  simp only [dueEdge]
  split <;> simp [debouncedEdge, Psm.setLine]

theorem dueEdge_tablet_lid (s : State) : (dueEdge .tablet s).psm.lid = s.psm.lid := by
  simp only [dueEdge]
  split <;> simp [debouncedEdge, Psm.setLine]

/-- At an edge the conflict is derived from the debounced levels. -/
theorem dueEdge_conflict (x : HingeSwitch) {s : State} (h : ConflictFollowsSwitches s) :
    ConflictFollowsSwitches (dueEdge x s) := by
  simp only [dueEdge]
  split
  · simp [ConflictFollowsSwitches, debouncedEdge]
  · exact h

/-- Only an assertion of the lid, which stores the closed reference, changes the angle and validity PSM holds. -/
theorem dueEdge_angle {x : HingeSwitch} {s : State}
    (hx : x = .lid → ((dueEdge x s).psm.line x).debounced = false) :
    (dueEdge x s).psm.angle = s.psm.angle ∧ (dueEdge x s).psm.validity = s.psm.validity := by
  rw [dueEdge_line] at hx
  simp only [dueEdge]
  split
  · rename_i hdue
    cases x with
    | tablet => simp [debouncedEdge, edgeToHinge]
    | lid =>
      have hl : (s.psm.line .lid).level = false := by simpa [hdue] using hx rfl
      simp [debouncedEdge, edgeToHinge, hl]
  · exact ⟨rfl, rfl⟩

theorem running_of_fsu {s t : State} (h : t.fsu = s.fsu) (j : Job) : t.running j = s.running j := by
  have hj : t.job j = s.job j := by cases j <;> simp [State.job, h]
  rw [running_eq, running_eq, hj]

/-- The candidate with a band derived afresh, after the first evaluation. -/
theorem candidateNow_fresh {s : State} (he : s.psm.evaluated = true) :
    (deriveBand true s).candidateNow =
      if s.psm.conflict then .unknown
      else if s.psm.lid.debounced then .closed
      else if s.psm.tablet.debounced then .tablet
      else if s.running .hinge = true ∧ s.psm.validity = .referenced then
        (nextBand s.psm.settings none s.psm.angle).posture
      else .unknown := by
  have hrun : (deriveBand true s).running .hinge = s.running .hinge := running_of_fsu (by simp) .hinge
  simp only [State.candidateNow, hrun, deriveBand_psm, he]
  by_cases hband : s.running .hinge = true ∧ s.psm.validity = .referenced
  · simp [hband]
  · cases hr : s.running .hinge with
    | false => simp
    | true =>
      have hv : s.psm.validity ≠ .referenced := fun h => hband ⟨hr, h⟩
      simp [hv]

/-- The candidate of the first evaluation becomes current without the dwell. -/
theorem firstEvaluation_current (s : State) :
    (firstEvaluation s).psm.current =
      if s.psm.conflict then .unknown
      else if s.psm.lid.debounced then .closed
      else if s.psm.tablet.debounced then .tablet
      else if s.running .hinge = true ∧ s.psm.validity = .referenced then
        (nextBand s.psm.settings none s.psm.angle).posture
      else .unknown := by
  simp only [firstEvaluation]
  generalize hu : (if (s.setPsm { s.psm with evaluated := true }).psm.conflict then _ else _ : State) = u
  have hp : u.psm = { s.psm with evaluated := true } := by rw [← hu]; split <;> simp
  have hr : u.running .hinge = s.running .hinge := running_of_fsu (by rw [← hu]; split <;> simp) .hinge
  have hcand := candidateNow_fresh (s := u) (by rw [hp])
  simp only [hp, hr] at hcand
  split
  · rename_i heq
    exact heq.symm.trans hcand
  · rw [changePosture_psm]
    exact hcand

theorem firstEvaluation_evaluated (s : State) : (firstEvaluation s).psm.evaluated = true := by
  simp only [firstEvaluation]
  repeat' split
  all_goals simp

/-- The first evaluation follows the edges that fall at its moment (R117). -/
theorem firstEvaluation_after_edges {s : State} (hc : ConflictFollowsSwitches s) :
    let lid := if s.psm.lid.count = some 20 then s.psm.lid.level else s.psm.lid.debounced
    let tablet := if s.psm.tablet.count = some 20 then s.psm.tablet.level else s.psm.tablet.debounced
    let t := firstEvaluation (dueEdge .tablet (dueEdge .lid s))
    t.psm.lid.debounced = lid ∧ t.psm.tablet.debounced = tablet ∧
      t.psm.current =
        (if lid && tablet then .unknown
         else if lid then .closed
         else if tablet then .tablet
         else if s.running .hinge = true ∧ s.psm.validity = .referenced then
           (nextBand s.psm.settings none s.psm.angle).posture
         else .unknown) := by
  intro lid tablet t
  have hlid1 : (dueEdge .lid s).psm.lid.debounced = lid := dueEdge_line .lid s
  have hlid : (dueEdge .tablet (dueEdge .lid s)).psm.lid.debounced = lid := by rw [dueEdge_tablet_lid, hlid1]
  have htab : (dueEdge .tablet (dueEdge .lid s)).psm.tablet.debounced = tablet := by
    have h := dueEdge_line .tablet (dueEdge .lid s)
    simpa only [Psm.line, dueEdge_lid_tablet] using h
  have hconf : (dueEdge .tablet (dueEdge .lid s)).psm.conflict = (lid && tablet) := by
    rw [dueEdge_conflict .tablet (dueEdge_conflict .lid hc), hlid, htab]
  have hrun : (dueEdge .tablet (dueEdge .lid s)).running .hinge = s.running .hinge := running_of_fsu (by simp) .hinge
  refine ⟨by simpa [t] using hlid, by simpa [t] using htab, ?_⟩
  simp only [t, firstEvaluation_current, hconf, hlid, htab, hrun]
  cases hl : lid with
  | true => simp
  | false =>
    obtain ⟨ha2, hv2⟩ := dueEdge_angle (x := .tablet) (s := dueEdge .lid s) nofun
    obtain ⟨ha1, hv1⟩ := dueEdge_angle (x := .lid) (s := s) fun _ => hlid1.trans hl
    simp [ha2, hv2, ha1, hv1]

/-! ## SET POSTURE THRESHOLDS (R116) -/

/-- A field of the width of `w` bits that is neither unchanged nor in the range is refused. -/
theorem readRange_eq_none {w : Nat} (lo hi : Nat) (v : BitVec w) :
    readRange lo hi v = none ↔ v ≠ BitVec.allOnes w ∧ (v.toNat < lo ∨ hi < v.toNat) := by
  by_cases hv : v = BitVec.allOnes w
  · simp [readRange, hv]
  · have hin : ¬(lo ≤ v.toNat ∧ v.toNat ≤ hi) ↔ v.toNat < lo ∨ hi < v.toNat := by omega
    simp only [readRange, hv, if_false, ite_eq_right_iff, reduceCtorEq, imp_false, hin, ne_eq, not_false_eq_true,
      true_and]

/-- A dwell timer that an expiry leaves running has not run for the setting. -/
theorem expireDwell_dwell {s : State} {n : Nat} (h : (expireDwell s).psm.dwell = some n) : n < s.psm.settings.dwell := by
  simp only [expireDwell] at h
  split at h
  · rename_i k hk
    split at h
    · simp at h
    · rename_i hlt
      obtain rfl : k = n := by simpa [hk] using h
      exact Nat.lt_of_not_le hlt
  · simp_all

/-- SET POSTURE THRESHOLDS with a place in the queue gives the reply and the state its owner gives. -/
theorem setPostureThresholds_replies (h : ReqHead) (a b c d e : BitVec 16) {s t : State} {st : Status} {x : List Byte}
    (ht : s.takes) (ha : answerSetPostureThresholds a b c d e s = (⟨st, x⟩, t)) :
    Replies (.setPostureThresholds h a b c d e) s st x t :=
  ⟨27, h, rfl, by
    rw [← ha]
    exact congrArg Host.Outcome.next (serve_answered _ ht (.inl rfl))⟩

/-- A field outside its range refuses the request. -/
theorem answerSetPostureThresholds_unread {a b c d e : BitVec 16} (s : State)
    (hn : readRange 1 4095 a = none ∨ readRange 1 4095 b = none ∨ readRange 1 4095 c = none ∨
      readRange 1 4095 d = none ∨ readRange 50 1000 e = none) :
    answerSetPostureThresholds a b c d e s = refuse .badValue s := by
  simp only [answerSetPostureThresholds]
  split
  · simp_all
  · rfl

/-- The settings a request asks for, the present values standing where it gives unchanged. -/
def requested (p : PostureSettings) (se sl te tl dw : Option Nat) : PostureSettings :=
  { standEnter := se.getD p.standEnter, standLeave := sl.getD p.standLeave, tabletEnter := te.getD p.tabletEnter,
    tabletLeave := tl.getD p.tabletLeave, dwell := dw.getD p.dwell }

/-- PSM with new settings: band and candidate are derived again, and an overdue dwell ends (R116). -/
def withThresholds (t : PostureSettings) (s : State) : State :=
  expireDwell (evaluatePosture false (deriveBand false (s.setPsm { s.psm with settings := t })))

/-- With every field read, the order of the thresholds decides. -/
theorem answerSetPostureThresholds_read {a b c d e : BitVec 16} {se sl te tl dw : Option Nat} (s : State)
    (ha : readRange 1 4095 a = some se) (hb : readRange 1 4095 b = some sl) (hc : readRange 1 4095 c = some te)
    (hd : readRange 1 4095 d = some tl) (he : readRange 50 1000 e = some dw) :
    answerSetPostureThresholds a b c d e s =
      if (requested s.psm.settings se sl te tl dw).ordered then
        answer .ok [] (withThresholds (requested s.psm.settings se sl te tl dw) s)
      else refuse .badValue s := by
  simp only [answerSetPostureThresholds, ha, hb, hc, hd, he]
  rfl

theorem ordered_iff (t : PostureSettings) :
    t.ordered = true ↔ t.standLeave < t.standEnter ∧ t.standEnter ≤ t.tabletLeave ∧ t.tabletLeave < t.tabletEnter := by
  simp [PostureSettings.ordered, and_assoc]

theorem withThresholds_dwell {t : PostureSettings} {s : State} {n : Nat}
    (h : (withThresholds t s).psm.dwell = some n) : n < t.dwell := by
  simpa using expireDwell_dwell h

theorem withThresholds_rest (t : PostureSettings) (s : State) :
    (withThresholds t s).psm.settings = t ∧ (withThresholds t s).psm.lid = s.psm.lid ∧
      (withThresholds t s).psm.tablet = s.psm.tablet ∧ (withThresholds t s).fsu = s.fsu ∧
      (withThresholds t s).time = s.time := by
  simp [withThresholds]

/-! ## The dwell (R112, R113) -/

theorem expireDwell_due {s : State} {n : Nat} (hn : s.psm.dwell = some n) (hd : s.psm.settings.dwell ≤ n) :
    expireDwell s = changePosture s.psm.candidate s := by
  simp [expireDwell, hn, hd]

theorem expireDwell_early {s : State} (h : ∀ n, s.psm.dwell = some n → n < s.psm.settings.dwell) :
    expireDwell s = s := by
  simp only [expireDwell]
  split
  · rename_i n hn
    rw [if_neg (Nat.not_le.mpr (h n hn))]
  · rfl

/-! ## The events and the request -/

/-- DWELL_EXPIRED at the setting is a change of posture to the candidate (R112, R113). -/
theorem dwellExpired_changes {s : State} {n : Nat} (hn : s.psm.dwell = some n) (hd : s.psm.settings.dwell ≤ n) :
    ∃ t, exec .dwellExpired s = .next t ∧ t.psm.current = s.psm.candidate ∧ t.psm.dwell = none ∧
      t.psm.lastChange = some (s.time, s.psm.current) ∧ Listed .postureChanged s t ∧
      (s.psm.current = .closed → Listed .lidOpened s t) ∧
      (s.psm.candidate = .closed → Listed .lidClosed s t) ∧ t.fsu = s.fsu ∧ t.sts = s.sts :=
  ⟨changePosture s.psm.candidate s, congrArg Host.Outcome.next (expireDwell_due hn hd), by simp, by simp, by simp,
    changePosture_listed _ s, changePosture_opened _, fun hc => hc ▸ changePosture_closed s, by simp, by simp⟩

theorem switchDebouncedEdge_due {x : HingeSwitch} {s : State} (hx : (s.psm.line x).count = some 20) :
    exec (.switchDebouncedEdge x) s = .next (debouncedEdge x s) :=
  congrArg Host.Outcome.next (if_pos hx)

/-- Settles O37: each event of PSM by the state it leaves, and SET POSTURE THRESHOLDS by what its fields read as. -/
theorem postureEventsAndThresholds : Obligations.PostureEventsAndThresholds := by
  refine ⟨fun s => ⟨fun _ _ => rfl, fun x hx => ?edge, fun x hx => congrArg Host.Outcome.next (if_neg hx),
    fun n hn hd => dwellExpired_changes hn hd, fun h => congrArg Host.Outcome.next (expireDwell_early h),
    fun he hp hc => ?first, fun h => ?notFirst⟩, fun h a b c d e s ht => ⟨fun hn => ?unread, ?read, fun v => ?range⟩⟩
  case edge =>
    refine ⟨_, switchDebouncedEdge_due hx, by rw [debouncedEdge_line], by rw [debouncedEdge_line], by simp, ?_⟩
    rintro rfl hl ht he hc
    exact debouncedEdge_closes hl ht he hc
  case first =>
    obtain ⟨hlid, htab, hcur⟩ := firstEvaluation_after_edges hc
    exact ⟨_, congrArg Host.Outcome.next (if_pos ⟨he, hp⟩), firstEvaluation_evaluated _, hlid, htab, hcur, by simp⟩
  case notFirst =>
    refine congrArg Host.Outcome.next (if_neg fun ⟨he, hp⟩ => ?_)
    rcases h with h | h
    · exact absurd (he.symm.trans h) (by decide)
    · exact absurd hp (Nat.not_le.mpr h)
  case unread => exact setPostureThresholds_replies h a b c d e ht (answerSetPostureThresholds_unread s hn)
  case read =>
    intro se sl te tl dw ha hb hc hd he
    have hr := answerSetPostureThresholds_read s ha hb hc hd he
    refine ⟨fun h1 h2 h3 => ?_, fun hno => ?_⟩
    · rw [if_pos ((ordered_iff (requested s.psm.settings se sl te tl dw)).mpr ⟨h1, h2, h3⟩)] at hr
      obtain ⟨hset, hrest⟩ := withThresholds_rest (requested s.psm.settings se sl te tl dw) s
      exact ⟨_, setPostureThresholds_replies h a b c d e ht hr, hset, fun n => withThresholds_dwell, hrest⟩
    · rw [if_neg fun ho => hno ((ordered_iff (requested s.psm.settings se sl te tl dw)).mp ho)] at hr
      exact setPostureThresholds_replies h a b c d e ht hr
  case range =>
    rw [readRange_eq_none, ne_eq, ne_eq, ← BitVec.toNat_inj]
    rfl

end Sys2Proof.PostureProofs
end
